-- ==== Sys2Proof/Word.lean ====
section
/-! DEFINITION. The widths the manual gives its numbers (00_scope.md, Conventions). -/

namespace Sys2Proof

/-- A word of the Video Intake Bus, the Peer Line payload and the Output Band Port. -/
abbrev Word16 := BitVec 16

/-- A value of a control transaction, and a total (Conventions: 32-bit). -/
abbrev Word32 := BitVec 32

/-- One byte of a control transaction. -/
abbrev Byte := BitVec 8

/-- Field and frame numbers: 16-bit, counted modulo 65536. -/
abbrev FieldNo := BitVec 16

/-- The roster epoch: 8-bit, modulo 256. -/
abbrev Epoch := BitVec 8

/-- A station number, 0 to 7. -/
abbrev Station := Fin 8

/-- A 10-bit sample, 0 to 1023. -/
abbrev Sample := BitVec 10

/-- A signed coefficient, −2048 to 2047 (R177). -/
abbrev Coeff := BitVec 12

/-- A 16-bit check over a bank (R181) or over the configuration (R210). -/
abbrev Digest := BitVec 16

end Sys2Proof
end

