-- ==== Sys2Proof/Syntax.lean ====
section
/-! DEFINITION. The commands of the station (one constructor for each row of
spec/opcode_table.json) and the records they carry. -/

namespace Sys2Proof

/-! ## Records -/

/-- Field parity (R16: 0 TOP, 1 BOTTOM). -/
inductive Parity where
  | top
  | bottom
deriving DecidableEq, Repr

/-- Kind of a band (R1). -/
inductive BandKind where
  | full
  | fill
deriving DecidableEq, Repr

/-- The two coefficient banks (R177). -/
inductive BankName where
  | bankA
  | bankB
deriving DecidableEq, Repr

/-- The two tables of a bank (R177). -/
inductive TableName where
  | vertical
  | horizontal
deriving DecidableEq, Repr

/-- The samples of one line, in Y, Cb and Cr. -/
structure LineSamples where
  y : List Sample
  cb : List Sample
  cr : List Sample
deriving DecidableEq, Repr

/-- The signature of a closed round (R99, in the order of its table). -/
inductive Signature where
  | none
  | still
  | repeated
  | pairPrev
  | motion
deriving DecidableEq, Repr

/-- Film pulldown kind (R108). -/
inductive FilmKind where
  | twoTwo
  | threeTwo
deriving DecidableEq, Repr

/-- The cadence record (R108). Each state carries exactly the fields R108 gives as present in it. -/
inductive Cadence where
  | video
  | candidate (kind : FilmKind) (phase : Nat) (count : Nat)
  | film (kind : FilmKind) (phase : Nat)
  | forcedMa
  | forcedBob
  | forcedFilm (kind : FilmKind) (phase : Nat)
deriving DecidableEq, Repr

/-- Modes of the blend loop (R123). -/
inductive LoopMode where
  | auto
  | held
  | off
deriving DecidableEq, Repr

/-- The loop record (R123); `history` is newest first. -/
structure LoopRecord where
  mode : LoopMode
  t : Nat
  history : List Nat
  trendUp : Bool
  trendDown : Bool
deriving DecidableEq, Repr

/-- A pending bank selection (R185). -/
structure PendingSelection where
  bank : BankName
  digest : Digest
  target : FieldNo
deriving DecidableEq, Repr

/-- The bank record (R185). -/
structure BankRecord where
  active : BankName
  digest : Digest
  pending : Option PendingSelection
deriving DecidableEq, Repr

/-- State of a roster entry (R76). -/
inductive EntryStanding where
  | joining
  | active
deriving DecidableEq, Repr

/-- One roster entry (R76). -/
structure RosterEntry where
  station : Station
  standing : EntryStanding
  missed : Nat
deriving DecidableEq, Repr

/-- The six figures of a DATA report (R86, R87). -/
structure Figures where
  d1 : Nat
  d2 : Nat
  comb : Nat
  stillTotal : Nat
  stillCount : Nat
  samples : Nat
deriving DecidableEq, Repr

/-- A report held in a round record (R91); `figures = none` is NODATA. -/
structure RoundReport where
  station : Station
  figures : Option Figures
deriving DecidableEq, Repr

/-- A round record (R91). -/
structure Round where
  field : FieldNo
  expected : List Station
  reports : List RoundReport
deriving DecidableEq, Repr

/-- The Agreed State (R61, R71, R91). -/
structure AgreedState where
  roster : List RosterEntry
  epoch : Epoch
  openRounds : List Round
  lastClosed : Option FieldNo
  lastSignature : Signature
  cadence : Cadence
  loop : LoopRecord
  bank : BankRecord
deriving DecidableEq, Repr

/-- The sub-mode code of a FORCE parcel (R119); `other` names none of the five. -/
inductive ForceCode where
  | ma
  | bob
  | film22
  | film32
  | release
  | other (code : Nat)
deriving DecidableEq, Repr

/-- The mode code of a LOOP_SET parcel (R127); `other` names none of the three. -/
inductive LoopCode where
  | auto
  | held
  | off
  | other (code : Nat)
deriving DecidableEq, Repr

/-- The bank code of a BANK_SELECT parcel (R188); `other` is neither A nor B. -/
inductive BankCode where
  | named (bank : BankName)
  | other (code : Nat)
deriving DecidableEq, Repr

/-- The kinds of parcel, in the order of R41. -/
inductive ParcelKind where
  | close
  | leave
  | snapshot
  | join
  | force
  | loopSet
  | bankSelect
  | report
  | halo
deriving DecidableEq, Repr

/-- A HALO parcel's named fields (R154). -/
structure HaloParcel where
  addressee : Station
  frame : FieldNo
  line : Nat
  samples : LineSamples
deriving DecidableEq, Repr

/-- The named fields of a parcel, by kind (R41 and the owner chapters). -/
inductive Content where
  | close (field : FieldNo)
  | leave
  | snapshot (joiner : Station) (carried : AgreedState)
  | join (digest : Digest) (founding : Bool) (words : List Word16)
  | force (code : ForceCode) (phase : Nat)
  | loopSet (code : LoopCode) (value : Nat)
  | bankSelect (bank : BankCode) (digest : Digest) (target : FieldNo)
  | report (field : FieldNo) (figures : Option Figures) (up : Nat) (down : Nat)
  | halo (parcel : HaloParcel)
deriving DecidableEq, Repr

/-- A parcel on the line: its sender, its sender epoch and its content (R39, R44). -/
structure Parcel where
  sender : Station
  epoch : Epoch
  content : Content
deriving DecidableEq, Repr

/-- A parcel as ONE station read it up to its acknowledgement slot: the parts of R39 as read,
whether it reached the slot complete (R40), and the named fields its payload gives. The manual
does not give the packing of the fields into words, so both stand side by side (log entry 12). -/
structure Reading where
  complete : Bool
  priority : BitVec 4
  station : BitVec 3
  epoch : Epoch
  length : BitVec 11
  payload : List Word16
  check : BitVec 16
  content : Content
deriving DecidableEq, Repr

/-! ## Commands -/

/-- The commands, one constructor for each row of the table, in the table's order. -/
inductive Instr where
  /-- POWER_ON_RESET: release of the reset pin, with the strap pins' level. -/
  | powerOnReset (straps : Station)
  /-- FIELD_BEGIN: the marker's bus words (R16). -/
  | fieldBegin (words : List Word16)
  /-- LINE_RECORD: the record's bus words (R16). -/
  | lineRecord (words : List Word16)
  /-- FIELD_END: the marker's bus words (R16). -/
  | fieldEnd (words : List Word16)
  /-- LISTEN_PERIOD_END (R66). -/
  | listenPeriodEnd
  /-- SNAPSHOT_WAIT_END (R74). -/
  | snapshotWaitEnd
  /-- ISOLATION_WAIT_END (R83). -/
  | isolationWaitEnd
  /-- ANALYSIS_HANDOVER (R88). -/
  | analysisHandover
  /-- VOTE_TIMER_EXPIRY for a field number (R95). -/
  | voteTimerExpiry (field : FieldNo)
  /-- CLOSE_REQUEUE (R95). -/
  | closeRequeue
  /-- LEAVE_REQUEUE (R79). -/
  | leaveRequeue
  /-- IDLE_POINT, with the lowest arbitration value other stations drive there, if any (R43). -/
  | idlePoint (others : Option (Fin 128))
  /-- IDLE_MONITOR_EXPIRY (R38). -/
  | idleMonitorExpiry
  /-- OWN_TRANSMISSION_NOT_SEEN (R38). -/
  | ownTransmissionNotSeen
  /-- PARCEL_CUT_SHORT (R45). -/
  | parcelCutShort
  /-- PARCEL_VOID: a slot closes with VOID asserted; the parcel as this station read it (R46, R51). -/
  | parcelVoid (reading : Reading)
  /-- PARCEL_DISCARD (R51). -/
  | parcelDiscard
  /-- ISOLATION_NOTICE (R52). -/
  | isolationNotice
  /-- TAKE_CLOSE (R96). -/
  | takeClose (sender : Station) (epoch : Epoch) (field : FieldNo)
  /-- TAKE_LEAVE (R80). -/
  | takeLeave (sender : Station) (epoch : Epoch)
  /-- TAKE_SNAPSHOT (R72, R73). -/
  | takeSnapshot (sender : Station) (epoch : Epoch) (joiner : Station) (carried : AgreedState)
  /-- TAKE_JOIN (R69). -/
  | takeJoin (sender : Station) (epoch : Epoch) (digest : Digest) (founding : Bool)
      (words : List Word16)
  /-- TAKE_FORCE (R119). -/
  | takeForce (sender : Station) (epoch : Epoch) (code : ForceCode) (phase : Nat)
  /-- TAKE_LOOP_SET (R127). -/
  | takeLoopSet (sender : Station) (epoch : Epoch) (code : LoopCode) (value : Nat)
  /-- TAKE_BANK_SELECT (R188). -/
  | takeBankSelect (sender : Station) (epoch : Epoch) (bank : BankCode) (digest : Digest)
      (target : FieldNo)
  /-- TAKE_REPORT (R89). -/
  | takeReport (sender : Station) (epoch : Epoch) (field : FieldNo) (figures : Option Figures)
      (up : Nat) (down : Nat)
  /-- MISSED_ROUND_REMOVAL (R77). -/
  | missedRoundRemoval
  /-- TAKE_HALO (R154). -/
  | takeHalo (sender : Station) (epoch : Epoch) (parcel : HaloParcel)
  /-- PENDING_SET_OFFER (R153). -/
  | pendingSetOffer
  /-- BUILD_START (R136). -/
  | buildStart
  /-- BUILD_LINE (R138). -/
  | buildLine
  /-- HALO_WAIT_EXPIRY (R163). -/
  | haloWaitExpiry
  /-- ROW_WRITE (R174). -/
  | rowWrite
  /-- COMMIT_COMPLETE (R181). -/
  | commitComplete
  /-- OUTPUT_START for a frame (R193). -/
  | outputStart (frame : FieldNo)
  /-- ROW_EMIT (R197). -/
  | rowEmit
  /-- TRANSACTION_INCOMPLETE, with the number of rising clock edges seen (R204). -/
  | transactionIncomplete (edges : Nat)
  /-- NO_REQUEST (R205). -/
  | noRequest
  /-- CONFIG_WRITE: item number and value (R208). -/
  | configWrite (item : Word16) (value : Word32)
  /-- STAGING_PAGE_WRITE: item number and value (R179). -/
  | stagingPageWrite (item : Word16) (value : Word32)
  /-- EVENT_ENABLES_WRITE (R218). -/
  | eventEnablesWrite (value : Word32)
  /-- WRITE_OTHER: the eight request bytes of any other taken transaction (R205, R206; log entry 6). -/
  | writeOther (bytes : Vector Byte 8)
  /-- START; the argument is disregarded (R211, R212). -/
  | start (value : Word32)
  /-- STOP; the argument is disregarded (R211, R213). -/
  | stop (value : Word32)
  /-- RESET, with the strap pins' level; the argument is disregarded (R211, R214). -/
  | reset (value : Word32) (straps : Station)
  /-- FORCE (R120). -/
  | force (value : Word32)
  /-- LOOP (R128). -/
  | loop (value : Word32)
  /-- SELECT_BANK (R187). -/
  | selectBank (value : Word32)
  /-- COMMIT_PAGE (R180). -/
  | commitPage (value : Word32)
  /-- CLEAR_BANK (R183). -/
  | clearBank (value : Word32)
  /-- EVENT_CLEAR (R219). -/
  | eventClear (value : Word32)
  /-- SEGMENT_MARK; the argument is disregarded (R216). -/
  | segmentMark (value : Word32)
  /-- PROGRAMME_CLEAR; the argument is disregarded (R216). -/
  | programmeClear (value : Word32)
  /-- RESET_PIN_DRIVEN_LOW (R214). -/
  | resetPinDrivenLow
deriving DecidableEq, Repr

end Sys2Proof
end

