-- ==== Sys2Proof/Config.lean ====
section
/-! DEFINITION. What is fixed for every station (sizes the rules give), and the free values:
constants without a body, so that no proof can know what they are. -/

namespace Sys2Proof

/-- Free value (log entry 10): the raw reading of the halo wait timer at the n-th draw (R167).
The item shown is bounded by the configured limit. -/
opaque Config.haloTimeLeft : Nat → Nat

/-- Free value (log entry 11): at the n-th draw, whether the Scaler is told of the upper side
before the lower when one event resolves both (R163, R165, R175 give no order). -/
opaque Config.upperToldFirst : Nat → Bool

/-- Free value (log entry 12): the words of a parcel's payload that no field fills alone. R41 and the
owner chapters name the fields a payload carries and how many words it has, and give no packing of
the smaller fields into the words. -/
opaque Config.payloadWord : Content → Nat → Word16

/-- Free value (log entry 12): how many words beyond the first a SNAPSHOT's Agreed State takes (R41
gives 1 to 300 words and no packing). -/
opaque Config.snapshotExtra : AgreedState → Nat

/-- Source samples of a line (Conventions): 720 Y. -/
def Config.lumaWidth : Nat := 720

/-- 360 Cb and 360 Cr samples a line. -/
def Config.chromaWidth : Nat := 360

/-- R54: the Urgent Queue holds up to 8 parcels. -/
def Config.urgentCapacity : Nat := 8

/-- R55: the Bulk Queue holds up to 16 HALO parcels. -/
def Config.bulkCapacity : Nat := 16

/-- R84: the pending list holds at most 16 analyses. -/
def Config.analysisCapacity : Nat := 16

/-- R51: a parcel is carried at most 8 times. -/
def Config.maxAttempts : Nat := 8

end Sys2Proof
end

