-- ==== Sys2Proof/Machine/State.lean ====
section
/-! DEFINITION. The state of one station, block by block (00_scope.md, Blocks), as plain data, and
its value after reset. -/

namespace Sys2Proof.Machine

/-! ## Field Store and Line Intake (R19, R26 to R31) -/

/-- States of a line entry (R28, R29). -/
inductive EntryState where
  | absent
  | valid
  | dropout
  | lost
  | repaired
deriving DecidableEq, Repr

/-- A dropout span: start 0 to 719 and length 1 to 720 (R18). -/
structure Span where
  start : Nat
  length : Nat
deriving DecidableEq, Repr

/-- A line entry (R28). -/
structure LineEntry where
  line : Nat
  state : EntryState
  spans : List Span
  samples : Option LineSamples
deriving DecidableEq, Repr

/-- A holder of a slot (R31): the build, or an analysis named by the claim of its field's slot. -/
inductive Holder where
  | build
  | analysis (claim : Word16)
deriving DecidableEq, Repr

/-- What a FILLING or CLOSED slot holds (R26). -/
structure Occupant where
  closed : Bool
  field : FieldNo
  parity : Parity
  claim : Word16
  declared : Option Nat
  table : List LineEntry
deriving DecidableEq, Repr

/-- A field slot (R26): FREE when it has no occupant, else FILLING or CLOSED. -/
structure Slot where
  occupant : Option Occupant
  holders : List Holder
deriving DecidableEq, Repr

/-- The Field Store (R26): five slots and the claim counter. -/
structure FieldStore where
  slots : List Slot
  claimCounter : Word16
deriving DecidableEq, Repr

/-- The open-field marker (R19); `slot = none` is DISCARDED. -/
structure OpenField where
  field : FieldNo
  parity : Parity
  slot : Option Nat
deriving DecidableEq, Repr

/-- Line Intake (R19). The stray count is the total STRAY_LINES of the Control Port. -/
structure Intake where
  marker : Option OpenField
  duplicates : Word32
deriving DecidableEq, Repr

/-! ## Field Analyser (R84) -/

/-- What the tests of R85 at the start of an analysis settled. -/
inductive AnalysisStart where
  /-- NODATA without reading a slot. -/
  | nodata
  /-- The slots held since the field end for fields N, N−1 and N−2 (R31). -/
  | reading (current previous beforePrevious : Nat)
deriving DecidableEq, Repr

/-- The slots found for fields N, N−1 and N−2 at the field end of N (R31), each absent where its field
was not held. -/
structure AnalysisSlots where
  current : Option Nat
  previous : Option Nat
  beforePrevious : Option Nat
deriving DecidableEq, Repr

/-- A pending analysis: its field, the claim that names its holds (none without a slot), the slots
those holds keep for it, and its start once it has become the head. -/
structure Analysis where
  field : FieldNo
  claim : Option Word16
  held : AnalysisSlots
  start : Option AnalysisStart
deriving DecidableEq, Repr

/-- The last result (R84); `figures = none` is NODATA. -/
structure AnalysisResult where
  field : FieldNo
  figures : Option Figures
deriving DecidableEq, Repr

/-- The Field Analyser (R84). -/
structure Analyser where
  pending : List Analysis
  accumulators : Figures
  lastResult : Option AnalysisResult
deriving DecidableEq, Repr

/-! ## Consensus Unit (R61, R94, R107) -/

/-- Membership states, in the order of R61. -/
inductive Membership where
  | offline
  | listening
  | joining
  | member
  | leaving
  | isolated
  | stopped
deriving DecidableEq, Repr

/-- A running vote timer (R94), with whether the result of its field has been handed over. -/
structure VoteTimer where
  field : FieldNo
  handed : Bool
deriving DecidableEq, Repr

/-- The Consensus Unit. -/
structure Consensus where
  membership : Membership
  heard : List Station
  foundingBar : Bool
  listenCount : Nat
  snapshotWait : Nat
  isolationWait : Nat
  leaveOwed : Bool
  agreed : AgreedState
  timers : List VoteTimer
  heldExpiries : List FieldNo
  owedCloses : List FieldNo
  completeCount : Word32
  closedCount : Word32
  supersededCount : Word32
  overtakenCount : Word32
deriving DecidableEq, Repr

/-! ## Peer Line Interface (R35, R54 to R59) -/

/-- A parcel in the Urgent Queue: the fields fixed when it is queued (R44). -/
inductive Queued where
  | close (field : FieldNo)
  | leave
  | snapshot (joiner : Station)
  | join (digest : Digest) (founding : Bool) (words : List Word16)
  | force (code : ForceCode) (phase : Nat)
  | loopSet (code : LoopCode) (value : Nat)
  | bankSelect (bank : BankName) (digest : Digest) (target : FieldNo)
  | report (field : FieldNo) (figures : Option Figures) (up : Nat) (down : Nat)
deriving DecidableEq, Repr

/-- Who asked for a withdrawal mark (R58): a selective request, or a flush. -/
inductive MarkCause where
  | withdrawn
  | flushed
deriving DecidableEq, Repr

/-- The station's parcel in transmission (R43): the head of one queue, as filled at its begin, and the
parts it drives on the line, header, payload and check (R39, R40, R44). -/
structure Transmission where
  bulk : Bool
  parcel : Parcel
  mark : Option MarkCause
  sent : Reading
deriving DecidableEq, Repr

/-- What the station drove in the VOID position of the last slot it saw (R46). -/
inductive AckDrive where
  | none
  | recessive
  | void
deriving DecidableEq, Repr

/-- The Peer Line Interface. -/
structure LineInterface where
  attached : Bool
  urgent : List Queued
  bulk : List HaloParcel
  urgentAttempts : Nat
  bulkAttempts : Nat
  urgentDiscards : Nat
  tx : Option Transmission
  idleMonitor : Bool
  ackDrive : AckDrive
deriving DecidableEq, Repr

/-! ## Line Builder (R130) -/

/-- The pairings, in the order of R121. -/
inductive Pairing where
  | ma
  | bob
  | weaveNext
  | weavePrev
deriving DecidableEq, Repr

/-- A decision record (R102). -/
structure DecisionRecord where
  field : FieldNo
  signature : Signature
  cadence : Cadence
  t : Nat
deriving DecidableEq, Repr

/-- Phases of a build (R138, R170): the build record's states and the scaling record's phases. -/
inductive BuildPhase where
  | lines
  | interior
  | edges
deriving DecidableEq, Repr

/-- A field found at build start (R136 step 2): its slot and parity. -/
structure FoundField where
  slot : Nat
  parity : Parity
deriving DecidableEq, Repr

/-- An entry of field N repaired by the build in progress, with the samples it filled (R144):
one mark for each Y position, and one for each chroma position. -/
structure RepairedEntry where
  line : Nat
  luma : List Bool
  chroma : List Bool
deriving DecidableEq, Repr

/-- The build record (R136). -/
structure BuildRecord where
  phase : BuildPhase
  frame : FieldNo
  agreed : Bool
  pairing : Pairing
  effective : Pairing
  t : Nat
  signature : Signature
  beforePrevious : Option FoundField
  previous : Option FoundField
  current : Option FoundField
  following : Option FoundField
  built : Nat
  repairs : List RepairedEntry
deriving DecidableEq, Repr

/-- A line of the Progressive Line Buffer (R130): NOT_BUILT when it holds no samples. -/
structure CoreLine where
  samples : Option LineSamples
  repaired : Bool
deriving DecidableEq, Repr

/-- A frame list entry (R130). -/
structure FrameEntry where
  frame : FieldNo
  overtaken : Bool
deriving DecidableEq, Repr

/-- The Line Builder (R130). -/
structure Builder where
  build : Option BuildRecord
  frames : List FrameEntry
  decisions : List DecisionRecord
  newestBegun : Option FieldNo
  lastEnded : Option FieldNo
  lastBegun : Option FieldNo
  lastRequested : Option FieldNo
  bufferFrame : Option FieldNo
  lines : List CoreLine
deriving DecidableEq, Repr

/-! ## Halo Exchange (R150, R158, R162) -/

/-- States of a receive slot (R158). -/
inductive ReceiveState where
  | free
  | filling
  | complete
  | inUse
deriving DecidableEq, Repr

/-- A receive slot (R158): one place for each expected frame line, in line order. -/
structure ReceiveSlot where
  state : ReceiveState
  frame : Option FieldNo
  received : List (Option LineSamples)
deriving DecidableEq, Repr

/-- A halo set (R151): its frame and its lines with their frame line numbers. -/
structure HaloSet where
  frame : FieldNo
  lines : List (Nat × LineSamples)
deriving DecidableEq, Repr

/-- An outbound record (R150, R155); `lossCounted` says its first discard has been counted. -/
structure Outbound where
  frame : FieldNo
  remaining : Nat
  taken : Nat
  lossCounted : Bool
deriving DecidableEq, Repr

/-- A direction record (R150). -/
structure Direction where
  credit : Nat
  pending : Option HaloSet
  outbound : List Outbound
  slots : List ReceiveSlot
  release : Nat
  letGo : Option FieldNo
  setsSent : Word32
  setsSuperseded : Word32
  setsLost : Word32
deriving DecidableEq, Repr

/-- The two sides of the core range: upper (the up direction) and lower (the down direction). -/
inductive Side where
  | upper
  | lower
deriving DecidableEq, Repr

/-- A halo line of a resolved side (R162). FILL and CLAMPED lines hold no copy: their samples are
the fill colour's and those of the outermost core line of the side. -/
inductive HaloLine where
  | neighbour (samples : LineSamples)
  | fill
  | clamped
deriving DecidableEq, Repr

/-- A side record (R162): UNRESOLVED while it holds no lines. -/
structure SideRecord where
  lines : Option (List HaloLine)
deriving DecidableEq, Repr

/-- Halo Exchange (R150). -/
structure Halo where
  up : Direction
  down : Direction
  upperSide : Option SideRecord
  lowerSide : Option SideRecord
  timer : Bool
deriving DecidableEq, Repr

/-! ## Scaler (R168, R177) -/

/-- States of a coefficient bank, in the order of R177's table. -/
inductive BankState where
  | empty
  | loading
  | writing
  | ready
deriving DecidableEq, Repr

/-- A coefficient bank (R177); bit `8 × table + page` of `pages` is the page's membership. -/
structure Bank where
  state : BankState
  vertical : List Coeff
  horizontal : List Coeff
  pages : BitVec 16
  digest : Digest
deriving DecidableEq, Repr

/-- The commit in flight (R180). -/
structure Commit where
  bank : BankName
  table : TableName
  page : Nat
  coeffs : List Coeff
deriving DecidableEq, Repr

/-- The outgoing bank (R186). -/
structure Outgoing where
  bank : BankName
  digest : Digest
  switchFrame : FieldNo
deriving DecidableEq, Repr

/-- Edge row state of a side (R168). -/
inductive EdgeState where
  | none
  | waiting
  | written
deriving DecidableEq, Repr

/-- The scaling record (R168). `bank = none` is the build bank NONE. `todo` holds the rows still to
write of the group being written, `current` the side that group belongs to in EDGES, and `queue`
the resolved sides not yet begun, in the order of R175. -/
structure ScalingRecord where
  frame : FieldNo
  agreed : Bool
  bank : Option BankName
  digest : Option Digest
  phase : BuildPhase
  rows : Nat
  upper : EdgeState
  lower : EdgeState
  todo : List Nat
  current : Option Side
  queue : List Side
deriving DecidableEq, Repr

/-- The Scaler (R168). -/
structure Scaler where
  scaling : Option ScalingRecord
  outgoing : Option Outgoing
  bankA : Bank
  bankB : Bank
  staging : List Coeff
  commit : Option Commit
deriving DecidableEq, Repr

/-! ## Output Port (R190) -/

/-- The row flags the Scaler writes (R174). -/
structure RowFlags where
  unagreed : Bool
  repaired : Bool
  seamClamped : Bool
  black : Bool
deriving DecidableEq, Repr

/-- A band row held in a Frame Buffer (R190). -/
structure StoredRow where
  row : Nat
  samples : LineSamples
  flags : RowFlags
deriving DecidableEq, Repr

/-- States of a Frame Buffer that is not FREE (R190). -/
inductive BufferState where
  | building
  | complete
  | showing
deriving DecidableEq, Repr

/-- What a Frame Buffer holds when not FREE; `rows` in the order written, so that rows written is
its length. -/
structure Held where
  state : BufferState
  frame : FieldNo
  rows : List StoredRow
deriving DecidableEq, Repr

/-- The source of an emission's rows (R190): FB0 or FB1, black, or fill. -/
inductive RowSource where
  | buffer (index : Bool)
  | black
  | fill
deriving DecidableEq, Repr

/-- The emission record (R190). -/
structure Emission where
  requested : FieldNo
  source : RowSource
  shown : Option FieldNo
  repeats : Bool
  next : Nat
deriving DecidableEq, Repr

/-- The kind of an answer (R190). -/
inductive AnswerKind where
  | shown
  | repeated
  | black
  | fill
  | none
deriving DecidableEq, Repr

/-- The Output Port (R190). A buffer is FREE when it holds nothing. `lastRow` is the words of the
row last sent (R199). -/
structure OutputPort where
  fb0 : Option Held
  fb1 : Option Held
  emission : Option Emission
  lastAnswer : AnswerKind
  lastAsked : Option FieldNo
  lastRow : List Word16
deriving DecidableEq, Repr

/-! ## Control Port (R204 to R219) -/

/-- One entry of the band rule table (R1). -/
structure BandRule where
  limit : Nat
  owner : Station
  kind : BandKind
deriving DecidableEq, Repr

/-- The configuration items (R208). `mode525` is the format code, `large` the output size code. -/
structure ConfigItems where
  mode525 : Bool
  large : Bool
  ruleCount : Nat
  voteWindow : Nat
  haloWait : Nat
  stillLimit : Nat
  combLimit : Nat
  loopGain : Nat
  fillY : Nat
  fillCb : Nat
  fillCr : Nat
  rules : List BandRule
deriving DecidableEq, Repr

/-- A seam (R10); NONE before START and at a FILL owner. -/
inductive Seam where
  | pictureEdge
  | fillSeam
  | peer (station : Station)
  | none
deriving DecidableEq, Repr

/-- The derived ownership record (section 1.3). `rule` is the rule index and kind. -/
structure Ownership where
  rule : Option (Nat × BandKind)
  coreLow : Nat
  coreHigh : Nat
  windowLow : Nat
  windowHigh : Nat
  topLines : Option (Nat × Nat)
  bottomLines : Option (Nat × Nat)
  firstRow : Nat
  rowCount : Nat
  upper : Seam
  lower : Seam
deriving DecidableEq, Repr

/-- Result codes (R205), in code order. -/
inductive ResultCode where
  | none
  | ok
  | refusedLocked
  | refusedState
  | busy
  | bankActive
  | badValue
  | badTable
  | noCoefficients
  | queueFull
deriving DecidableEq, Repr

/-- The previous result (R205). -/
structure PortResult where
  kind : Byte
  item : Word16
  code : ResultCode
  value : Word32
deriving DecidableEq, Repr

/-- The fourteen totals (R215). -/
structure Totals where
  temporalSeg : Word32
  temporalProg : Word32
  spatialSeg : Word32
  spatialProg : Word32
  unrepairedSeg : Word32
  unrepairedProg : Word32
  lostSeg : Word32
  lostProg : Word32
  lateFrames : Word32
  clampedRows : Word32
  unagreedFrames : Word32
  fieldDiscards : Word32
  strayLines : Word32
  parcelDiscards : Word32
deriving DecidableEq, Repr

/-- The Control Port. `dataOut` is the eight bytes shifted out in the last transaction (R204). -/
structure ControlPort where
  config : ConfigItems
  lock : Bool
  digest : Digest
  station : Station
  ownership : Ownership
  result : PortResult
  dataOut : Vector Byte 8
  events : BitVec 12
  enables : BitVec 12
  totals : Totals
  resetHeld : Bool
deriving DecidableEq, Repr

/-! ## The station -/

/-- The state of the station: the ten blocks, the queue of waiting commands, and the counter free
values are drawn by (the model's own, log entry 10). -/
structure State where
  li : Intake
  fs : FieldStore
  fa : Analyser
  cu : Consensus
  pli : LineInterface
  lb : Builder
  hx : Halo
  sc : Scaler
  op : OutputPort
  cp : ControlPort
  freeCount : Nat
  pending : List Instr
deriving DecidableEq, Repr

/-- The station has no fault: no rule of the manual stops it, so this type has no constructor. -/
inductive Fault where
deriving DecidableEq, Repr

/-- Refusals. -/
inductive Refusal where
  /-- Raised by `exec` alone for a command whose meaning is not written; safe: the model stops. -/
  | notModelled (mnemonic : String)
deriving DecidableEq, Repr

/-! ## Reset values -/

/-- R61: the Agreed State after reset. -/
def AgreedState.reset : AgreedState :=
  { roster := []
    epoch := 0
    openRounds := []
    lastClosed := none
    lastSignature := .none
    cadence := .video
    loop := { mode := .auto, t := 64, history := [], trendUp := false, trendDown := false }
    bank := { active := .bankA, digest := 0, pending := none } }

/-- R26: a FREE slot. -/
def Slot.free : Slot := { occupant := none, holders := [] }

/-- All six figures 0. -/
def Figures.zero : Figures :=
  { d1 := 0, d2 := 0, comb := 0, stillTotal := 0, stillCount := 0, samples := 0 }

/-- R158: a FREE receive slot of a direction whose sets have `n` lines. -/
def ReceiveSlot.empty (n : Nat) : ReceiveSlot :=
  { state := .free, frame := none, received := List.replicate n none }

/-- R150: a direction record after reset. -/
def Direction.reset (n : Nat) : Direction :=
  { credit := 2, pending := none, outbound := []
    slots := [ReceiveSlot.empty n, ReceiveSlot.empty n]
    release := 0, letGo := none, setsSent := 0, setsSuperseded := 0, setsLost := 0 }

/-- R177: a bank after reset and after CLEAR_BANK. -/
def Bank.cleared : Bank :=
  { state := .empty, vertical := List.replicate 512 0, horizontal := List.replicate 512 0
    pages := 0, digest := 0 }

/-- R3, R208: the default configuration items. -/
def ConfigItems.default : ConfigItems :=
  { mode525 := false, large := false, ruleCount := 1, voteWindow := 4, haloWait := 10
    stillLimit := 3, combLimit := 24, loopGain := 3, fillY := 64, fillCb := 512, fillCr := 512
    rules := { limit := 576, owner := 0, kind := .full } ::
      List.replicate 7 { limit := 0, owner := 0, kind := .full } }

/-- R3: the empty derived ownership record. R3 gives the rule index NONE and names no empty value of
the record's kind, which is FULL or FILL, nor of the first and last field line of each parity of an
empty window; the model holds index and kind together and takes the kind, and the field lines, to be
absent too (DESIGN CHOICE, log entry 45). -/
def Ownership.empty : Ownership :=
  { rule := none, coreLow := 0, coreHigh := 0, windowLow := 0, windowHigh := 0
    topLines := none, bottomLines := none, firstRow := 0, rowCount := 0
    upper := .none, lower := .none }

/-- R205: the previous result NONE. -/
def PortResult.none : PortResult := { kind := 0, item := 0, code := .none, value := 0 }

/-- R215: every total 0. -/
def Totals.zero : Totals :=
  { temporalSeg := 0, temporalProg := 0, spatialSeg := 0, spatialProg := 0
    unrepairedSeg := 0, unrepairedProg := 0, lostSeg := 0, lostProg := 0
    lateFrames := 0, clampedRows := 0, unagreedFrames := 0, fieldDiscards := 0
    strayLines := 0, parcelDiscards := 0 }

/-- Every block at the reset values of its chapter (R3, R19, R26, R59, R61, R84, R107, R130, R150,
R168, R190, R214), with the station number read from the straps. -/
def State.afterReset (straps : Station) : State :=
  { li := { marker := none, duplicates := 0 }
    fs := { slots := List.replicate 5 Slot.free, claimCounter := 0 }
    fa := { pending := [], accumulators := Figures.zero, lastResult := none }
    cu :=
      { membership := .offline, heard := [], foundingBar := false, listenCount := 0
        snapshotWait := 0, isolationWait := 0, leaveOwed := false, agreed := AgreedState.reset
        timers := [], heldExpiries := [], owedCloses := []
        completeCount := 0, closedCount := 0, supersededCount := 0, overtakenCount := 0 }
    pli :=
      { attached := false, urgent := [], bulk := [], urgentAttempts := 0, bulkAttempts := 0
        urgentDiscards := 0, tx := none, idleMonitor := false, ackDrive := .none }
    lb :=
      { build := none, frames := [], decisions := [], newestBegun := none, lastEnded := none
        lastBegun := none, lastRequested := none, bufferFrame := none, lines := [] }
    hx :=
      { up := Direction.reset 3, down := Direction.reset 4, upperSide := none, lowerSide := none
        timer := false }
    sc :=
      { scaling := none, outgoing := none, bankA := Bank.cleared, bankB := Bank.cleared
        staging := List.replicate 64 0, commit := none }
    op :=
      { fb0 := none, fb1 := none, emission := none, lastAnswer := .none, lastAsked := none
        lastRow := [] }
    cp :=
      { config := ConfigItems.default, lock := false, digest := 0, station := straps
        ownership := Ownership.empty, result := PortResult.none, dataOut := Vector.replicate 8 0
        events := 0, enables := 0, totals := Totals.zero, resetHeld := false }
    freeCount := 0
    pending := [] }

/-- The station right after reset, OFFLINE, with strap pins reading 0 (DESIGN CHOICE, log entry 3:
the manual gives the pins no level) and no command waiting. -/
def State.reset : State := State.afterReset 0

end Sys2Proof.Machine
end

