-- ==== Sys2Proof/Machine/Ops.lean ====
section
/-! DEFINITION. Shared operations: block updates, field number order, small list operations. -/

namespace Sys2Proof.Machine

/-! ## Block updates (each block's state has one home) -/

/-- Replace Line Intake. -/
def State.setLi (s : State) (v : Intake) : State := { s with li := v }
/-- Replace the Field Store. -/
def State.setFs (s : State) (v : FieldStore) : State := { s with fs := v }
/-- Replace the Field Analyser. -/
def State.setFa (s : State) (v : Analyser) : State := { s with fa := v }
/-- Replace the Consensus Unit. -/
def State.setCu (s : State) (v : Consensus) : State := { s with cu := v }
/-- Replace the Peer Line Interface. -/
def State.setPli (s : State) (v : LineInterface) : State := { s with pli := v }
/-- Replace the Line Builder. -/
def State.setLb (s : State) (v : Builder) : State := { s with lb := v }
/-- Replace Halo Exchange. -/
def State.setHx (s : State) (v : Halo) : State := { s with hx := v }
/-- Replace the Scaler. -/
def State.setSc (s : State) (v : Scaler) : State := { s with sc := v }
/-- Replace the Output Port. -/
def State.setOp (s : State) (v : OutputPort) : State := { s with op := v }
/-- Replace the Control Port. -/
def State.setCp (s : State) (v : ControlPort) : State := { s with cp := v }
/-- Count one draw of a free value (log entry 10). -/
def State.drawn (s : State) : State := { s with freeCount := s.freeCount + 1 }
/-- Replace the queue of waiting commands. -/
def State.setPending (s : State) (v : List Instr) : State := { s with pending := v }

/-- Replace the membership state. -/
def State.setMembership (s : State) (m : Membership) : State :=
  s.setCu { s.cu with membership := m }

/-- Replace the Agreed State. -/
def State.setAgreed (s : State) (a : AgreedState) : State := s.setCu { s.cu with agreed := a }

/-! ## Field numbers (Conventions) -/

/-- f is newer than g: f − g modulo 65536 lies in 1 to 32767. -/
def newer (f g : FieldNo) : Bool := 1 ≤ (f - g).toNat && (f - g).toNat ≤ 32767

/-- f is newer than the number held, or none is held. -/
def newerThan (f : FieldNo) (held : Option FieldNo) : Bool :=
  match held with
  | none => true
  | some g => newer f g

/-- f is two or more newer than g (R92). -/
def twoNewer (f g : FieldNo) : Bool := 2 ≤ (f - g).toNat && (f - g).toNat ≤ 32767

/-- Place `a` in a list kept oldest first. -/
def insertByField {α : Type} (key : α → FieldNo) (a : α) : List α → List α
  | [] => [a]
  | x :: xs => if newer (key x) (key a) then a :: x :: xs else x :: insertByField key a xs

/-- Keep only the newest `n` of a list kept oldest first. -/
def dropOldest {α : Type} (n : Nat) (xs : List α) : List α := xs.drop (xs.length - n)

/-! ## Sets of station numbers, kept in increasing order -/

/-- Add a station number to a set. -/
def addStation (n : Station) : List Station → List Station
  | [] => [n]
  | x :: xs => if n = x then x :: xs else if n < x then n :: x :: xs else x :: addStation n xs

/-! ## Division -/

/-- ceil(a / b). -/
def ceilDiv (a b : Nat) : Nat := (a + b - 1) / b

/-! ## Parity -/

/-- The other parity. -/
def otherParity : Parity → Parity
  | .top => .bottom
  | .bottom => .top

/-- The parity of a frame line: even TOP, odd BOTTOM (Conventions). -/
def lineParity (y : Nat) : Parity := if y % 2 = 0 then .top else .bottom

/-- The frame line of a field line (Conventions): TOP l is 2l, BOTTOM l is 2l + 1. -/
def frameLine (p : Parity) (l : Nat) : Nat :=
  match p with
  | .top => 2 * l
  | .bottom => 2 * l + 1

/-- The membership states in which the station takes records and parcels (R15, R37). -/
def Membership.running : Membership → Bool
  | .offline => false
  | .stopped => false
  | .listening => true
  | .joining => true
  | .member => true
  | .leaving => true
  | .isolated => true

/-- R47: MEMBER or LEAVING. -/
def Membership.applies : Membership → Bool
  | .member => true
  | .leaving => true
  | _ => false

end Sys2Proof.Machine
end

