-- ==== Sys2Proof/Machine/Bands.lean ====
section
/-! DEFINITION. The band rule table and what a station derives from it (chapter 1), and the config
digest (R210). -/

namespace Sys2Proof.Machine

/-- Source frame lines S (Conventions). -/
def sourceLines (c : ConfigItems) : Nat := if c.mode525 then 480 else 576

/-- Output rows O. -/
def outputRows (c : ConfigItems) : Nat := if c.large then 2160 else 1080

/-- Output columns W. -/
def outputColumns (c : ConfigItems) : Nat := if c.large then 3840 else 1920

/-- R1: the enabled rules. -/
def enabledRules (c : ConfigItems) : List BandRule := c.rules.take c.ruleCount

/-- R1: the limit of rule i − 1, 0 for rule 0: the lower end of rule i. -/
def lowerEnd (rules : List BandRule) (i : Nat) : Nat :=
  match i with
  | 0 => 0
  | j + 1 => ((rules[j]?).map (·.limit)).getD 0

/-- The limit of rule i. -/
def limitOf (rules : List BandRule) (i : Nat) : Nat := ((rules[i]?).map (·.limit)).getD 0

/-- R4 check 1: the lowest i whose limit does not exceed the one before it. -/
def fallingLimit (rules : List BandRule) : Option Nat :=
  (List.range rules.length).find? fun i => 1 ≤ i && limitOf rules i ≤ lowerEnd rules i

/-- R4 check 3: the lowest rule narrower than 8 frame lines. -/
def narrowRule (rules : List BandRule) : Option Nat :=
  (List.range rules.length).find? fun i => limitOf rules i - lowerEnd rules i < 8

/-- R4 check 4: the lowest i whose owner is also the owner of a rule of lower index. -/
def repeatedOwner (rules : List BandRule) : Option Nat :=
  (List.range rules.length).find? fun i =>
    (rules.take i).any fun r => some r.owner == (rules[i]?).map (·.owner)

/-- The index of the rule a station owns. -/
def ownRule (rules : List BandRule) (n : Station) : Option Nat :=
  rules.findIdx? fun r => r.owner == n

/-- R4: the first check of the table that fails, as (reported index, check number). -/
def tableFault (c : ConfigItems) (n : Station) : Option (Nat × Nat) :=
  let rules := enabledRules c
  match fallingLimit rules with
  | some i => some (i, 1)
  | none =>
    if limitOf rules (c.ruleCount - 1) ≠ sourceLines c then some (c.ruleCount - 1, 2)
    else
      match narrowRule rules with
      | some i => some (i, 3)
      | none =>
        match repeatedOwner rules with
        | some i => some (i, 4)
        | none =>
          match ownRule rules n with
          | none => some (8, 5)
          | some _ => none

/-- R7: the field lines l of TOP parity with low ≤ 2l < high, as first and last; absent when there is
none (the empty window of a FILL owner: DESIGN CHOICE, log entry 45). -/
def topRun (low high : Nat) : Option (Nat × Nat) :=
  if (low + 1) / 2 < (high + 1) / 2 then some ((low + 1) / 2, (high + 1) / 2 - 1) else none

/-- R7: the field lines l of BOTTOM parity with low ≤ 2l + 1 < high, as first and last; absent when
there is none (log entry 45). -/
def bottomRun (low high : Nat) : Option (Nat × Nat) :=
  if low / 2 < high / 2 then some (low / 2, high / 2 - 1) else none

/-- R10: the seam toward a rule of the table. -/
def seamToward (r : Option BandRule) : Seam :=
  match r with
  | none => .pictureEdge
  | some r =>
    match r.kind with
    | .fill => .fillSeam
    | .full => .peer r.owner

/-- R5 to R10: the derived ownership record, from the table, format, output size and station. -/
def deriveOwnership (c : ConfigItems) (n : Station) : Ownership :=
  let rules := enabledRules c
  match ownRule rules n with
  | none => Ownership.empty
  | some i =>
    match rules[i]? with
    | none => Ownership.empty
    | some own =>
      let a := lowerEnd rules i
      let b := own.limit
      let full := own.kind == .full
      let low := if full then a - 2 else a
      let high := if full then min (b + 2) (sourceLines c) else a
      let first := ceilDiv (a * outputRows c) (sourceLines c)
      { rule := some (i, own.kind)
        coreLow := a
        coreHigh := b
        windowLow := low
        windowHigh := high
        topLines := topRun low high
        bottomLines := bottomRun low high
        firstRow := first
        rowCount := ceilDiv (b * outputRows c) (sourceLines c) - first
        upper :=
          if full then (match i with | 0 => .pictureEdge | j + 1 => seamToward rules[j]?)
          else .none
        lower := if full then seamToward rules[i + 1]? else .none }

/-- The own rule is FULL. -/
def Ownership.isFull (o : Ownership) : Bool :=
  match o.rule with
  | some (_, .full) => true
  | _ => false

/-- The own rule is FILL. -/
def Ownership.isFill (o : Ownership) : Bool :=
  match o.rule with
  | some (_, .fill) => true
  | _ => false

/-- R7: the window's run of field lines of a parity. -/
def Ownership.windowRun (o : Ownership) (p : Parity) : Option (Nat × Nat) :=
  match p with
  | .top => o.topLines
  | .bottom => o.bottomLines

/-- R21: field line l of parity p is one of the window's. -/
def Ownership.inWindow (o : Ownership) (p : Parity) (l : Nat) : Bool :=
  match o.windowRun p with
  | none => false
  | some (first, last) => first ≤ l && l ≤ last

/-! ## Rows (R8, R9, R12) -/

/-- R8: the source position of an output row. -/
def rowPosition (c : ConfigItems) (r : Nat) : Nat := r * sourceLines c / outputRows c

/-- R9: the vertical phase of an output row. -/
def rowPhase (c : ConfigItems) (r : Nat) : Nat :=
  r * sourceLines c % outputRows c * 64 / outputRows c

/-- R9: the horizontal source position of a column. -/
def columnPosition (c : ConfigItems) (col : Nat) : Nat := col * 720 / outputColumns c

/-- R9: the horizontal phase of a column. -/
def columnPhase (c : ConfigItems) (col : Nat) : Nat :=
  col * 720 % outputColumns c * 64 / outputColumns c

/-- R8: the owned rows, in increasing order. -/
def ownedRows (o : Ownership) : List Nat := List.range' o.firstRow o.rowCount

/-- R12: an upper edge row. -/
def isUpperEdge (c : ConfigItems) (o : Ownership) (r : Nat) : Bool :=
  o.upper != .pictureEdge && rowPosition c r < o.coreLow + 3

/-- R12: a lower edge row. -/
def isLowerEdge (c : ConfigItems) (o : Ownership) (r : Nat) : Bool :=
  o.lower != .pictureEdge && o.coreHigh ≤ rowPosition c r + 4

/-- R12: the edge rows of a side, in increasing order. -/
def edgeRows (c : ConfigItems) (o : Ownership) (side : Side) : List Nat :=
  match side with
  | .upper => (ownedRows o).filter (isUpperEdge c o)
  | .lower => (ownedRows o).filter (isLowerEdge c o)

/-- R12: the interior rows, in increasing order. -/
def interiorRows (c : ConfigItems) (o : Ownership) : List Nat :=
  (ownedRows o).filter fun r => !isUpperEdge c o r && !isLowerEdge c o r

/-! ## Seams (R10, R11) -/

/-- The seam of a side. -/
def Ownership.seam (o : Ownership) (side : Side) : Seam :=
  match side with
  | .upper => o.upper
  | .lower => o.lower

/-- The neighbour of a PEER seam. -/
def neighbourOf (s : State) (side : Side) : Option Station :=
  match s.cp.ownership.seam side with
  | .peer n => some n
  | _ => none

/-- The roster's entry for a station number. -/
def rosterEntry (roster : List RosterEntry) (n : Station) : Option RosterEntry :=
  roster.find? fun e => e.station == n

/-- The roster holds n in entry state ACTIVE. -/
def isActive (roster : List RosterEntry) (n : Station) : Bool :=
  roster.any fun e => e.station == n && e.standing == .active

/-- R11: the neighbour of a side counts. -/
def neighbourCounts (s : State) (side : Side) : Bool :=
  match neighbourOf s side with
  | none => false
  | some n => s.cu.membership == .member && isActive s.cu.agreed.roster n

/-! ## Config digest (R210) -/

/-- The code of a band kind (R208). -/
def kindCode : BandKind → Nat
  | .full => 0
  | .fill => 1

/-- R210: the configuration words. -/
def configWords (c : ConfigItems) : List Word16 :=
  ([if c.mode525 then 1 else 0, if c.large then 1 else 0, c.ruleCount] ++
    ((enabledRules c).map fun r => [r.limit, r.owner.val, kindCode r.kind]).flatten ++
    [c.voteWindow, c.haloWait, c.stillLimit, c.combLimit, c.loopGain] ++
    [c.fillY, c.fillCb, c.fillCr]).map (BitVec.ofNat 16)

/-- R210: the config digest. -/
def configDigest (c : ConfigItems) : Digest :=
  (configWords c).foldl (fun d w => d * 31 + w) 0

end Sys2Proof.Machine
end

