-- ==== Sys2Proof/Machine/Cadence.lean ====
section
/-! DEFINITION. The cadence machine and the blend loop (chapter 6), as functions of the records. -/

namespace Sys2Proof.Machine

/-! ## The cadence record (R108 to R118) -/

/-- R108: phase advance, modulo the film kind's period. -/
def nextPhase : FilmKind → Nat → Nat
  | .twoTwo, p => (p + 1) % 2
  | .threeTwo, p => (p + 1) % 5

/-- R110: a NONE step. -/
def noneStep : Cadence → Cadence
  | .video => .video
  | .candidate k p n => .candidate k (nextPhase k p) n
  | .film k p => .film k (nextPhase k p)
  | .forcedMa => .forcedMa
  | .forcedBob => .forcedBob
  | .forcedFilm k p => .forcedFilm k (nextPhase k p)

/-- R111: the entry test, by format. -/
def entryTest (mode525 : Bool) : Signature → Cadence
  | .pairPrev => if mode525 then .video else .candidate .twoTwo 1 1
  | .repeated => if mode525 then .candidate .threeTwo 0 1 else .video
  | _ => .video

/-- R112: consistency at a 2:2 phase. -/
def consistent22 (phase : Nat) : Signature → Bool
  | .still => true
  | .motion => phase == 0
  | .pairPrev => phase == 1
  | _ => false

/-- R116: consistency of a 3:2 lock at a phase. -/
def consistent32 (phase : Nat) : Signature → Bool
  | .motion => phase != 0
  | .repeated => phase == 0
  | _ => true

/-- R114: the comb test fails; a round without samples passes. -/
def combFails (limit comb samples : Nat) : Bool :=
  samples != 0 && limit * samples < comb * 1024

/-- R114: the phases at which a lock makes the comb test. -/
def combPhase : FilmKind → Nat → Bool
  | .twoTwo, p => p == 1
  | .threeTwo, p => p == 0 || p == 2 || p == 4

/-- R112: the round step of a 2:2 candidate at its new phase. -/
def candidate22 (mode525 : Bool) (s : Signature) (phase count : Nat) : Cadence :=
  if consistent22 phase s then
    if count + 1 = 6 then .film .twoTwo phase else .candidate .twoTwo phase (count + 1)
  else entryTest mode525 s

/-- R115: the round step of a 3:2 candidate at its new phase; a count past 5 is log entry 44. -/
def candidate32 (mode525 : Bool) (s : Signature) (phase count : Nat) : Cadence :=
  if phase = 0 then
    if s = .repeated ∧ count = 5 then .film .threeTwo 0 else entryTest mode525 s
  else if s = .repeated then entryTest mode525 s
  else .candidate .threeTwo phase (count + 1)

/-- R113, R116: the consistency test of a lock at its new phase. -/
def consistentLock (k : FilmKind) (phase : Nat) (s : Signature) : Bool :=
  match k with
  | .twoTwo => consistent22 phase s
  | .threeTwo => consistent32 phase s

/-- R109, R111 to R118: the round step, with whether it raises EDIT_POINT. -/
def roundStep (c : ConfigItems) (s : Signature) (sums : Figures) (r : Cadence) : Cadence × Bool :=
  if s = .none then (noneStep r, false)
  else
    match r with
    | .video => (entryTest c.mode525 s, false)
    | .candidate .twoTwo p n => (candidate22 c.mode525 s (nextPhase .twoTwo p) n, false)
    | .candidate .threeTwo p n => (candidate32 c.mode525 s (nextPhase .threeTwo p) n, false)
    | .film k p =>
      let phase := nextPhase k p
      if consistentLock k phase s &&
          !(combPhase k phase && combFails c.combLimit sums.comb sums.samples) then
        (.film k phase, false)
      else (entryTest c.mode525 s, true)
    | .forcedMa => (.forcedMa, false)
    | .forcedBob => (.forcedBob, false)
    | .forcedFilm k p => (.forcedFilm k (nextPhase k p), false)

/-- R119: the cadence record after the take of a FORCE. -/
def forceTaken (code : ForceCode) (phase : Nat) (r : Cadence) : Cadence :=
  match code with
  | .ma => .forcedMa
  | .bob => .forcedBob
  | .film22 => .forcedFilm .twoTwo (phase % 2)
  | .film32 => .forcedFilm .threeTwo (phase % 5)
  | .release => .video
  | .other _ => r

/-! ## Pairing (R121, R122) -/

/-- R121: the pairing of a film phase. -/
def filmPairing : FilmKind → Nat → Pairing
  | .twoTwo, p => if p = 0 then .weaveNext else .weavePrev
  | .threeTwo, p => if p = 1 || p = 3 then .weaveNext else .weavePrev

/-- R121: the pairing of a cadence record. -/
def pairingOf : Cadence → Pairing
  | .video => .ma
  | .candidate _ _ _ => .ma
  | .film k p => filmPairing k p
  | .forcedMa => .ma
  | .forcedBob => .bob
  | .forcedFilm k p => filmPairing k p

/-- A number of NONE steps. -/
def noneSteps : Nat → Cadence → Cadence
  | 0, r => r
  | n + 1, r => noneSteps n (noneStep r)

/-- R122: the provisional pairing of frame N. -/
def provisionalPairing (a : AgreedState) (n : FieldNo) : Pairing :=
  match a.lastClosed with
  | none => .ma
  | some l =>
    let gap := (n - l).toNat
    if 1 ≤ gap ∧ gap ≤ 4 then pairingOf (noneSteps gap a.cadence) else .ma

/-! ## The blend loop (R123 to R127) -/

/-- R124: the noise history after a new estimate, newest first, at most 4. -/
def noteNoise (nz : Nat) (history : List Nat) : List Nat := (nz :: history).take 4

/-- R124: TREND_UP of a history. -/
def trendUp (history : List Nat) : Bool :=
  history.length == 4 && history.getD 3 0 * 9 < history.getD 0 0 * 8

/-- R124: TREND_DOWN of a history. -/
def trendDown (history : List Nat) : Bool :=
  history.length == 4 && history.getD 0 0 * 8 < history.getD 3 0 * 7

/-- R125: T moved toward its target, the division truncating toward zero, clamped to 0 to 1023. -/
def moveThreshold (t target divisor : Nat) : Nat :=
  let moved : Int := t + Int.tdiv ((target : Int) - t) divisor
  (max 0 (min 1023 moved)).toNat

/-- R124 to R126: the loop step of a closure. -/
def loopStep (gain : Nat) (sums : Figures) (l : LoopRecord) : LoopRecord :=
  if l.mode = .off ∨ sums.stillCount = 0 then l
  else
    let nz := sums.stillTotal / sums.stillCount
    let history := noteNoise nz l.history
    let up := trendUp history
    let down := trendDown history
    { l with
      t := if l.mode = .auto then moveThreshold l.t (gain * nz) (if up || down then 2 else 8) else l.t
      history := history
      trendUp := up
      trendDown := down }

/-- R127: the loop record after the take of a LOOP_SET. -/
def loopTaken (code : LoopCode) (value : Nat) (l : LoopRecord) : LoopRecord :=
  match code with
  | .held => { l with mode := .held, t := min value 1023 }
  | .off => { mode := .off, t := 0, history := [], trendUp := false, trendDown := false }
  | .auto => { l with mode := .auto }
  | .other _ => l

end Sys2Proof.Machine
end

