-- ==== Sys2Proof/Machine/Agreement.lean ====
section
/-! DEFINITION. What a taken parcel does to the Agreed State (chapters 4 to 6, 9), as a function of
the configuration, the Agreed State and the parcel alone, with the local acts it calls for. -/

namespace Sys2Proof.Machine

/-! ## Local acts -/

/-- The kinds of closure (R97). -/
inductive ClosureKind where
  | complete
  | closed
  | superseded
deriving DecidableEq, Repr

/-- What the station does on its own side of a take, in order. -/
inductive Act where
  /-- R97, R107: count a closure of this kind. -/
  | counted (kind : ClosureKind)
  /-- R117: raise EDIT_POINT. -/
  | edited
  /-- R70, R77: the stations whose roster entry was removed or replaced. -/
  | removed (stations : List Station)
  /-- R186: the outgoing bank of a switch. -/
  | switched (outgoing : Outgoing)
  /-- R102: hand a decision record to the Line Builder. -/
  | decided (record : DecisionRecord)
  /-- R102: round N is closed: its timer, held expiry, owed CLOSE and queued parcels go. -/
  | roundClosed (field : FieldNo)
deriving DecidableEq, Repr

/-- The course of one take: the Agreed State so far, the acts called for, and the stations whose
roster entry the take added, replaced, activated or removed. -/
structure TakeRun where
  agreed : AgreedState
  acts : List Act
  touched : List Station
deriving DecidableEq, Repr

/-- The start of a take. -/
def TakeRun.start (a : AgreedState) : TakeRun := { agreed := a, acts := [], touched := [] }

/-! ## Roster and expected sets (R76, R93) -/

/-- Put an entry in station-number order, replacing one of the same number. -/
def putRoster (e : RosterEntry) : List RosterEntry → List RosterEntry
  | [] => [e]
  | x :: xs =>
    if x.station = e.station then e :: xs
    else if e.station < x.station then e :: x :: xs
    else x :: putRoster e xs

/-- R93: the stations listed leave the expected set of every open round. -/
def leaveExpected (gone : List Station) (rounds : List Round) : List Round :=
  rounds.map fun r => { r with expected := r.expected.filter fun n => !gone.contains n }

/-- R91: the station numbers of the ACTIVE entries. -/
def activeStations (roster : List RosterEntry) : List Station :=
  (roster.filter fun e => e.standing == .active).map (·.station)

/-- R92: the report list holds a report from a station. -/
def hasReport (r : Round) (n : Station) : Bool := r.reports.any fun x => x.station == n

/-- R93: the round passes the completion test. -/
def roundComplete (r : Round) : Bool := r.expected.all (hasReport r)

/-- The open round of a number. -/
def openRound (a : AgreedState) (n : FieldNo) : Option Round :=
  a.openRounds.find? fun r => r.field == n

/-- The number is closed: a last closed field is present and it is not newer (R92, R95, R96). -/
def alreadyClosed (a : AgreedState) (n : FieldNo) : Bool := !newerThan n a.lastClosed

/-! ## The closure procedure (R98 to R102) -/

/-- R99: the sums of the DATA reports. -/
def sumReports (reports : List RoundReport) : Figures :=
  reports.foldl
    (fun acc r =>
      match r.figures with
      | none => acc
      | some f =>
        { d1 := acc.d1 + f.d1
          d2 := acc.d2 + f.d2
          comb := acc.comb + f.comb
          stillTotal := acc.stillTotal + f.stillTotal
          stillCount := acc.stillCount + f.stillCount
          samples := acc.samples + f.samples })
    { d1 := 0, d2 := 0, comb := 0, stillTotal := 0, stillCount := 0, samples := 0 }

/-- R99: the signature, the first that applies. -/
def classify (c : ConfigItems) (reports : List RoundReport) : Signature :=
  let f := sumReports reports
  if !(reports.any fun r => r.figures.isSome) then .none
  else if f.d1 ≤ c.stillLimit * f.samples ∧ f.d2 ≤ c.stillLimit * f.samples then .still
  else if c.mode525 = true ∧ f.d2 * 4 ≤ f.d1 then .repeated
  else if f.d1 * 4 ≤ f.d2 then .pairPrev
  else .motion

/-- R98: the gap, the count of numbers strictly between the last closed field and N. -/
def closureGap (last : Option FieldNo) (n : FieldNo) : Nat :=
  match last with
  | none => 0
  | some l => (n - l - 1).toNat

/-- R98: the cadence record after the skipped numbers. -/
def skippedCadence (gap : Nat) (r : Cadence) : Cadence :=
  if gap ≤ 4 then noneSteps gap r else .video

/-- R98: the decision records of the skipped numbers within the four before N, oldest first, with
T as the closure's loop step leaves it (log entry 19). -/
def skippedRecords (gap t : Nat) (n : FieldNo) (r : Cadence) : List DecisionRecord :=
  let count := min gap 4
  (List.range count).map fun i =>
    { field := n - BitVec.ofNat 16 (count - i)
      signature := .none
      cadence := if gap ≤ 4 then noneSteps (i + 1) r else .video
      t := t }

/-- R101: the missed-round count of one entry after the closure of a round. -/
def missedCount (r : Round) (e : RosterEntry) : RosterEntry :=
  match e.standing with
  | .joining => { e with missed := e.missed + 1 }
  | .active =>
    if r.expected.contains e.station then
      if hasReport r e.station then { e with missed := 0 } else { e with missed := e.missed + 1 }
    else e

/-- R77: the entry's count has reached 3. -/
def missedOut (e : RosterEntry) : Bool := 3 ≤ e.missed

/-- R77: the stations of the entries whose count has reached 3. -/
def missedStations (roster : List RosterEntry) : List Station :=
  (roster.filter missedOut).map (·.station)

/-- R77: remove those entries, with their stations from the expected sets. -/
def removeMissed (a : AgreedState) : AgreedState :=
  { a with
    roster := a.roster.filter fun e => !missedOut e
    openRounds := leaveExpected (missedStations a.roster) a.openRounds }

/-- The act of removing stations, if there are any. -/
def removalActs (gone : List Station) : List Act := if gone.isEmpty then [] else [.removed gone]

/-- R186, first point: a closure reaches the target frame: the last closed field is the target frame
or newer than it. -/
def closureReaches (a : AgreedState) (p : PendingSelection) : Bool :=
  match a.lastClosed with
  | none => false
  | some l => l == p.target || newer l p.target

/-- R186, second point: at the take of the BANK_SELECT the target frame is not newer than the last
closed field. With no closed field there is nothing to reach. -/
def takeReaches (a : AgreedState) (p : PendingSelection) : Bool := !newerThan p.target a.lastClosed

/-- R186 steps 2 and 3: the bank record after the switch to a pending selection, if it is made. -/
def switchBank (due : Option PendingSelection) (a : AgreedState) : AgreedState :=
  match due with
  | none => a
  | some p => { a with bank := { active := p.bank, digest := p.digest, pending := none } }

/-- R186 step 1: the outgoing bank a switch leaves. -/
def switchActs (due : Option PendingSelection) (a : AgreedState) : List Act :=
  match due with
  | none => []
  | some p =>
    [.switched { bank := a.bank.active, digest := a.bank.digest, switchFrame := p.target }]

/-- R98 to R102 without the removals: the Agreed State after the closure's steps up to the missed
counts, the last closed field and the signature; the round has left the open list. -/
def steppedState (c : ConfigItems) (r : Round) (a : AgreedState) : AgreedState :=
  let sums := sumReports r.reports
  let sig := classify c r.reports
  let gap := closureGap a.lastClosed r.field
  { a with
    openRounds := a.openRounds.filter fun x => x.field != r.field
    lastSignature := sig
    cadence := (roundStep c sig sums (skippedCadence gap a.cadence)).1
    loop := loopStep c.loopGain sums a.loop
    roster := a.roster.map (missedCount r) }

/-- R117: the closure of a round raises EDIT_POINT. -/
def closureEdits (c : ConfigItems) (r : Round) (a : AgreedState) : Bool :=
  (roundStep c (classify c r.reports) (sumReports r.reports)
    (skippedCadence (closureGap a.lastClosed r.field) a.cadence)).2

/-- R102: the last closed field becomes N. -/
def setClosed (n : FieldNo) (a : AgreedState) : AgreedState := { a with lastClosed := some n }

/-- R102: the decision records a closure hands on: the skipped numbers' and frame N's. -/
def closureRecords (c : ConfigItems) (r : Round) (a : AgreedState) : List DecisionRecord :=
  let after := steppedState c r a
  skippedRecords (closureGap a.lastClosed r.field) after.loop.t r.field a.cadence ++
    [{ field := r.field, signature := after.lastSignature, cadence := after.cadence
       t := after.loop.t }]

/-- R97 to R102: the closure procedure of a round that is open, or was just created. -/
def closeRound (c : ConfigItems) (kind : ClosureKind) (r : Round) (run : TakeRun) : TakeRun :=
  let a := run.agreed
  let stepped := steppedState c r a
  let gone := missedStations stepped.roster
  let closed := setClosed r.field (removeMissed stepped)
  let due := closed.bank.pending.filter (closureReaches closed)
  { agreed := switchBank due closed
    acts :=
      run.acts ++ [.counted kind] ++ (if closureEdits c r a then [.edited] else []) ++
        removalActs gone ++ switchActs due closed ++
        (closureRecords c r a).map Act.decided ++ [.roundClosed r.field]
    touched := run.touched ++ gone }

/-! ## What one take closes (R92, R93, R96, R97) -/

/-- What is left to do in a take. -/
inductive Goal where
  /-- R97: close round f COMPLETE, the older rounds first as SUPERSEDED. -/
  | complete (f : FieldNo)
  /-- R96 step 2: close every open round not newer than N as CLOSED. -/
  | sweep (n : FieldNo)
  /-- R92 case 4: close the oldest rounds while N is two or more newer than an open round. -/
  | supersede (n : FieldNo)
  /-- R96 step 3: create and close round N if it is still newer than the last closed field. -/
  | missing (n : FieldNo)
  /-- R92 case 4: create round N with its first report. -/
  | create (n : FieldNo) (report : RoundReport)
  /-- R93: test every open round, oldest first. -/
  | test
deriving DecidableEq, Repr

/-- R93: the completion tests that a closure's removals call for come before anything else. -/
def afterRemovals (before after : TakeRun) (goals : List Goal) : List Goal :=
  if after.touched.length = before.touched.length then goals else .test :: goals

/-- R91, R92: a new round. -/
def newRound (a : AgreedState) (n : FieldNo) (reports : List RoundReport) : Round :=
  { field := n, expected := activeStations a.roster, reports := reports }

/-- One step on the first goal: the run and the goals after it. -/
def goalStep (c : ConfigItems) (g : Goal) (rest : List Goal) (run : TakeRun) :
    TakeRun × List Goal :=
  match g with
  | .complete f =>
    match run.agreed.openRounds with
    | [] => (run, rest)
    | r :: _ =>
      if (openRound run.agreed f).isNone then (run, rest)
      else if r.field = f then
        let next := closeRound c .complete r run
        (next, afterRemovals run next rest)
      else
        let next := closeRound c .superseded r run
        (next, afterRemovals run next (.complete f :: rest))
  | .sweep n =>
    match run.agreed.openRounds.find? fun r => !newer r.field n with
    | none => (run, rest)
    | some r =>
      let next := closeRound c .closed r run
      (next, afterRemovals run next (.sweep n :: rest))
  | .supersede n =>
    if run.agreed.openRounds.any fun r => twoNewer n r.field then
      match run.agreed.openRounds with
      | [] => (run, rest)
      | r :: _ =>
        let next := closeRound c .superseded r run
        (next, afterRemovals run next (.supersede n :: rest))
    else (run, rest)
  | .missing n =>
    if alreadyClosed run.agreed n then (run, rest)
    else
      let next := closeRound c .closed (newRound run.agreed n []) run
      (next, afterRemovals run next rest)
  | .create n report =>
    if alreadyClosed run.agreed n then (run, rest)
    else
      let r := newRound run.agreed n [report]
      let placed :=
        { run with
          agreed :=
            { run.agreed with
              openRounds := insertByField Round.field r run.agreed.openRounds } }
      (placed, if roundComplete r then .complete n :: rest else rest)
  | .test =>
    match run.agreed.openRounds.find? roundComplete with
    | none => (run, rest)
    | some r => (run, .complete r.field :: .test :: rest)

/-- Work the goals off, at most `fuel` steps. Every closure takes a round off the open list, so
`takeFuel` steps are enough. -/
def workGoals (c : ConfigItems) : Nat → List Goal → TakeRun → TakeRun
  | 0, _, run => run
  | _, [], run => run
  | fuel + 1, g :: rest, run =>
    let next := goalStep c g rest run
    workGoals c fuel next.2 next.1

/-- Steps enough for the goals of one take: each closure adds at most three. -/
def takeFuel (a : AgreedState) : Nat := 6 * a.openRounds.length + 12

/-! ## The takes -/

/-- R92: the round effect of a report. -/
def reportGoals (a : AgreedState) (n : FieldNo) (report : RoundReport) : AgreedState × List Goal :=
  if alreadyClosed a n then (a, [])
  else
    match openRound a n with
    | some r =>
      if hasReport r report.station then (a, [])
      else
        let grown := { r with reports := r.reports ++ [report] }
        let placed :=
          { a with openRounds := a.openRounds.map fun x => if x.field = n then grown else x }
        (placed, if roundComplete grown then [.complete n] else [])
    | none =>
      if a.openRounds.any fun x => twoNewer x.field n then (a, [])
      else (a, [.supersede n, .create n report])

/-- R96: the goals of a CLOSE. -/
def closeGoals (a : AgreedState) (n : FieldNo) : List Goal :=
  if alreadyClosed a n then [] else [.sweep n, .missing n, .test]

/-- R80: the Agreed State without station n's entry. -/
def dropEntry (n : Station) (a : AgreedState) : AgreedState :=
  { a with
    roster := a.roster.filter fun e => e.station != n
    openRounds := leaveExpected [n] a.openRounds }

/-- R69: the Agreed State with station n's entry added, or replaced, as JOINING. -/
def joinEntry (n : Station) (a : AgreedState) : AgreedState :=
  { a with
    roster := putRoster { station := n, standing := .joining, missed := 0 } a.roster
    openRounds := leaveExpected [n] a.openRounds }

/-- R72: station n's entry becomes ACTIVE. -/
def activateEntry (n : Station) (a : AgreedState) : AgreedState :=
  { a with roster := putRoster { station := n, standing := .active, missed := 0 } a.roster }

/-- R72: the roster holds n as JOINING. -/
def isJoining (a : AgreedState) (n : Station) : Bool :=
  a.roster.any fun e => e.station == n && e.standing == .joining

/-- R188: the pending selection set. -/
def selectPending (b : BankName) (d : Digest) (target : FieldNo) (a : AgreedState) : AgreedState :=
  { a with bank := { a.bank with pending := some { bank := b, digest := d, target := target } } }

/-- The first step of a take, and the goals it leaves. -/
def takeFirst (sender : Station) (content : Content) (a : AgreedState) : TakeRun × List Goal :=
  match content with
  | .close n => (TakeRun.start a, closeGoals a n)
  | .leave =>
    if (rosterEntry a.roster sender).isSome then
      ({ agreed := dropEntry sender a, acts := [.removed [sender]], touched := [sender] }, [.test])
    else (TakeRun.start a, [])
  | .snapshot joiner _ =>
    if isJoining a joiner then
      ({ agreed := activateEntry joiner a, acts := [], touched := [joiner] }, [])
    else (TakeRun.start a, [])
  | .join _ _ _ =>
    let replaced := (rosterEntry a.roster sender).isSome
    ({ agreed := joinEntry sender a
       acts := if replaced then [.removed [sender]] else []
       touched := [sender] },
      if replaced then [.test] else [])
  | .force code phase =>
    (TakeRun.start { a with cadence := forceTaken code phase a.cadence }, [])
  | .loopSet code value => (TakeRun.start { a with loop := loopTaken code value a.loop }, [])
  | .bankSelect code d target =>
    match code with
    | .other _ => (TakeRun.start a, [])
    | .named b =>
      let selected := selectPending b d target a
      let due := selected.bank.pending.filter (takeReaches selected)
      ({ agreed := switchBank due selected, acts := switchActs due selected, touched := [] }, [])
  | .report n figures _ _ =>
    let g := reportGoals a n { station := sender, figures := figures }
    (TakeRun.start g.1, g.2)
  | .halo _ => (TakeRun.start a, [])

/-- R76: the epoch advances once for a take that changes one or more entries. -/
def advanceEpoch (run : TakeRun) : TakeRun :=
  if run.touched.isEmpty then run
  else { run with agreed := { run.agreed with epoch := run.agreed.epoch + 1 } }

/-- R62: the course of a take at a station that applies it. -/
def runTake (c : ConfigItems) (sender : Station) (content : Content) (a : AgreedState) : TakeRun :=
  let first := takeFirst sender content a
  advanceEpoch (workGoals c (takeFuel a) first.2 first.1)

/-- R77: the removal of every entry whose count has reached 3, as a step of its own. -/
def runRemoval (c : ConfigItems) (a : AgreedState) : TakeRun :=
  let gone := missedStations a.roster
  if gone.isEmpty then TakeRun.start a
  else
    advanceEpoch
      (workGoals c (takeFuel a) [.test]
        { agreed := removeMissed a, acts := removalActs gone, touched := gone })

/-! ## Founding (R67) -/

/-- R67: the founding state of station n, with Bank A's digest. -/
def foundingState (n : Station) (digest : Digest) : AgreedState :=
  { AgreedState.reset with
    roster := [{ station := n, standing := .active, missed := 0 }]
    bank := { active := .bankA, digest := digest, pending := none } }

end Sys2Proof.Machine
end

