-- ==== Sys2Proof/Machine/Flags.lean ====
section
/-! DEFINITION. Event flags, enables and ATTENTION (R217 to R219), and the totals (R148, R215, R216). -/

namespace Sys2Proof.Machine

/-- The twelve event flags, in bit order (R217). -/
inductive Event where
  | membershipChanged
  | editPoint
  | parcelDiscarded
  | isolated
  | frameLate
  | seamClamped
  | unagreedFrame
  | fieldDiscarded
  | commitDone
  | selectFailed
  | bankMismatch
  | joinRefused
deriving DecidableEq, Repr

/-- The bit of a flag (R217). -/
def eventBit : Event → Nat
  | .membershipChanged => 0
  | .editPoint => 1
  | .parcelDiscarded => 2
  | .isolated => 3
  | .frameLate => 4
  | .seamClamped => 5
  | .unagreedFrame => 6
  | .fieldDiscarded => 7
  | .commitDone => 8
  | .selectFailed => 9
  | .bankMismatch => 10
  | .joinRefused => 11

/-- The word with one flag's bit set. -/
def eventMask (e : Event) : BitVec 12 := 1#12 <<< eventBit e

/-- R217: an event sets its flag; setting a set flag leaves it set. -/
def State.raise (s : State) (e : Event) : State :=
  s.setCp { s.cp with events := s.cp.events ||| eventMask e }

/-- R217: whether a flag is set. -/
def eventSet (s : State) (e : Event) : Bool := (s.cp.events &&& eventMask e) != 0

/-- R218: ATTENTION is asserted while at least one flag is both set and enabled. -/
def attention (s : State) : Bool := (s.cp.events &&& s.cp.enables) != 0

/-- Replace the totals. -/
def State.setTotals (s : State) (t : Totals) : State := s.setCp { s.cp with totals := t }

/-- R148: the segment values of the four repair totals become 0. -/
def rollSegments (t : Totals) : Totals :=
  { t with temporalSeg := 0, spatialSeg := 0, unrepairedSeg := 0, lostSeg := 0 }

/-- R23: each entry that becomes LOST counts in both values of LOST_LINES. -/
def countLost (n : Nat) (t : Totals) : Totals :=
  { t with lostSeg := t.lostSeg + BitVec.ofNat 32 n, lostProg := t.lostProg + BitVec.ofNat 32 n }

/-- How many samples one write-back filled by each step of R144. -/
structure RepairCounts where
  temporal : Nat
  spatial : Nat
  unrepaired : Nat
deriving DecidableEq, Repr

/-- R145: a write-back counts each filled sample in both values of its step's total. -/
def countRepairs (c : RepairCounts) (t : Totals) : Totals :=
  { t with
    temporalSeg := t.temporalSeg + BitVec.ofNat 32 c.temporal
    temporalProg := t.temporalProg + BitVec.ofNat 32 c.temporal
    spatialSeg := t.spatialSeg + BitVec.ofNat 32 c.spatial
    spatialProg := t.spatialProg + BitVec.ofNat 32 c.spatial
    unrepairedSeg := t.unrepairedSeg + BitVec.ofNat 32 c.unrepaired
    unrepairedProg := t.unrepairedProg + BitVec.ofNat 32 c.unrepaired }

/-- R117, R148: EDIT_POINT is raised and the segment values roll. -/
def State.raiseEditPoint (s : State) : State :=
  (s.setTotals (rollSegments s.cp.totals)).raise .editPoint

end Sys2Proof.Machine
end

