-- ==== Sys2Proof/Machine/Operands.lean ====
section
/-! DEFINITION. The operand layouts: bus records (R16, R17), parcels as read and their check (R39,
R40, R41), control transactions (R205), action arguments (R211). -/

namespace Sys2Proof.Machine

/-! ## Video Intake Bus (R16) -/

/-- The kind code, word 0 bits 15–14. -/
def busKind (w : Word16) : Nat := w.toNat / 16384

/-- Parity, word 0 bit 13. -/
def busParity (w : Word16) : Parity := if w.getLsbD 13 then .bottom else .top

/-- Word 0 bits 8–0: the field line number of a line record, the line count of a FIELD_END. -/
def busLow9 (w : Word16) : Nat := w.toNat % 512

/-- Overflow mark, word 0 bit 12. -/
def busOverflow (w : Word16) : Bool := w.getLsbD 12

/-- Span count, word 0 bits 11–9. -/
def busSpanCount (w : Word16) : Nat := w.toNat / 512 % 8

/-- A 10-bit value of a word. -/
def low10 (w : Word16) : Sample := w.setWidth 10

/-- The first `k` spans of the words after the header (word 2 + 2j start, word 3 + 2j length). -/
def readSpans : Nat → List Word16 → List Span
  | 0, _ => []
  | _, [] => []
  | _, [_] => []
  | k + 1, st :: ln :: rest =>
    { start := (low10 st).toNat, length := (low10 ln).toNat } :: readSpans k rest

/-- The samples in the order Cb, Y, Cr, Y of a record's words; samples the record lacks are 0. -/
def readSamples : Nat → List Word16 → LineSamples
  | 0, _ => { y := [], cb := [], cr := [] }
  | n + 1, ws =>
    let rest := readSamples n (ws.drop 4)
    { y := low10 (ws.getD 1 0) :: low10 (ws.getD 3 0) :: rest.y
      cb := low10 (ws.getD 0 0) :: rest.cb
      cr := low10 (ws.getD 2 0) :: rest.cr }

/-- R17: a span in range. -/
def spanWellFormed (sp : Span) : Bool :=
  sp.start ≤ 719 && 1 ≤ sp.length && sp.length ≤ 720 && sp.start + sp.length ≤ 720

/-- A line record as Line Intake keeps it (R17, R22). -/
structure LineRecord where
  field : FieldNo
  parity : Parity
  line : Nat
  spans : List Span
  samples : LineSamples
deriving DecidableEq, Repr

/-- R17: the record is well formed. -/
def recordWellFormed (w0 : Word16) (body : List Word16) : Bool :=
  let k := busSpanCount w0
  let spans := readSpans k body
  k ≤ 4 && spans.length == k && spans.all spanWellFormed && 2 * k + 1440 ≤ body.length

/-- The span of a line kept under the overflow mark (R18). -/
def wholeLine : Span := { start := 0, length := 720 }

/-- R16, R17, R22: the record of a run of bus words, absent with fewer than 2 words. Its spans are
those it is kept with: the whole line under the overflow mark or when it is not well formed. -/
def readLineRecord : List Word16 → Option LineRecord
  | w0 :: f :: body =>
    some
      { field := f
        parity := busParity w0
        line := busLow9 w0
        spans :=
          if recordWellFormed w0 body && !busOverflow w0 then readSpans (busSpanCount w0) body
          else [wholeLine]
        samples := readSamples 360 (body.drop (2 * busSpanCount w0)) }
  | _ => none

/-! ## Parcels (R39 to R41) -/

/-- The kind a content is of. -/
def contentKind : Content → ParcelKind
  | .close _ => .close
  | .leave => .leave
  | .snapshot _ _ => .snapshot
  | .join _ _ _ => .join
  | .force _ _ => .force
  | .loopSet _ _ => .loopSet
  | .bankSelect _ _ _ => .bankSelect
  | .report _ _ _ _ => .report
  | .halo _ => .halo

/-- R41: the priority of a kind. -/
def kindPriority : ParcelKind → Nat
  | .close => 0
  | .leave => 1
  | .snapshot => 2
  | .join => 3
  | .force => 4
  | .loopSet => 5
  | .bankSelect => 6
  | .report => 7
  | .halo => 9

/-- R41: the kind a priority names, if any. -/
def priorityKind (p : Nat) : Option ParcelKind :=
  match p with
  | 0 => some .close
  | 1 => some .leave
  | 2 => some .snapshot
  | 3 => some .join
  | 4 => some .force
  | 5 => some .loopSet
  | 6 => some .bankSelect
  | 7 => some .report
  | 9 => some .halo
  | _ => none

/-- R41: whether a payload length lies in its kind's range. -/
def lengthInRange (k : ParcelKind) (n : Nat) : Bool :=
  match k with
  | .close => n == 1
  | .leave => n == 0
  | .snapshot => 1 ≤ n && n ≤ 300
  | .join => 16 ≤ n && n ≤ 37
  | .force => n == 1
  | .loopSet => n == 2
  | .bankSelect => n == 3
  | .report => n == 2 || n == 14
  | .halo => n == 1442

/-- R39: the arbitration value, priority × 8 + station number. -/
def arbitrationValue (k : ParcelKind) (n : Station) : Nat := kindPriority k * 8 + n.val

/-- The bits of a value, most significant first. -/
def msbFirst {w : Nat} (v : BitVec w) : List Bool := (List.range w).map fun i => v.getMsbD i

/-- R40: the bits the check covers, in line order. -/
def checkedBits (r : Reading) : List Bool :=
  msbFirst r.priority ++ msbFirst r.station ++ msbFirst r.epoch ++ msbFirst r.length ++
    (r.payload.map msbFirst).flatten

/-- R40: one bit of the division by x^16 + x^12 + x^5 + 1. -/
def crcStep (reg : BitVec 16) (b : Bool) : BitVec 16 :=
  if (reg.getLsbD 15) != b then (reg <<< 1) ^^^ 0x1021#16 else reg <<< 1

/-- R40: the remainder over a run of bits, the register preset to all ones. -/
def crc16 (bits : List Bool) : BitVec 16 := bits.foldl crcStep 0xFFFF#16

/-- R40: the parcel is intact at the station that read it. -/
def intact (r : Reading) : Bool :=
  r.complete && r.payload.length == r.length.toNat && r.check == crc16 (checkedBits r) &&
    match priorityKind r.priority.toNat with
    | none => false
    | some k => k == contentKind r.content && lengthInRange k r.length.toNat

/-- R41: the payload length of a content in words. The words of a JOIN are its digest, its founding
flag and its configuration words (R69, R210); how many a SNAPSHOT has is a free value from 1 to 300
(log entry 12). -/
def contentLength : Content → Nat
  | .close _ => 1
  | .leave => 0
  | .snapshot _ a => 1 + Config.snapshotExtra a % 300
  | .join _ _ ws => 2 + ws.length
  | .force _ _ => 1
  | .loopSet _ _ => 2
  | .bankSelect _ _ _ => 3
  | .report _ figures _ _ => if figures.isSome then 14 else 2
  | .halo _ => 1442

/-- R16: the n-th sample of a line in the order Cb0, Y0, Cr0, Y1, Cb1, Y2, Cr1, Y3 and so on. -/
def busSample (v : LineSamples) (n : Nat) : Sample :=
  if n % 2 = 1 then v.y.getD (n / 2) 0
  else if n % 4 = 0 then v.cb.getD (n / 4) 0
  else v.cr.getD (n / 4) 0

/-- A sample in bits 9–0 of a word (R16), under bits 15–10 of another. -/
def sampleUnder (above : Word16) (v : Sample) : Word16 := above.extractLsb' 10 6 ++ v

/-- R39, R41: the word at a place of a content's payload. The fields that fill whole words stand in
the order in which the owner chapter lists them (DEDUCED, log entry 48): the number of a CLOSE (R96)
and of a REPORT (R89), the digest and the configuration words of a JOIN (R69), the value of a LOOP_SET
(R127), the digest and the target of a BANK_SELECT (R188), the samples of a HALO (R154), one a word in
the order of the bus record. Every other word, and the six bits above a sample, are free values that
the content decides (DESIGN CHOICE, log entry 12). -/
def contentWord (c : Content) (i : Nat) : Word16 :=
  match c, i with
  | .close f, 0 => f
  | .join d _ _, 0 => d
  | .join _ _ ws, n + 2 => ws.getD n 0
  | .loopSet _ v, 1 => BitVec.ofNat 16 v
  | .bankSelect _ d _, 1 => d
  | .bankSelect _ _ target, 2 => target
  | .report f _ _ _, 0 => f
  | .halo p, n + 2 => sampleUnder (Config.payloadWord c i) (busSample p.samples n)
  | _, _ => Config.payloadWord c i

/-- R39, R41: the payload words of a content. -/
def contentWords (c : Content) : List Word16 := (List.range (contentLength c)).map (contentWord c)

/-- R39, R44: a parcel as its sender drives it, but for the check. -/
def uncheckedParts (p : Parcel) : Reading :=
  { complete := true
    priority := BitVec.ofNat 4 (kindPriority (contentKind p.content))
    station := BitVec.ofNat 3 p.sender.val
    epoch := p.epoch
    length := BitVec.ofNat 11 (contentLength p.content)
    payload := contentWords p.content
    check := 0
    content := p.content }

/-- R39, R40, R44: a parcel as its sender drives it, with the check the sender computes over its
arbitration field, epoch, payload length and payload. -/
def drivenParts (p : Parcel) : Reading :=
  { uncheckedParts p with check := crc16 (checkedBits (uncheckedParts p)) }

/-- The parcel an intact reading gives. -/
def readingParcel (r : Reading) : Parcel :=
  { sender := ⟨r.station.toNat, r.station.isLt⟩, epoch := r.epoch, content := r.content }

/-! ## Control transactions (R205) -/

/-- The request of a transaction. -/
structure Request where
  kind : Byte
  item : Word16
  value : Word32
deriving DecidableEq, Repr

/-- R205: the request's fields from its eight bytes. -/
def readRequest (b : Vector Byte 8) : Request :=
  { kind := b[0], item := b[1] ++ b[2], value := b[3] ++ b[4] ++ b[5] ++ b[6] }

/-- R205, R206: the eight bytes sum to 0 modulo 256. -/
def checkHolds (b : Vector Byte 8) : Bool :=
  b[0] + b[1] + b[2] + b[3] + b[4] + b[5] + b[6] + b[7] == 0

/-- R205: the number of a result code. -/
def resultNumber : ResultCode → Byte
  | .none => 0
  | .ok => 1
  | .refusedLocked => 2
  | .refusedState => 3
  | .busy => 4
  | .bankActive => 5
  | .badValue => 6
  | .badTable => 7
  | .noCoefficients => 8
  | .queueFull => 9

/-- R205: the eight bytes that carry the previous result. -/
def resultBytes (r : PortResult) : Vector Byte 8 :=
  #v[r.kind, r.item.extractLsb' 8 8, r.item.extractLsb' 0 8, resultNumber r.code,
    r.value.extractLsb' 24 8, r.value.extractLsb' 16 8, r.value.extractLsb' 8 8,
    r.value.extractLsb' 0 8]

/-- Request kind READ (R205). -/
def kindRead : Byte := 1
/-- Request kind WRITE (R205). -/
def kindWrite : Byte := 2
/-- Request kind ACTION (R205). -/
def kindAction : Byte := 3

/-! ## Action arguments (R211) -/

/-- Bank code of an argument: 0 A, 1 B. -/
def argBank (n : Nat) : Option BankName :=
  match n with
  | 0 => some .bankA
  | 1 => some .bankB
  | _ => none

/-- FORCE: sub-mode code × 16 + phase. -/
def argForce (v : Word32) : Option (ForceCode × Nat) :=
  let phase := v.toNat % 16
  match v.toNat / 16 with
  | 0 => some (.ma, phase)
  | 1 => some (.bob, phase)
  | 2 => some (.film22, phase)
  | 3 => some (.film32, phase)
  | 4 => some (.release, phase)
  | _ => none

/-- LOOP: mode code × 65536 + value. -/
def argLoop (v : Word32) : Option (LoopCode × Nat) :=
  let value := v.toNat % 65536
  match v.toNat / 65536 with
  | 0 => some (.auto, value)
  | 1 => some (.held, value)
  | 2 => some (.off, value)
  | _ => none

/-- COMMIT_PAGE: bank × 16 + table × 8 + page. -/
def argCommit (v : Word32) : Option (BankName × TableName × Nat) :=
  if v.toNat ≤ 31 then
    some
      (if v.toNat / 16 = 0 then .bankA else .bankB, if v.toNat / 8 % 2 = 0 then .vertical else .horizontal,
        v.toNat % 8)
  else none

end Sys2Proof.Machine
end

