-- ==== Sys2Proof/Machine/FieldStore.lean ====
section
/-! DEFINITION. The Field Store (chapter 2): slots, lookups, claims, holders, usable samples. -/

namespace Sys2Proof.Machine

/-! ## Slots -/

/-- The slot of an index. -/
def slotAt (s : State) (i : Nat) : Slot := s.fs.slots.getD i Slot.free

/-- Replace the slots. -/
def State.setSlots (s : State) (v : List Slot) : State := s.setFs { s.fs with slots := v }

/-- Replace one slot. -/
def State.setSlot (s : State) (i : Nat) (v : Slot) : State := s.setSlots (s.fs.slots.set i v)

/-- Change the occupant of one slot, if it has one. -/
def State.updateOccupant (s : State) (i : Nat) (f : Occupant → Occupant) : State :=
  s.setSlot i { slotAt s i with occupant := (slotAt s i).occupant.map f }

/-- R27: how long ago a claim was made, counted back from the claim counter. -/
def claimAge (s : State) (claim : Word16) : Nat := (s.fs.claimCounter - 1 - claim).toNat

/-- R30: the slot is CLOSED and carries field f. -/
def slotCarries (f : FieldNo) (sl : Slot) : Bool :=
  match sl.occupant with
  | none => false
  | some o => o.closed && o.field == f

/-- The claim number of a slot. -/
def slotClaim (sl : Slot) : Word16 := (sl.occupant.map (·.claim)).getD 0

/-- Of the indices listed, the one whose slot was claimed most recently. -/
def newestClaim (s : State) : List Nat → Option Nat
  | [] => none
  | i :: rest =>
    match newestClaim s rest with
    | none => some i
    | some j =>
      if claimAge s (slotClaim (slotAt s i)) ≤ claimAge s (slotClaim (slotAt s j)) then some i
      else some j

/-- Of the indices listed, the one whose slot was claimed longest ago. -/
def oldestClaim (s : State) : List Nat → Option Nat
  | [] => none
  | i :: rest =>
    match oldestClaim s rest with
    | none => some i
    | some j =>
      if claimAge s (slotClaim (slotAt s j)) ≤ claimAge s (slotClaim (slotAt s i)) then some i
      else some j

/-- The slot indices. -/
def slotIndices (s : State) : List Nat := List.range s.fs.slots.length

/-- R30: the slot that holds field f, if it is held. -/
def lookupField (s : State) (f : FieldNo) : Option Nat :=
  newestClaim s ((slotIndices s).filter fun i => slotCarries f (slotAt s i))

/-- R30: field f is held. -/
def fieldHeld (s : State) (f : FieldNo) : Bool := (lookupField s f).isSome

/-- The parity of a slot's field. -/
def slotParity (s : State) (i : Nat) : Option Parity := (slotAt s i).occupant.map (·.parity)

/-! ## Claims (R27, R28) -/

/-- The slot is FREE. -/
def isFree (sl : Slot) : Bool := sl.occupant.isNone

/-- The slot is CLOSED. -/
def isClosed (sl : Slot) : Bool := (sl.occupant.map (·.closed)).getD false

/-- R27: the slot granted to an arriving field, if any. -/
def grantSlot (s : State) : Option Nat :=
  let candidates := (slotIndices s).filter fun i => (slotAt s i).holders.isEmpty
  match candidates.find? fun i => isFree (slotAt s i) with
  | some i => some i
  | none => oldestClaim s (candidates.filter fun i => isClosed (slotAt s i))

/-- R28: a fresh Line Table: an ABSENT entry for each window field line of the parity. -/
def freshTable (o : Ownership) (p : Parity) : List LineEntry :=
  match o.windowRun p with
  | none => []
  | some (first, last) =>
    (List.range' first (last + 1 - first)).map fun l =>
      { line := l, state := .absent, spans := [], samples := none }

/-- R27: make a granted slot FILLING for field f, with the next claim number. -/
def claimSlot (s : State) (i : Nat) (f : FieldNo) (p : Parity) : State :=
  let occupant : Occupant :=
    { closed := false, field := f, parity := p, claim := s.fs.claimCounter, declared := none
      table := freshTable s.cp.ownership p }
  s.setFs
    { slots := s.fs.slots.set i { occupant := some occupant, holders := [] }
      claimCounter := s.fs.claimCounter + 1 }

/-! ## Line entries (R18, R22, R29) -/

/-- R22: the entry a kept record writes. -/
def entryFromRecord (r : LineRecord) : LineEntry :=
  { line := r.line, state := if r.spans.isEmpty then .valid else .dropout, spans := r.spans
    samples := some r.samples }

/-- R18: a span covers Y sample x. -/
def spanCovers (x : Nat) (sp : Span) : Bool := sp.start ≤ x && x < sp.start + sp.length

/-- R18: Y sample x is a dropout sample. -/
def dropoutLuma (spans : List Span) (x : Nat) : Bool := spans.any (spanCovers x)

/-- R18: Cb and Cr sample k are dropout samples. -/
def dropoutChroma (spans : List Span) (k : Nat) : Bool :=
  dropoutLuma spans (2 * k) || dropoutLuma spans (2 * k + 1)

/-- The samples of a run, absent at the positions a test names. -/
def maskSamples (hidden : Nat → Bool) : Nat → List Sample → List (Option Nat)
  | _, [] => []
  | i, v :: vs => (if hidden i then none else some v.toNat) :: maskSamples hidden (i + 1) vs

/-- What a reader sees of a line: at each position the sample when usable, else nothing (R29). -/
structure LineView where
  y : List (Option Nat)
  cb : List (Option Nat)
  cr : List (Option Nat)
deriving DecidableEq, Repr

/-- A line no sample of which is usable. -/
def LineView.blank : LineView :=
  { y := List.replicate 720 none, cb := List.replicate 360 none, cr := List.replicate 360 none }

/-- R29: the usable samples of an entry. -/
def viewEntry (e : LineEntry) : LineView :=
  match e.samples with
  | none => LineView.blank
  | some v =>
    match e.state with
    | .valid | .repaired =>
      { y := v.y.map fun x => some x.toNat
        cb := v.cb.map fun x => some x.toNat
        cr := v.cr.map fun x => some x.toNat }
    | .dropout =>
      { y := maskSamples (dropoutLuma e.spans) 0 v.y
        cb := maskSamples (dropoutChroma e.spans) 0 v.cb
        cr := maskSamples (dropoutChroma e.spans) 0 v.cr }
    | .absent | .lost => LineView.blank

/-- The entry for a field line of a slot. -/
def entryAt (s : State) (i : Nat) (l : Nat) : Option LineEntry :=
  match (slotAt s i).occupant with
  | none => none
  | some o => o.table.find? fun e => e.line == l

/-- R29: what a reader sees of field line l of a slot; nothing where there is no entry. -/
def viewLine (s : State) (i : Nat) (l : Nat) : LineView :=
  match entryAt s i l with
  | none => LineView.blank
  | some e => viewEntry e

/-- Replace the entry of the same field line in a table. -/
def putEntry (e : LineEntry) (table : List LineEntry) : List LineEntry :=
  table.map fun x => if x.line = e.line then e else x

/-- R23: an ABSENT entry becomes LOST at the end of the field. -/
def loseEntry (e : LineEntry) : LineEntry :=
  if e.state = .absent then { e with state := .lost } else e

/-- How many entries of a table are in a state. -/
def countState (st : EntryState) (table : List LineEntry) : Nat :=
  (table.filter fun e => e.state == st).length

/-! ## Holders (R31) -/

/-- Add a holder to one slot, at most once. -/
def addHolder (h : Holder) (s : State) (i : Nat) : State :=
  if (slotAt s i).holders.contains h then s
  else s.setSlot i { slotAt s i with holders := (slotAt s i).holders ++ [h] }

/-- Remove a holder from every slot. -/
def dropHolder (h : Holder) (s : State) : State :=
  s.setSlots (s.fs.slots.map fun sl => { sl with holders := sl.holders.filter (· != h) })

/-- Add a holder to the slot of each field listed that is held. -/
def holdFields (h : Holder) (s : State) (fields : List FieldNo) : State :=
  (fields.filterMap (lookupField s)).foldl (addHolder h) s

/-- R25: an accepted START makes FREE every slot whose holder list is empty. -/
def freeUnheld (s : State) : State :=
  s.setSlots (s.fs.slots.map fun sl => if sl.holders.isEmpty then Slot.free else sl)

/-- R25: entry to STOPPED drops an open field: its slot becomes FREE and the marker absent. -/
def dropOpenField (s : State) : State :=
  let cleared := s.setLi { s.li with marker := none }
  match s.li.marker with
  | none => cleared
  | some m =>
    match m.slot with
    | none => cleared
    | some i => cleared.setSlot i Slot.free

end Sys2Proof.Machine
end

