-- ==== Sys2Proof/Machine/PeerLine.lean ====
section
/-! DEFINITION. The Peer Line Interface (chapter 3): queues, offers, the acknowledgement tests, and
what the sender does with each outcome. -/

namespace Sys2Proof.Machine

/-! ## Release counts carried by a REPORT (R90) -/

/-- Add to a release count, capped at 3. -/
def addRelease (n : Nat) (d : Direction) : Direction := { d with release := min 3 (d.release + n) }

/-- R90: the counts of a REPORT that leaves the queue untaken are added back; other parcels carry
none. -/
def returnCounts (q : Queued) (s : State) : State :=
  match q with
  | .report _ _ up down =>
    s.setHx { s.hx with up := addRelease up s.hx.up, down := addRelease down s.hx.down }
  | _ => s

/-! ## Queues (R54, R55) -/

/-- Answers to a request to queue an urgent parcel (R54). -/
inductive QueueAnswer where
  | queueFull
  | duplicate
  | wrongState
  | accepted
deriving DecidableEq, Repr

/-- R54: the two parcels are REPORTs, or CLOSEs, for the same round. -/
def sameRound : Queued → Queued → Bool
  | .close f, .close g => f == g
  | .report f _ _ _, .report g _ _ _ => f == g
  | _, _ => false

/-- R54, R55: the membership states whose requests are refused. -/
def refusesQueueing (m : Membership) : Bool :=
  m == .offline || m == .stopped || m == .isolated

/-- R54: the answer to a request. -/
def urgentAnswer (q : Queued) (s : State) : QueueAnswer :=
  if Config.urgentCapacity ≤ s.pli.urgent.length then .queueFull
  else if s.pli.urgent.any (sameRound q) then .duplicate
  else if refusesQueueing s.cu.membership then .wrongState
  else .accepted

/-- R54: place a parcel last. -/
def pushUrgent (q : Queued) (s : State) : State :=
  s.setPli { s.pli with urgent := s.pli.urgent ++ [q] }

/-- R54: a request to queue an urgent parcel: accepted, or refused with nothing changed. -/
def requestUrgent (q : Queued) (s : State) : State :=
  match urgentAnswer q s with
  | .accepted => pushUrgent q s
  | _ => s

/-- R55: whether the Bulk Queue accepts a set. -/
def bulkAccepts (ps : List HaloParcel) (s : State) : Bool :=
  s.pli.bulk.length + ps.length ≤ Config.bulkCapacity && !refusesQueueing s.cu.membership

/-- R55: place a set's parcels last, in order. -/
def pushBulk (ps : List HaloParcel) (s : State) : State :=
  s.setPli { s.pli with bulk := s.pli.bulk ++ ps }

/-- The parcel in transmission is the Urgent Queue's head. -/
def urgentOnLine (p : LineInterface) : Bool :=
  match p.tx with
  | some t => !t.bulk
  | none => false

/-- The parcel in transmission is the Bulk Queue's head. -/
def bulkOnLine (p : LineInterface) : Bool :=
  match p.tx with
  | some t => t.bulk
  | none => false

/-- R58: set the withdrawal mark of the parcel in transmission; a mark already set stays. -/
def markTx (cause : MarkCause) (p : LineInterface) : LineInterface :=
  { p with tx := p.tx.map fun t => { t with mark := some (t.mark.getD cause) } }

/-- R57: a flush's mark replaces one set before it. -/
def markFlushed (p : LineInterface) : LineInterface :=
  { p with tx := p.tx.map fun t => { t with mark := some .flushed } }

/-! ## Withdrawal (R56 to R58) -/

/-- R56: remove from the Urgent Queue every parcel that matches; the one in transmission is marked
instead. -/
def withdrawnUrgent (hit : Queued → Bool) (p : LineInterface) : LineInterface :=
  match p.urgent with
  | [] => p
  | q :: rest =>
    let kept := rest.filter fun x => !hit x
    if urgentOnLine p then
      if hit q then markTx .withdrawn { p with urgent := q :: kept } else { p with urgent := q :: kept }
    else if hit q then { p with urgent := kept, urgentAttempts := 0 }
    else { p with urgent := q :: kept }

/-- The parcels that such a request removes at once. -/
def removedUrgent (hit : Queued → Bool) (p : LineInterface) : List Queued :=
  (if urgentOnLine p then p.urgent.drop 1 else p.urgent).filter hit

/-- R56, R90: a selective withdrawal from the Urgent Queue; a REPORT removed returns its counts. -/
def withdrawUrgent (hit : Queued → Bool) (s : State) : State :=
  (removedUrgent hit s.pli).foldl (fun t q => returnCounts q t)
    (s.setPli (withdrawnUrgent hit s.pli))

/-- R56: a selective withdrawal from the Bulk Queue. -/
def withdrawnBulk (hit : HaloParcel → Bool) (p : LineInterface) : LineInterface :=
  match p.bulk with
  | [] => p
  | q :: rest =>
    let kept := rest.filter fun x => !hit x
    if bulkOnLine p then
      if hit q then markTx .withdrawn { p with bulk := q :: kept } else { p with bulk := q :: kept }
    else if hit q then { p with bulk := kept, bulkAttempts := 0 }
    else { p with bulk := q :: kept }

/-- R56: a selective withdrawal from the Bulk Queue. -/
def withdrawBulk (hit : HaloParcel → Bool) (s : State) : State :=
  s.setPli (withdrawnBulk hit s.pli)

/-- R56, R102: the round-closed request for N. -/
def isRoundParcel (n : FieldNo) : Queued → Bool
  | .close f => f == n
  | .report f _ _ _ => f == n
  | _ => false

/-- R56, R70: a SNAPSHOT to joiner n. -/
def isSnapshotTo (n : Station) : Queued → Bool
  | .snapshot j => j == n
  | _ => false

/-- A JOIN. -/
def isJoin : Queued → Bool
  | .join _ _ _ => true
  | _ => false

/-- A BANK_SELECT naming a bank. -/
def isSelectOf (b : BankName) : Queued → Bool
  | .bankSelect x _ _ => x == b
  | _ => false

/-- A BANK_SELECT. -/
def isSelect : Queued → Bool
  | .bankSelect _ _ _ => true
  | _ => false

/-- R57: a flush. The parcel in transmission stays at its queue's head, marked. -/
def flush (s : State) : State :=
  s.setPli
    (markFlushed
      { s.pli with
        urgent := if urgentOnLine s.pli then s.pli.urgent.take 1 else []
        bulk := if bulkOnLine s.pli then s.pli.bulk.take 1 else []
        urgentAttempts := 0
        bulkAttempts := 0
        urgentDiscards := 0 })

/-! ## Begin and arbitration (R42 to R44) -/

/-- The content of a queued parcel as filled at its begin (R44). -/
def fillContent (a : AgreedState) : Queued → Content
  | .close f => .close f
  | .leave => .leave
  | .snapshot j => .snapshot j a
  | .join d f ws => .join d f ws
  | .force c p => .force c p
  | .loopSet c v => .loopSet c v
  | .bankSelect b d t => .bankSelect (.named b) d t
  | .report f g u d => .report f g u d

/-- R44: a parcel of this station as it begins. -/
def beginParcel (s : State) (c : Content) : Parcel :=
  { sender := s.cp.station, epoch := s.cu.agreed.epoch, content := c }

/-- R39, R40, R44: a parcel of this station as it goes into transmission. -/
def beginTransmission (bulk : Bool) (p : Parcel) : Transmission :=
  { bulk := bulk, parcel := p, mark := none, sent := drivenParts p }

/-- R42: the membership states that offer parcels. -/
def mayOffer (m : Membership) : Bool :=
  m == .listening || m == .joining || m == .member || m == .leaving

/-- R42: the parcel offered at an idle point: the head of the Urgent Queue, or with that queue
empty the head of the Bulk Queue. A head whose attempts are used up awaits its discard (R51). -/
def offered (s : State) : Option Transmission :=
  if s.pli.attached && mayOffer s.cu.membership && s.pli.tx.isNone then
    match s.pli.urgent with
    | q :: _ =>
      if s.pli.urgentAttempts < Config.maxAttempts then
        some (beginTransmission false (beginParcel s (fillContent s.cu.agreed q)))
      else none
    | [] =>
      match s.pli.bulk with
      | [] => none
      | p :: _ =>
        if s.pli.bulkAttempts < Config.maxAttempts then
          some (beginTransmission true (beginParcel s (.halo p)))
        else none
  else none

/-- R43: the offer is not beaten by the lowest value other stations drive. -/
def wins (t : Transmission) (others : Option (Fin 128)) : Bool :=
  match others with
  | none => true
  | some v => arbitrationValue (contentKind t.parcel.content) t.parcel.sender ≤ v.val

/-- R42, R43: contend for the line. A loss leaves queue and attempt count unchanged. -/
def contend (others : Option (Fin 128)) (s : State) : State :=
  match offered s with
  | none => s
  | some t => if wins t others then s.setPli { s.pli with tx := some t } else s

/-! ## The acknowledgement slot (R46 to R49) -/

/-- The bank of a name. -/
def bankOf (s : State) : BankName → Bank
  | .bankA => s.sc.bankA
  | .bankB => s.sc.bankB

/-- The bank of a name is READY. -/
def bankReady (s : State) (b : BankName) : Bool := (bankOf s b).state == .ready

/-- R48: the build of `target`, or of a newer frame, has begun. -/
def begunAtLeast (s : State) (target : FieldNo) : Bool :=
  match s.lb.lastBegun with
  | none => false
  | some b => b == target || newer b target

/-- R48: a member receiver's tests of a BANK_SELECT. A code that names no bank fails neither bank
test (R188: such a parcel is taken with no effect). -/
def selectVoided (s : State) (b : BankCode) (d : Digest) (target : FieldNo) : Bool :=
  (match b with
    | .named n => !bankReady s n || (bankOf s n).digest != d
    | .other _ => false) ||
    begunAtLeast s target || s.cu.agreed.bank.pending.isSome

/-- R47 case 1: the sender epoch differs, or the roster holds no entry for the sender. -/
def staleSender (s : State) (p : Parcel) : Bool :=
  p.epoch != s.cu.agreed.epoch || (rosterEntry s.cu.agreed.roster p.sender).isNone

/-- R47, R48: a member receiver asserts VOID on an intact parcel. -/
def memberVoids (s : State) (p : Parcel) : Bool :=
  match p.content with
  | .join d _ ws => d != s.cp.digest || ws != configWords s.cp.config
  | .bankSelect b d t => staleSender s p || selectVoided s b d t
  | _ => staleSender s p

/-- R46 to R49: this station, if attached, asserts VOID on an intact parcel. -/
def voidsIntact (s : State) (p : Parcel) : Bool := s.cu.membership.applies && memberVoids s p

/-- R46: what an attached station drives in the slot of the parcel it read. -/
def ackOf (s : State) (r : Reading) : AckDrive :=
  if !intact r || voidsIntact s (readingParcel r) then .void else .recessive

/-- Record what the station drove. -/
def State.drive (s : State) (a : AckDrive) : State := s.setPli { s.pli with ackDrive := a }

/-! ## Outcomes at the sender (R50, R51, R58) -/

/-- Remove the head of the queue the parcel in transmission stands in. -/
def dropSent (t : Transmission) (p : LineInterface) : LineInterface :=
  if t.bulk then { p with bulk := p.bulk.drop 1, bulkAttempts := 0, tx := none }
  else { p with urgent := p.urgent.drop 1, urgentAttempts := 0, tx := none }

/-- R50: the take completes the sender's parcel. -/
def completeSend (s : State) : State :=
  match s.pli.tx with
  | none => s
  | some t =>
    let p := dropSent t s.pli
    s.setPli (if t.bulk then p else { p with urgentDiscards := 0 })

/-- R51: one attempt more for the head of the queue the parcel stands in. -/
def countAttempt (t : Transmission) (p : LineInterface) : LineInterface :=
  if t.bulk then { p with bulkAttempts := p.bulkAttempts + 1, tx := none }
  else { p with urgentAttempts := p.urgentAttempts + 1, tx := none }

/-- R58, R90: remove a marked parcel after a void: no attempt, and a REPORT withdrawn by a request
returns its counts (a flush returns none). -/
def removeMarked (t : Transmission) (cause : MarkCause) (s : State) : State :=
  let removed := s.setPli (dropSent t s.pli)
  match cause with
  | .flushed => removed
  | .withdrawn =>
    if t.bulk then removed
    else
      match s.pli.urgent with
      | [] => removed
      | q :: _ => returnCounts q removed

/-- R51, R58: the station's parcel in transmission was voided. -/
def voidSend (s : State) : State :=
  match s.pli.tx with
  | none => s
  | some t =>
    match t.mark with
    | some cause => removeMarked t cause s
    | none => s.setPli (countAttempt t s.pli)

/-- R45, R58: the station's parcel in transmission was cut short: it stays at the head, unless it
carries a mark. -/
def cutShort (s : State) : State :=
  match s.pli.tx with
  | none => s
  | some t =>
    match t.mark with
    | some cause => removeMarked t cause s
    | none => s.setPli { s.pli with tx := none }

/-- R37: become ATTACHED. -/
def attach (s : State) : State := s.setPli { s.pli with attached := true }

/-- R38: stop driving and become DETACHED; the queues stay as they stand. -/
def detach (s : State) : State :=
  let t := cutShort s
  t.setPli { t.pli with attached := false }

/-- R59: entry to STOPPED: DETACHED, idle monitor stopped, counts 0. -/
def stopLine (s : State) : State :=
  let t := detach s
  t.setPli
    { t.pli with idleMonitor := false, urgentAttempts := 0, bulkAttempts := 0, urgentDiscards := 0 }

/-- R65: the parcel on the line is this station's own parcel in transmission. -/
def isOwn (s : State) (p : Parcel) : Bool :=
  match s.pli.tx with
  | none => false
  | some t => t.parcel == p

end Sys2Proof.Machine
end

