-- ==== Sys2Proof/Machine/Scaler.lean ====
section
/-! DEFINITION. The Scaler (chapter 9): banks, the scaling record, and the arithmetic of a row. -/

namespace Sys2Proof.Machine

/-! ## Banks (R177 to R184) -/

/-- Replace a bank. -/
def State.setBank (s : State) (n : BankName) (v : Bank) : State :=
  match n with
  | .bankA => s.setSc { s.sc with bankA := v }
  | .bankB => s.setSc { s.sc with bankB := v }

/-- A commit to this bank is in flight. -/
def commitOn (s : State) (n : BankName) : Bool :=
  match s.sc.commit with
  | none => false
  | some c => c.bank == n

/-- R178: the bank is protected. -/
def bankProtected (s : State) (n : BankName) : Bool :=
  (s.cu.membership.applies &&
      (s.cu.agreed.bank.active == n || (s.cu.agreed.bank.pending.map (·.bank)) == some n)) ||
    (s.sc.scaling.bind (·.bank)) == some n ||
    (s.sc.outgoing.map (·.bank)) == some n ||
    s.pli.urgent.any (isSelectOf n)

/-- R181 step 3: the digest of a bank's coefficients: their sum, negative ones as 65536 plus the
value, modulo 65536. -/
def coeffDigest (v h : List Coeff) : Digest :=
  (v ++ h).foldl (fun d c => d + c.signExtend 16) 0

/-- R181 step 1: the 64 coefficients of page g replaced in a table. -/
def writePage (g : Nat) (page table : List Coeff) : List Coeff :=
  table.take (64 * g) ++ page ++ table.drop (64 * g + 64)

/-- The bit of a page in the pages-written set. -/
def pageBit (t : TableName) (g : Nat) : Nat :=
  match t with
  | .vertical => g
  | .horizontal => 8 + g

/-- R181 steps 1 to 4: the bank after its commit completes. -/
def commitInto (c : Commit) (b : Bank) : Bank :=
  let v := if c.table = .vertical then writePage c.page c.coeffs b.vertical else b.vertical
  let h := if c.table = .horizontal then writePage c.page c.coeffs b.horizontal else b.horizontal
  let pages := b.pages ||| (1#16 <<< pageBit c.table c.page)
  { state := if pages = BitVec.allOnes 16 then .ready else .loading
    vertical := v, horizontal := h, pages := pages, digest := coeffDigest v h }

/-! ## The scaling record (R168 to R175) -/

/-- R169: the bank a build of frame N is given by the bank record and the outgoing bank. -/
def chosenBank (s : State) (n : FieldNo) : BankName :=
  let active :=
    match s.sc.outgoing with
    | some o => if newer o.switchFrame n then o.bank else s.cu.agreed.bank.active
    | none => s.cu.agreed.bank.active
  match s.cu.agreed.bank.pending with
  | some p => if n = p.target || newer n p.target then p.bank else active
  | none => active

/-- R169: the outgoing bank after the choice for frame N: absent once N is its switch frame or
newer. -/
def outgoingAfter (s : State) (n : FieldNo) : Option Outgoing :=
  match s.sc.outgoing with
  | none => none
  | some o => if n = o.switchFrame || newer n o.switchFrame then none else some o

/-- R168: the edge state a side has at the start of a build. -/
def startEdge (s : State) (side : Side) : EdgeState :=
  if s.cp.ownership.seam side = .pictureEdge || (edgeRows s.cp.config s.cp.ownership side).isEmpty
  then .none else .waiting

/-- R169: the scaling record made at the start of the build of frame N. -/
def startScaling (n : FieldNo) (agreed : Bool) (s : State) : State :=
  let bank := chosenBank s n
  let ready := bankReady s bank
  s.setSc
    { s.sc with
      scaling := some
        { frame := n
          agreed := agreed
          bank := if ready then some bank else none
          digest := if ready then some (bankOf s bank).digest else none
          phase := .lines
          rows := 0
          upper := startEdge s .upper
          lower := startEdge s .lower
          todo := []
          current := none
          queue := [] }
      outgoing := outgoingAfter s n }

/-- The edge state of a side. -/
def edgeOf (r : ScalingRecord) (side : Side) : EdgeState :=
  match side with
  | .upper => r.upper
  | .lower => r.lower

/-- Mark a side's edge rows written. -/
def edgeWritten (side : Side) (r : ScalingRecord) : ScalingRecord :=
  match side with
  | .upper => { r with upper := .written }
  | .lower => { r with lower := .written }

/-- R175: begin the next resolved side, if one is queued. -/
def beginSide (c : ConfigItems) (o : Ownership) (r : ScalingRecord) : ScalingRecord :=
  match r.queue with
  | [] => { r with current := none, todo := [] }
  | x :: xs => { r with current := some x, todo := edgeRows c o x, queue := xs }

/-- The side record of a side. -/
def sideRecord (s : State) (side : Side) : Option SideRecord :=
  match side with
  | .upper => s.hx.upperSide
  | .lower => s.hx.lowerSide

/-- The side is RESOLVED. -/
def sideResolved (s : State) (side : Side) : Bool :=
  match sideRecord s side with
  | none => false
  | some r => r.lines.isSome

/-- R170, R175: entry to EDGES. The sides already RESOLVED are queued, the upper first. -/
def enterEdges (s : State) (r : ScalingRecord) : ScalingRecord :=
  let ready := [Side.upper, Side.lower].filter fun x =>
    sideResolved s x && edgeOf r x == .waiting
  beginSide s.cp.config s.cp.ownership { r with phase := .edges, queue := ready }

/-- R175: the Scaler is told that a side is RESOLVED. It acts on it in EDGES, for a side still
waiting that it has not begun. -/
def toldResolved (side : Side) (s : State) : State :=
  match s.sc.scaling with
  | none => s
  | some r =>
    if r.phase == .edges && edgeOf r side == .waiting && !r.queue.contains side &&
        r.current != some side then
      let queued := { r with queue := r.queue ++ [side] }
      let next :=
        if r.current.isNone then beginSide s.cp.config s.cp.ownership queued else queued
      s.setSc { s.sc with scaling := some next }
    else s

/-- R170: every core line is BUILT: INTERIOR, with the interior rows to write, or every owned row
for a black build; a band without interior rows goes on to EDGES at once. -/
def enterInterior (s : State) (r : ScalingRecord) : ScalingRecord :=
  let rows :=
    if r.bank.isNone then ownedRows s.cp.ownership else interiorRows s.cp.config s.cp.ownership
  let interior := { r with phase := .interior, todo := rows }
  if rows.isEmpty then enterEdges s interior else interior

/-- R170: a black build reaches EDGES with both sides written. -/
def blackSides (r : ScalingRecord) : ScalingRecord :=
  { r with
    upper := if r.upper = .none then .none else .written
    lower := if r.lower = .none then .none else .written }

/-- R175: no side is still waiting. -/
def sidesDone (r : ScalingRecord) : Bool := r.upper != .waiting && r.lower != .waiting

/-- R170, R174, R175: the record after its next row is written. -/
def afterRow (s : State) (r : ScalingRecord) : ScalingRecord :=
  let counted := { r with rows := r.rows + 1, todo := r.todo.drop 1 }
  if counted.todo.isEmpty then
    match r.phase with
    | .edges =>
      match r.current with
      | none => counted
      | some x => beginSide s.cp.config s.cp.ownership (edgeWritten x counted)
    | _ => enterEdges s (if r.bank.isNone then blackSides counted else counted)
  else counted

/-- R175: every owned row has been written. -/
def allWritten (r : ScalingRecord) : Bool :=
  r.phase == .edges && r.todo.isEmpty && sidesDone r

/-! ## The arithmetic of a row (R171 to R173) -/

/-- A line of one colour. -/
def flatLine (y cb cr : Nat) : LineSamples :=
  { y := List.replicate 720 (BitVec.ofNat 10 y)
    cb := List.replicate 360 (BitVec.ofNat 10 cb)
    cr := List.replicate 360 (BitVec.ofNat 10 cr) }

/-- R13: a fill-colour halo line. -/
def fillLine (c : ConfigItems) : LineSamples := flatLine c.fillY c.fillCb c.fillCr

/-- Black level (R144): Y 64, Cb 512, Cr 512. -/
def blackLine : LineSamples := flatLine 64 512 512

/-- The core line of frame line y in the Progressive Line Buffer. -/
def coreLine (s : State) (y : Nat) : CoreLine :=
  s.lb.lines.getD (y - s.cp.ownership.coreLow) { samples := none, repaired := false }

/-- The samples of a core line. -/
def coreSamples (s : State) (y : Nat) : LineSamples := ((coreLine s y).samples).getD blackLine

/-- R162: the outermost core line of a side. -/
def outermost (o : Ownership) (side : Side) : Nat :=
  match side with
  | .upper => o.coreLow
  | .lower => o.coreHigh - 1

/-- R162: the samples of a halo line of a side. -/
def haloSamples (s : State) (side : Side) (h : HaloLine) : LineSamples :=
  match h with
  | .neighbour v => v
  | .fill => fillLine s.cp.config
  | .clamped => coreSamples s (outermost s.cp.ownership side)

/-- R171: the side whose halo a frame line outside the core lies in, with its place there. -/
def haloPlace (o : Ownership) (y : Nat) : Option (Side × Nat) :=
  if y < o.coreLow then some (.upper, y + 3 - o.coreLow)
  else if o.coreHigh ≤ y then some (.lower, y - o.coreHigh)
  else none

/-- The halo line at a place of a side's record; CLAMPED where the record has none. -/
def haloLineAt (s : State) (side : Side) (i : Nat) : HaloLine :=
  match sideRecord s side with
  | none => .clamped
  | some r =>
    match r.lines with
    | none => .clamped
    | some ls => ls.getD i .clamped

/-- R171: the frame lines the eight taps of a row read, clamped to the picture. -/
def tapLines (c : ConfigItems) (r : Nat) : List Nat :=
  (List.range 8).map fun k => min (rowPosition c r + k - 3) (sourceLines c - 1)

/-- R171: the samples of a tap line. -/
def tapSamples (s : State) (y : Nat) : LineSamples :=
  match haloPlace s.cp.ownership y with
  | none => coreSamples s y
  | some (side, i) => haloSamples s side (haloLineAt s side i)

/-- R174: the tap line is a core line whose repaired mark is set. -/
def tapRepaired (s : State) (y : Nat) : Bool :=
  match haloPlace s.cp.ownership y with
  | none => (coreLine s y).repaired
  | some _ => false

/-- R164, R174: the tap line is a CLAMPED halo line. -/
def tapClamped (s : State) (y : Nat) : Bool :=
  match haloPlace s.cp.ownership y with
  | none => false
  | some (side, i) =>
    match haloLineAt s side i with
    | .clamped => true
    | _ => false

/-- R177: the eight coefficients of a phase. -/
def phaseSet (table : List Coeff) (phase : Nat) : List Int :=
  ((table.drop (phase * 8)).take 8).map BitVec.toInt

/-- A weighted sum, formed exactly. -/
def weigh : List Int → List Int → Int
  | c :: cs, v :: vs => c * v + weigh cs vs
  | _, _ => 0

/-- floor((n + 512) / 1024). -/
def descale (n : Int) : Int := (n + 512).fdiv 1024

/-- R172: the vertical values of one component at `width` positions. -/
def verticalPass (coeffs : List Int) (lines : List (List Sample)) (width : Nat) : List Int :=
  (List.range width).map fun x =>
    descale (weigh coeffs (lines.map fun l => ((l.getD x 0).toNat : Int)))

/-- R173: clamp to 0 to 1023. -/
def clampSample (v : Int) : Sample := BitVec.ofInt 10 (max 0 (min 1023 v))

/-- R173: the eight vertical values the taps of a column read. -/
def columnTaps (values : List Int) (position : Nat) : List Int :=
  (List.range 8).map fun k => values.getD (min (position + k - 3) (values.length - 1)) 0

/-- R173: `columns` output samples of one component. -/
def horizontalPass (c : ConfigItems) (table : List Coeff) (values : List Int) (columns : Nat) :
    List Sample :=
  (List.range columns).map fun col =>
    clampSample
      (descale (weigh (phaseSet table (columnPhase c col)) (columnTaps values (columnPosition c col))))

/-- R172, R173: one component of row r. -/
def scaleComponent (c : ConfigItems) (b : Bank) (r : Nat) (lines : List (List Sample))
    (width columns : Nat) : List Sample :=
  horizontalPass c b.horizontal
    (verticalPass (phaseSet b.vertical (rowPhase c r)) lines width) columns

/-- R171 to R173: the samples of row r scaled with a bank. -/
def scaleRow (s : State) (b : Bank) (r : Nat) : LineSamples :=
  let c := s.cp.config
  let lines := (tapLines c r).map (tapSamples s)
  let w := outputColumns c
  { y := scaleComponent c b r (lines.map (·.y)) 720 w
    cb := scaleComponent c b r (lines.map (·.cb)) 360 (w / 2)
    cr := scaleComponent c b r (lines.map (·.cr)) 360 (w / 2) }

/-- R170: a row with every Y sample 64 and every Cb and Cr sample 512. -/
def flatRow (c : ConfigItems) (y cb cr : Nat) : LineSamples :=
  let w := outputColumns c
  { y := List.replicate w (BitVec.ofNat 10 y)
    cb := List.replicate (w / 2) (BitVec.ofNat 10 cb)
    cr := List.replicate (w / 2) (BitVec.ofNat 10 cr) }

/-- R170, R174: the row the Scaler writes, with its flags. -/
def scaledRow (s : State) (rec : ScalingRecord) (r : Nat) : StoredRow :=
  match rec.bank with
  | none =>
    { row := r
      samples := flatRow s.cp.config 64 512 512
      flags := { unagreed := !rec.agreed, repaired := false, seamClamped := false, black := true } }
  | some n =>
    let taps := tapLines s.cp.config r
    { row := r
      samples := scaleRow s (bankOf s n) r
      flags :=
        { unagreed := !rec.agreed
          repaired := taps.any (tapRepaired s)
          seamClamped := taps.any (tapClamped s)
          black := false } }

end Sys2Proof.Machine
end

