-- ==== Sys2Proof/Machine/Halo.lean ====
section
/-! DEFINITION. Halo Exchange (chapter 8): direction records, sets, credit, placement, sides. -/

namespace Sys2Proof.Machine

/-! ## Direction records (R150) -/

/-- The direction record of a side: up serves the upper seam, down the lower. -/
def dirOf (s : State) (side : Side) : Direction :=
  match side with
  | .upper => s.hx.up
  | .lower => s.hx.down

/-- Replace the direction record of a side. -/
def State.setDir (s : State) (side : Side) (d : Direction) : State :=
  match side with
  | .upper => s.setHx { s.hx with up := d }
  | .lower => s.setHx { s.hx with down := d }

/-- R158, R162: how many halo lines a side reads: 3 above, 4 below. -/
def sideSize : Side → Nat
  | .upper => 3
  | .lower => 4

/-- R157: raise a credit, capped at 2. -/
def raiseCredit (n : Nat) (d : Direction) : Direction := { d with credit := min 2 (d.credit + n) }

/-- R158: one release of frame f: the release count, capped at 3, and the let-go frame. -/
def noteRelease (f : FieldNo) (d : Direction) : Direction :=
  { addRelease 1 d with letGo := if newerThan f d.letGo then some f else d.letGo }

/-! ## Releases (R161) -/

/-- The slot holds a frame that the test picks. -/
def slotPicked (pick : ReceiveSlot → FieldNo → Bool) (sl : ReceiveSlot) : Bool :=
  match sl.frame with
  | none => false
  | some f => pick sl f

/-- R161: count the releases of the slots picked. -/
def noteReleases (pick : ReceiveSlot → FieldNo → Bool) (slots : List ReceiveSlot) (d : Direction) :
    Direction :=
  slots.foldl
    (fun d sl =>
      match sl.frame with
      | none => d
      | some f => if pick sl f then noteRelease f d else d)
    d

/-- R161: release every slot the test picks. -/
def releaseSlots (pick : ReceiveSlot → FieldNo → Bool) (d : Direction) : Direction :=
  { noteReleases pick d.slots d with
    slots := d.slots.map fun sl =>
      if slotPicked pick sl then ReceiveSlot.empty sl.received.length else sl }

/-- Change both direction records alike. -/
def bothDirections (f : Direction → Direction) (s : State) : State :=
  s.setHx { s.hx with up := f s.hx.up, down := f s.hx.down }

/-! ## Sides (R162, R163) -/

/-- Replace the side record of a side. -/
def State.setSide (s : State) (side : Side) (r : Option SideRecord) : State :=
  match side with
  | .upper => s.setHx { s.hx with upperSide := r }
  | .lower => s.setHx { s.hx with lowerSide := r }

/-- The side has a record and is UNRESOLVED. -/
def sideUnresolved (s : State) (side : Side) : Bool :=
  match sideRecord s side with
  | none => false
  | some r => r.lines.isNone

/-- R162: every line of a side CLAMPED. -/
def clampedLines (side : Side) : List HaloLine := List.replicate (sideSize side) .clamped

/-- R163: the halo lines a slot's received lines give: NEIGHBOUR where received, else CLAMPED. -/
def linesFrom (received : List (Option LineSamples)) : List HaloLine :=
  received.map fun r =>
    match r with
    | some v => .neighbour v
    | none => .clamped

/-- R162: the side becomes RESOLVED and the Scaler is told. -/
def resolveSide (side : Side) (lines : List HaloLine) (s : State) : State :=
  toldResolved side (s.setSide side (some { lines := some lines }))

/-- The slot of a side that holds frame f. -/
def slotHolding (f : FieldNo) (d : Direction) : Option ReceiveSlot :=
  d.slots.find? fun sl => sl.frame == some f

/-- R163: resolve one side, if UNRESOLVED, from what its slot for the build's frame holds. -/
def expireSide (frame : FieldNo) (s : State) (side : Side) : State :=
  if sideUnresolved s side then
    match slotHolding frame (dirOf s side) with
    | some sl => resolveSide side (linesFrom sl.received) s
    | none => resolveSide side (clampedLines side) s
  else s

/-- The two sides in the order one event resolves them. With both UNRESOLVED the order is a free
value (log entry 11). -/
def sideOrder (s : State) : List Side :=
  if sideUnresolved s .upper && sideUnresolved s .lower && !Config.upperToldFirst s.freeCount then
    [.lower, .upper]
  else [.upper, .lower]

/-- Run one act on both sides in that order, counting the draw. -/
def onBothSides (act : State → Side → State) (s : State) : State :=
  let order := sideOrder s
  let drawn := if sideUnresolved s .upper && sideUnresolved s .lower then s.drawn else s
  order.foldl act drawn

/-! ## Reset of a direction (R165) -/

/-- R165 steps 1 to 5: the record after a reset; the three set counts are kept (R166). -/
def clearedDirection (side : Side) (d : Direction) : Direction :=
  { Direction.reset (sideSize side) with
    setsSent := d.setsSent, setsSuperseded := d.setsSuperseded, setsLost := d.setsLost }

/-- R165: reset a direction. Only a PEER seam has one to reset (R150). -/
def resetDirection (s : State) (side : Side) : State :=
  match neighbourOf s side with
  | none => s
  | some n =>
    let cleared := s.setDir side (clearedDirection side (dirOf s side))
    let withdrawn := withdrawBulk (fun p => p.addressee == n) cleared
    if sideUnresolved withdrawn side then resolveSide side (clampedLines side) withdrawn
    else withdrawn

/-! ## Sending (R151 to R156) -/

/-- R152: a set's parcels, addressed to the neighbour, in frame line order. -/
def setParcels (n : Station) (set : HaloSet) : List HaloParcel :=
  set.lines.map fun l => { addressee := n, frame := set.frame, line := l.1, samples := l.2 }

/-- R152: the credit test and the request to the Bulk Queue; a set not accepted is pending. A record
joins the end of the outbound records, which so stand in the order in which they were made (DESIGN
CHOICE, log entry 53). -/
def offerSet (side : Side) (set : HaloSet) (s : State) : State :=
  match neighbourOf s side with
  | none => s
  | some n =>
    let d := dirOf s side
    let ps := setParcels n set
    if 1 ≤ d.credit && bulkAccepts ps s then
      pushBulk ps
        (s.setDir side
          { d with
            credit := d.credit - 1
            pending := none
            outbound :=
              d.outbound ++
                [{ frame := set.frame, remaining := ps.length, taken := 0, lossCounted := false }]
            setsSent := d.setsSent + 1 })
    else s.setDir side { d with pending := some set }

/-- R152, R153: drop a pending set that is superseded. -/
def supersede (d : Direction) : Direction :=
  if d.pending.isSome then { d with pending := none, setsSuperseded := d.setsSuperseded + 1 }
  else d

/-- R152: offer a newly formed set. -/
def offerNew (side : Side) (set : HaloSet) (s : State) : State :=
  offerSet side set (s.setDir side (supersede (dirOf s side)))

/-- R151: the core lines of the set sent at a side: the top four, or the bottom three. -/
def setCoreLines (o : Ownership) (side : Side) : List Nat :=
  match side with
  | .upper => List.range' o.coreLow 4
  | .lower => List.range' (o.coreHigh - 3) 3

/-- R151: at the notice for a side of the build in progress, form and offer its set. -/
def formSet (side : Side) (s : State) : State :=
  match s.lb.build with
  | none => s
  | some b =>
    if b.agreed && neighbourCounts s side then
      offerNew side
        { frame := b.frame
          lines := (setCoreLines s.cp.ownership side).map fun y => (y, coreSamples s y) }
        s
    else s

/-- R153: offer a side's pending set again. -/
def offerPending (s : State) (side : Side) : State :=
  match (dirOf s side).pending with
  | none => s
  | some set => offerSet side set s

/-- R153: the order in which two pending sets are offered: the older frame first, up on a tie. -/
def pendingOrder (h : Halo) : List Side :=
  match h.up.pending, h.down.pending with
  | some u, some d => if newer u.frame d.frame then [.lower, .upper] else [.upper, .lower]
  | _, _ => [.upper, .lower]

/-- R155: one parcel of a set taken. -/
def parcelTaken (r : Outbound) : Outbound :=
  { r with remaining := r.remaining - 1, taken := r.taken + 1 }

/-- R155: one parcel of a set discarded. -/
def parcelLost (r : Outbound) : Outbound :=
  { r with remaining := r.remaining - 1, lossCounted := true }

/-- R155: the records after an event for a parcel of frame f, and whether the set ended untaken. -/
def countOutbound (event : Outbound → Outbound) (f : FieldNo) :
    List Outbound → List Outbound × Bool
  | [] => ([], false)
  | r :: rs =>
    if r.frame = f then
      let r' := event r
      if r'.remaining = 0 then (rs, r'.taken == 0) else (r' :: rs, false)
    else
      let rest := countOutbound event f rs
      (r :: rest.1, rest.2)

/-- R155: apply an event for a parcel of frame f to a direction. -/
def outboundEvent (event : Outbound → Outbound) (f : FieldNo) (d : Direction) : Direction :=
  let after := countOutbound event f d.outbound
  let counted := { d with outbound := after.1 }
  if after.2 then raiseCredit 1 counted else counted

/-- The side whose PEER neighbour is station n. -/
def sideOf (s : State) (n : Station) : Option Side :=
  if neighbourOf s .upper = some n then some .upper
  else if neighbourOf s .lower = some n then some .lower
  else none

/-- R154: the take of this station's own HALO counts against its set. -/
def ownHaloTaken (p : HaloParcel) (s : State) : State :=
  match sideOf s p.addressee with
  | none => s
  | some side => s.setDir side (outboundEvent parcelTaken p.frame (dirOf s side))

/-- R155: the first discarded parcel of a set counts the set lost. -/
def countLostSet (f : FieldNo) (d : Direction) : Direction :=
  if d.outbound.any fun r => r.frame == f && !r.lossCounted then
    { d with setsLost := d.setsLost + 1 }
  else d

/-- R155: the Peer Line Interface discarded a HALO of this station. -/
def ownHaloLost (p : HaloParcel) (s : State) : State :=
  match sideOf s p.addressee with
  | none => s
  | some side =>
    s.setDir side (outboundEvent parcelLost p.frame (countLostSet p.frame (dirOf s side)))

/-- R156: remove the outbound records older than k; a record with nothing taken returns credit. -/
def dropStaleOutbound (k : FieldNo) (d : Direction) : Direction :=
  raiseCredit (d.outbound.filter fun r => newer k r.frame && r.taken == 0).length
    { d with outbound := d.outbound.filter fun r => !newer k r.frame }

/-- R153: drop a pending set older than k. -/
def dropStalePending (k : FieldNo) (d : Direction) : Direction :=
  match d.pending with
  | none => d
  | some set => if newer k set.frame then supersede d else d

/-- R161: at an output start for k, release every slot not IN_USE that holds a frame not newer. -/
def passedBy (k : FieldNo) (sl : ReceiveSlot) (f : FieldNo) : Bool :=
  sl.state != .inUse && !newer f k

/-- R196: Halo Exchange's part of the output start notice for k. -/
def haloOutputNotice (k : FieldNo) (s : State) : State :=
  bothDirections
    (fun d => releaseSlots (passedBy k) (dropStalePending k (dropStaleOutbound k d)))
    (withdrawBulk (fun p => newer k p.frame) s)

/-! ## Credit return (R157) -/

/-- R157: the release counts of a REPORT from station n raise the credit toward that neighbour. -/
def returnCredit (n : Station) (up down : Nat) (s : State) : State :=
  match sideOf s n with
  | none => s
  | some side =>
    if neighbourCounts s side then
      s.setDir side
        (raiseCredit (match side with | .upper => down | .lower => up) (dirOf s side))
    else s

/-! ## Receiving (R159, R160) -/

/-- The frame of the build in progress. -/
def buildFrame (s : State) : Option FieldNo := s.lb.build.map (·.frame)

/-- f is not newer than a number held. -/
def notNewerThan (f : FieldNo) (held : Option FieldNo) : Bool := !newerThan f held

/-- R159 step 4: frame f will not be built here. -/
def staleFrame (s : State) (f : FieldNo) : Bool :=
  notNewerThan f s.lb.lastRequested ||
    (notNewerThan f s.lb.lastBegun && buildFrame s != some f)

/-- The answers of R159; `place` names the slot. -/
inductive Placement where
  | drop
  | staleDrop
  | place (slot : Nat)
deriving DecidableEq, Repr

/-- R159 step 6: of the slots listed, the one not IN_USE that holds the oldest frame. -/
def oldestSlot : Nat → List ReceiveSlot → Option (Nat × FieldNo)
  | _, [] => none
  | i, sl :: rest =>
    match sl.state, sl.frame, oldestSlot (i + 1) rest with
    | .inUse, _, r => r
    | _, none, r => r
    | _, some f, none => some (i, f)
    | _, some f, some (j, g) => if newer f g then some (j, g) else some (i, f)

/-- R159 steps 2 to 6, for a parcel of frame f from the counting neighbour of a side. -/
def placeIn (s : State) (d : Direction) (f : FieldNo) : Placement :=
  match d.slots.findIdx? fun sl => sl.frame == some f with
  | some i => .place i
  | none =>
    if notNewerThan f d.letGo then .drop
    else if staleFrame s f then .staleDrop
    else
      match d.slots.findIdx? fun sl => sl.state == .free with
      | some i => .place i
      | none =>
        match oldestSlot 0 d.slots with
        | some (i, _) => .place i
        | none => .drop

/-- R158: the place in a slot of frame line y, if it is one of the side's expected lines. -/
def expectedPlace (o : Ownership) (side : Side) (y : Nat) : Option Nat :=
  match side with
  | .upper => if o.coreLow ≤ y + 3 ∧ y < o.coreLow then some (y + 3 - o.coreLow) else none
  | .lower => if o.coreHigh ≤ y ∧ y < o.coreHigh + 4 then some (y - o.coreHigh) else none

/-- R160: prepare slot i for frame f; a frame it held before is let go. -/
def prepareSlot (s : State) (side : Side) (i : Nat) (f : FieldNo) (d : Direction) : Direction :=
  match d.slots[i]? with
  | none => d
  | some sl =>
    if sl.frame = some f then d
    else
      let released :=
        match sl.frame with
        | none => d
        | some g => noteRelease g d
      { released with
        slots := d.slots.set i
          { state := if buildFrame s = some f then .inUse else .filling
            frame := some f
            received := List.replicate (sideSize side) none } }

/-- Every expected line is received. -/
def slotFull (sl : ReceiveSlot) : Bool := sl.received.all Option.isSome

/-- R160: a line stored in a slot, which becomes COMPLETE from FILLING once it holds them all. -/
def receiveLine (o : Ownership) (side : Side) (p : HaloParcel) (sl : ReceiveSlot) : ReceiveSlot :=
  match expectedPlace o side p.line with
  | none => sl
  | some k =>
    let stored := { sl with received := sl.received.set k (some p.samples) }
    if stored.state = .filling && slotFull stored then { stored with state := .complete }
    else stored

/-- R160, R162: an IN_USE slot that holds every line resolves its UNRESOLVED side. -/
def resolveIfFull (side : Side) (i : Nat) (s : State) : State :=
  match (dirOf s side).slots[i]? with
  | none => s
  | some sl =>
    if sl.state = .inUse && slotFull sl && sideUnresolved s side then
      resolveSide side (linesFrom sl.received) s
    else s

/-- R160: place a parcel in slot i of a side. -/
def placeHalo (side : Side) (i : Nat) (p : HaloParcel) (s : State) : State :=
  let d := prepareSlot s side i p.frame (dirOf s side)
  resolveIfFull side i
    (s.setDir side
      { d with slots := d.slots.modify i (receiveLine s.cp.ownership side p) })

/-- R159, R160: a HALO addressed to this station, from station n. -/
def receiveHalo (n : Station) (p : HaloParcel) (s : State) : State :=
  match sideOf s n with
  | none => s
  | some side =>
    if neighbourCounts s side then
      match placeIn s (dirOf s side) p.frame with
      | .drop => s
      | .staleDrop => s.setDir side (noteRelease p.frame (dirOf s side))
      | .place i => placeHalo side i p s
    else s

/-! ## The build's start and end (R158, R161, R162) -/

/-- R158: the slot that holds the build's frame is IN_USE. -/
def markInUse (frame : FieldNo) (d : Direction) : Direction :=
  { d with
    slots := d.slots.map fun sl =>
      if sl.frame = some frame then { sl with state := .inUse } else sl }

/-- R162: the side record a side has at the start of a build. -/
def startSide (s : State) (frame : FieldNo) (agreed : Bool) (side : Side) : Option SideRecord :=
  match s.cp.ownership.seam side with
  | .pictureEdge => none
  | .none => none
  | .fillSeam => some { lines := some (List.replicate (sideSize side) .fill) }
  | .peer _ =>
    if agreed && neighbourCounts s side then
      match slotHolding frame (dirOf s side) with
      | some sl => some { lines := if slotFull sl then some (linesFrom sl.received) else none }
      | none => some { lines := none }
    else some { lines := some (clampedLines side) }

/-- R161, R162: Halo Exchange at the start of the build of a frame. -/
def startHalo (frame : FieldNo) (agreed : Bool) (s : State) : State :=
  let upper := startSide s frame agreed .upper
  let lower := startSide s frame agreed .lower
  let marked :=
    bothDirections (fun d => markInUse frame (releaseSlots (fun _ f => newer frame f) d)) s
  marked.setHx { marked.hx with upperSide := upper, lowerSide := lower, timer := true }

/-- R161, R162: Halo Exchange at the end of the build, DONE or ABANDONED. -/
def endHalo (s : State) : State :=
  let released := bothDirections (releaseSlots fun sl _ => sl.state == .inUse) s
  released.setHx { released.hx with upperSide := none, lowerSide := none, timer := false }

end Sys2Proof.Machine
end

