-- ==== Sys2Proof/Machine/Repair.lean ====
section
/-! DEFINITION. Repair of field N and the building of one core line (sections 7.3 and 7.4). -/

namespace Sys2Proof.Machine

/-! ## Reading fields at frame lines -/

/-- What a field found at build start shows at a frame line: nothing outside the picture, outside
the window, or on a line of the other parity. -/
def viewFrameLine (s : State) (found : Option FoundField) (y : Nat) : LineView :=
  match found with
  | none => LineView.blank
  | some f => if lineParity y = f.parity then viewLine s f.slot (y / 2) else LineView.blank

/-- The same for the line above y; nothing above line 0. -/
def viewAbove (s : State) (found : Option FoundField) (y : Nat) : LineView :=
  match y with
  | 0 => LineView.blank
  | z + 1 => viewFrameLine s found z

/-- The same for the line two above y. -/
def viewTwoAbove (s : State) (found : Option FoundField) (y : Nat) : LineView :=
  match y with
  | 0 => LineView.blank
  | z + 1 => viewAbove s found z

/-- R137: a field serves when it was found with the parity expected. -/
def serving (p : Parity) (found : Option FoundField) : Option FoundField :=
  found.filter fun f => f.parity == p

/-- R137: the frame's own parity. -/
def ownParity (b : BuildRecord) : Parity := ((b.current).map (·.parity)).getD .top

/-- The marks of the samples this build filled in the entry of a field line, if it filled any. -/
def repairedEntry (b : BuildRecord) (l : Nat) : Option RepairedEntry :=
  b.repairs.find? fun r => r.line == l

/-- R144: the source samples of a run: the usable ones this build did not fill. -/
def withoutFilled (marks : List Bool) (run : List (Option Nat)) : List (Option Nat) :=
  (List.range run.length).map fun i => if marks.getD i false then none else run.getD i none

/-- R144: the source samples of field N at a frame line. -/
def sourceView (b : BuildRecord) (y : Nat) (v : LineView) : LineView :=
  match repairedEntry b (y / 2) with
  | none => v
  | some r =>
    { y := withoutFilled r.luma v.y, cb := withoutFilled r.chroma v.cb
      cr := withoutFilled r.chroma v.cr }

/-! ## Filling (R144) -/

/-- The average of two samples, or the one that qualifies, or none. -/
def average : Option Nat → Option Nat → Option Nat
  | some a, some b => some ((a + b) / 2)
  | some a, none => some a
  | none, r => r

/-- How a sample came by its value. -/
inductive FillStep where
  | received
  | temporal
  | spatial
  | unrepaired
deriving DecidableEq, Repr

/-- R144: the first step that gives a value. -/
def fillSample (black : Nat) (own temporal above below prevAbove prevBelow : Option Nat) :
    Nat × FillStep :=
  match own with
  | some v => (v, .received)
  | none =>
    match temporal with
    | some v => (v, .temporal)
    | none =>
      match average above below with
      | some v => (v, .spatial)
      | none =>
        match average prevAbove prevBelow with
        | some v => (v, .unrepaired)
        | none => (black, .unrepaired)

/-- The lines a repair reads (R144): field N−2 at y where step 1 is open, field N at y−2 and y+2,
field N−1 at y−1 and y+1. -/
structure RepairSources where
  temporal : LineView
  above : LineView
  below : LineView
  prevAbove : LineView
  prevBelow : LineView
deriving DecidableEq, Repr

/-- R144: fill one component of an entry. -/
def fillRun (black : Nat) (pick : LineView → List (Option Nat)) (own : LineView)
    (r : RepairSources) : List (Nat × FillStep) :=
  (List.range (pick own).length).map fun i =>
    let at' (v : LineView) := (pick v).getD i none
    fillSample black (at' own) (at' r.temporal) (at' r.above) (at' r.below) (at' r.prevAbove)
      (at' r.prevBelow)

/-- R144: step 1 is open to the build. -/
def temporalOpen (b : BuildRecord) : Bool :=
  b.agreed && (b.signature == .still || b.signature == .repeated)

/-- R144: the sources of a repair at frame line y. -/
def repairSources (s : State) (b : BuildRecord) (y : Nat) : RepairSources :=
  let own := ownParity b
  let previous := serving (otherParity own) b.previous
  let reference := if temporalOpen b then serving own b.beforePrevious else none
  { temporal := viewFrameLine s reference y
    above := sourceView b (y - 2) (viewTwoAbove s b.current y)
    below := sourceView b (y + 2) (viewFrameLine s b.current (y + 2))
    prevAbove := viewAbove s previous y
    prevBelow := viewFrameLine s previous (y + 1) }

/-- How many samples of a run were filled by a step. -/
def countStep (st : FillStep) (run : List (Nat × FillStep)) : Nat :=
  (run.filter fun v => v.2 == st).length

/-- R145: the counts of one write-back. -/
def repairCounts (y cb cr : List (Nat × FillStep)) : RepairCounts :=
  { temporal := countStep .temporal y + countStep .temporal cb + countStep .temporal cr
    spatial := countStep .spatial y + countStep .spatial cb + countStep .spatial cr
    unrepaired := countStep .unrepaired y + countStep .unrepaired cb + countStep .unrepaired cr }

/-- The samples of a filled run. -/
def runSamples (run : List (Nat × FillStep)) : List Sample := run.map fun v => BitVec.ofNat 10 v.1

/-- The marks of a filled run. -/
def runMarks (run : List (Nat × FillStep)) : List Bool := run.map fun v => v.2 != .received

/-- R33, R145: write the repaired entry back, count its samples, and note what was filled. -/
def writeBack (slot : Nat) (b : BuildRecord) (l : Nat) (y cb cr : List (Nat × FillStep))
    (s : State) : State :=
  let entry : LineEntry :=
    { line := l, state := .repaired, spans := []
      samples := some { y := runSamples y, cb := runSamples cb, cr := runSamples cr } }
  let written :=
    s.updateOccupant slot fun o => { o with table := putEntry entry o.table }
  let counted := written.setTotals (countRepairs (repairCounts y cb cr) written.cp.totals)
  counted.setLb
    { counted.lb with
      build := some
        { b with
          repairs := b.repairs ++ [{ line := l, luma := runMarks y, chroma := runMarks cb }] } }

/-- R144: the entry has samples to fill. -/
def needsRepair (e : LineEntry) : Bool := e.state == .dropout || e.state == .lost

/-- R144, R145: repair the entry of field N that frame line y is, where it is DROPOUT or LOST. -/
def repairAt (s : State) (y : Nat) : State :=
  match s.lb.build with
  | none => s
  | some b =>
    match b.current with
    | none => s
    | some f =>
      if lineParity y ≠ f.parity then s
      else
        match entryAt s f.slot (y / 2) with
        | none => s
        | some e =>
          if needsRepair e then
            let own := viewEntry e
            let r := repairSources s b y
            writeBack f.slot b (y / 2) (fillRun 64 LineView.y own r)
              (fillRun 512 LineView.cb own r) (fillRun 512 LineView.cr own r) s
          else s

/-! ## The lines of the core (R139 to R142) -/

/-- R138: the frame line built after `i` others. -/
def lineInOrder (o : Ownership) (i : Nat) : Nat :=
  if i < 4 then o.coreLow + i
  else if i < 7 then o.coreHigh - 3 + (i - 4)
  else o.coreLow + 4 + (i - 7)

/-- One sample computed, with whether it used the intra value. -/
structure BuiltSample where
  value : Nat
  usedIntra : Bool
deriving DecidableEq, Repr

/-- R141: the intra value at a position. -/
def intraValue (above below : Option Nat) : Nat := (average above below).getD 0

/-- R140: a woven sample. -/
def weaveSample (partner : Option Nat) (intra : Nat) : BuiltSample :=
  match partner with
  | some v => { value := v, usedIntra := false }
  | none => { value := intra, usedIntra := true }

/-- The magnitude of a difference. -/
def distance (a b : Nat) : Nat := (a - b) + (b - a)

/-- R142: a motion-adaptive sample. -/
def adaptiveSample (t : Nat) (p n : Option Nat) (i : Nat) : Nat :=
  match p, n with
  | some p, some n =>
    let m := distance p n
    let temporal := (p + n) / 2
    if t = 0 ∨ t ≤ m then i
    else ((temporal : Int) + Int.tdiv (((i : Int) - temporal) * m) t).toNat
  | _, _ => i

/-- The lines a missing line is made from. -/
structure LineSources where
  above : LineView
  below : LineView
  previous : LineView
  following : LineView
deriving DecidableEq, Repr

/-- R140 to R142: one component of a missing line under an effective pairing. -/
def missingRun (pairing : Pairing) (t : Nat) (pick : LineView → List (Option Nat))
    (r : LineSources) (width : Nat) : List BuiltSample :=
  (List.range width).map fun x =>
    let at' (v : LineView) := (pick v).getD x none
    let intra := intraValue (at' r.above) (at' r.below)
    match pairing with
    | .bob => { value := intra, usedIntra := true }
    | .weavePrev => weaveSample (at' r.previous) intra
    | .weaveNext => weaveSample (at' r.following) intra
    | .ma => { value := adaptiveSample t (at' r.previous) (at' r.following) intra, usedIntra := true }

/-- The samples of a run. -/
def builtSamples (run : List BuiltSample) : List Sample := run.map fun v => BitVec.ofNat 10 v.value

/-- R139, R141: the entry of a field line had a sample filled by this build. -/
def filledLine (b : BuildRecord) (l : Nat) : Bool :=
  match repairedEntry b l with
  | none => false
  | some r => r.luma.any id || r.chroma.any id

/-- A sample of the run took the intra value. -/
def tookIntra (run : List BuiltSample) : Bool := run.any (·.usedIntra)

/-- The repairs of the line above y. -/
def repairedAbove (b : BuildRecord) (y : Nat) : Option RepairedEntry :=
  match y with
  | 0 => none
  | z + 1 => repairedEntry b (z / 2)

/-- R140, R141: one of the lines above and below y had a sample filled by this build. -/
def filledAround (b : BuildRecord) (y : Nat) : Bool :=
  ((repairedAbove b y).map fun r => r.luma.any id || r.chroma.any id).getD false ||
    filledLine b ((y + 1) / 2)

/-- R140 to R142: missing line y. Its repaired mark is set when a sample of it took an intra value
and either line read for it had a sample filled by this build (R141; log entry 22). -/
def missingLine (s : State) (b : BuildRecord) (y : Nat) : CoreLine :=
  let sources : LineSources :=
    { above := viewAbove s b.current y
      below := viewFrameLine s b.current (y + 1)
      previous := viewFrameLine s b.previous y
      following := viewFrameLine s b.following y }
  let luma := missingRun b.effective b.t LineView.y sources 720
  let cb := missingRun b.effective b.t LineView.cb sources 360
  let cr := missingRun b.effective b.t LineView.cr sources 360
  { samples := some { y := builtSamples luma, cb := builtSamples cb, cr := builtSamples cr }
    repaired := (tookIntra luma || tookIntra cb || tookIntra cr) && filledAround b y }

/-- The samples of a view, every one usable. -/
def viewSamples (v : LineView) : LineSamples :=
  let run (xs : List (Option Nat)) : List Sample := xs.map fun x => BitVec.ofNat 10 (x.getD 0)
  { y := run v.y, cb := run v.cb, cr := run v.cr }

/-- R139: own line y. -/
def ownLine (s : State) (b : BuildRecord) (y : Nat) : CoreLine :=
  { samples := some (viewSamples (viewFrameLine s b.current y)), repaired := filledLine b (y / 2) }

/-- R140: every sample of the line is usable. -/
def wholeView (v : LineView) : Bool :=
  v.y.all Option.isSome && v.cb.all Option.isSome && v.cr.all Option.isSome

/-- R140 to R142: whether missing line y reads the lines above and below it. A woven line reads
them where its partner has a sample that is not usable (log entry 23). -/
def readsIntra (s : State) (b : BuildRecord) (y : Nat) : Bool :=
  match b.effective with
  | .bob => true
  | .ma => true
  | .weavePrev => !wholeView (viewFrameLine s b.previous y)
  | .weaveNext => !wholeView (viewFrameLine s b.following y)

/-- R138, R144: the frame lines of field N that core line y reads, in increasing order. -/
def linesRead (s : State) (b : BuildRecord) (y : Nat) : List Nat :=
  if lineParity y = ownParity b then [y]
  else if readsIntra s b y then
    (match y with
      | 0 => [1]
      | z + 1 => [z, z + 2])
  else []

/-- R138: core line y, own or missing. -/
def builtLine (s : State) (b : BuildRecord) (y : Nat) : CoreLine :=
  if lineParity y = ownParity b then ownLine s b y else missingLine s b y

end Sys2Proof.Machine
end

