-- ==== Sys2Proof/Machine/Analysis.lean ====
section
/-! DEFINITION. The Field Analyser (section 5.1): the list of analyses and the figures. -/

namespace Sys2Proof.Machine

/-! ## The start of an analysis (R85) -/

/-- R31, R85: the slots an analysis reads, which are those found and held at the field end, or
NODATA. -/
def settleStart (s : State) (a : Analysis) : AnalysisStart :=
  if a.claim.isNone || notNewerThan a.field s.cu.agreed.lastClosed || s.cp.ownership.isFill then
    .nodata
  else
    match a.held.current, a.held.previous, a.held.beforePrevious with
    | some i, some j, some k =>
      if slotParity s j = slotParity s i || slotParity s k ≠ slotParity s i then .nodata
      else .reading i j k
    | _, _, _ => .nodata

/-- R84: the head of the list is begun, if it has not been; the accumulators start at 0. -/
def beginHead (s : State) : State :=
  match s.fa.pending with
  | [] => s
  | a :: rest =>
    match a.start with
    | some _ => s
    | none =>
      s.setFa
        { s.fa with
          pending := { a with start := some (settleStart s a) } :: rest
          accumulators := Figures.zero }

/-! ## Figures (R86, R87) -/

/-- What one counted position adds (R86, R87), from n, g, u and d. -/
def positionFigures (n g : Nat) (u d : Option Nat) : Figures :=
  match average u d with
  | none => Figures.zero
  | some v =>
    let still := distance n g
    let tooth :=
      match u, d with
      | some u, some d => (u + 32 < n && d + 32 < n) || (n + 32 < u && n + 32 < d)
      | _, _ => false
    { d1 := distance n v
      d2 := still
      comb := if tooth then 1 else 0
      stillTotal := if still ≤ 32 then still else 0
      stillCount := if still ≤ 32 then 1 else 0
      samples := 1 }

/-- The sum of two sets of figures. -/
def addFigures (a b : Figures) : Figures :=
  { d1 := a.d1 + b.d1
    d2 := a.d2 + b.d2
    comb := a.comb + b.comb
    stillTotal := a.stillTotal + b.stillTotal
    stillCount := a.stillCount + b.stillCount
    samples := a.samples + b.samples }

/-- R86: the figures of one frame line, from its samples of field N and N−2 and the samples of
field N−1 above and below. -/
def lineFigures (n g u d : List (Option Nat)) : Figures :=
  (List.range n.length).foldl
    (fun acc x =>
      match n.getD x none, g.getD x none with
      | some a, some b =>
        addFigures acc (positionFigures a b (u.getD x none) (d.getD x none))
      | _, _ => acc)
    Figures.zero

/-- The slot as a field found, with its parity. -/
def asFound (s : State) (i : Nat) : Option FoundField :=
  (slotParity s i).map fun p => { slot := i, parity := p }

/-- R86: the core's frame lines of a parity. -/
def coreLinesOf (o : Ownership) (p : Parity) : List Nat :=
  (List.range' o.coreLow (o.coreHigh - o.coreLow)).filter fun y => lineParity y == p

/-- R86, R87: the figures of an analysis that reads three slots. -/
def analysisFigures (s : State) (current previous beforePrevious : Nat) : Figures :=
  match slotParity s current with
  | none => Figures.zero
  | some p =>
    (coreLinesOf s.cp.ownership p).foldl
      (fun acc y =>
        addFigures acc
          (lineFigures (viewFrameLine s (asFound s current) y).y
            (viewFrameLine s (asFound s beforePrevious) y).y
            (viewAbove s (asFound s previous) y).y
            (viewFrameLine s (asFound s previous) (y + 1)).y))
      Figures.zero

/-- R85: the result of an analysis: DATA with figures, or NODATA. -/
def analysisResult (s : State) (a : Analysis) : Option Figures :=
  match a.start with
  | none => none
  | some .nodata => none
  | some (.reading i j k) =>
    let f := analysisFigures s i j k
    if f.samples = 0 then none else some f

/-! ## Holds and the list (R31, R84) -/

/-- R31: the claim that names the holds of the analysis of a field ended with a slot. -/
def analysisClaim (s : State) (slot : Option Nat) : Option Word16 :=
  slot.map fun i => slotClaim (slotAt s i)

/-- R31: set the holds of the analysis of field f. -/
def holdAnalysis (f : FieldNo) (claim : Option Word16) (s : State) : State :=
  match claim with
  | none => s
  | some c => holdFields (.analysis c) s [f, f - 1, f - 2]

/-- R31: remove every hold of an analysis. -/
def dropAnalysis (claim : Option Word16) (s : State) : State :=
  match claim with
  | none => s
  | some c => dropHolder (.analysis c) s

/-- R31: the slots that R30 finds at the end of field f for the analysis of f; none without a slot. -/
def analysisSlots (f : FieldNo) (claim : Option Word16) (s : State) : AnalysisSlots :=
  match claim with
  | none => { current := none, previous := none, beforePrevious := none }
  | some _ =>
    { current := lookupField s f, previous := lookupField s (f - 1)
      beforePrevious := lookupField s (f - 2) }

/-- R84: the analysis of field f joins the list, with the slots held for it (R31). -/
def joinAnalyses (f : FieldNo) (claim : Option Word16) (s : State) : State :=
  beginHead
    (s.setFa
      { s.fa with
        pending :=
          s.fa.pending ++
            [{ field := f, claim := claim, held := analysisSlots f claim s, start := none }] })

/-! ## The release counts of a REPORT (R90) -/

/-- R90: taking the counts for a REPORT sets both to 0. -/
def takeCounts (s : State) : State := bothDirections (fun d => { d with release := 0 }) s

/-- R88, R90: ask for the REPORT of field N; a refusal returns the counts it would carry. -/
def askReport (n : FieldNo) (figures : Option Figures) (s : State) : State :=
  let q := Queued.report n figures s.hx.up.release s.hx.down.release
  match urgentAnswer q s with
  | .accepted => pushUrgent q (takeCounts s)
  | _ => s

end Sys2Proof.Machine
end

