-- ==== Sys2Proof/Machine/Buffers.lean ====
section
/-! DEFINITION. The Frame Buffers and the words of an emitted row (R190 to R192, R197 to R200). -/

namespace Sys2Proof.Machine

/-! ## Frame Buffers (R190 to R192) -/

/-- R134 test 5: the Output Port holds a FREE buffer. -/
def bufferFree (s : State) : Bool := s.op.fb0.isNone || s.op.fb1.isNone

/-- R191: the lowest FREE buffer becomes BUILDING for frame N. -/
def grantBuffer (n : FieldNo) (s : State) : State :=
  let granted : Held := { state := .building, frame := n, rows := [] }
  if s.op.fb0.isNone then s.setOp { s.op with fb0 := some granted }
  else if s.op.fb1.isNone then s.setOp { s.op with fb1 := some granted }
  else s

/-- The buffer is BUILDING frame N. -/
def isBuilding (n : FieldNo) (h : Held) : Bool := h.state == .building && h.frame == n

/-- Change the buffer that is BUILDING frame N, if there is one. -/
def onBuilding (n : FieldNo) (f : Held → Option Held) (b : Option Held) : Option Held :=
  match b with
  | none => none
  | some h => if isBuilding n h then f h else some h

/-- Change both buffers alike. -/
def bothBuffers (f : Option Held → Option Held) (s : State) : State :=
  s.setOp { s.op with fb0 := f s.op.fb0, fb1 := f s.op.fb1 }

/-- R192: a row stored in the buffer BUILDING frame N; without one it is not stored. -/
def storeRow (n : FieldNo) (r : StoredRow) (s : State) : State :=
  bothBuffers (onBuilding n fun h => some { h with rows := h.rows ++ [r] }) s

/-- R192: at the DONE report, the buffer BUILDING frame N becomes COMPLETE. -/
def completeBuffer (n : FieldNo) (s : State) : State :=
  bothBuffers (onBuilding n fun h => some { h with state := .complete }) s

/-- R195, R202: the buffer BUILDING frame N becomes FREE. -/
def freeBuilding (n : FieldNo) (s : State) : State :=
  bothBuffers (onBuilding n fun _ => none) s

/-! ## Row tags (R199) -/

/-- The flags of a row tag, word 3 bits 5 to 0. -/
structure TagFlags where
  black : Bool
  fill : Bool
  repaired : Bool
  seamClamped : Bool
  unagreed : Bool
  repeats : Bool
deriving DecidableEq, Repr

/-- A bit as a number. -/
def bit (b : Bool) : Nat := if b then 1 else 0

/-- R199: the four words of a row tag. -/
def rowTag (row : Nat) (requested : FieldNo) (shown : Option FieldNo) (f : TagFlags) :
    List Word16 :=
  [BitVec.ofNat 16 (row % 4096), requested, shown.getD 0,
    BitVec.ofNat 16
      (bit shown.isSome * 32768 + bit f.black * 32 + bit f.fill * 16 + bit f.repaired * 8 +
        bit f.seamClamped * 4 + bit f.unagreed * 2 + bit f.repeats)]

/-- R199: the samples of a row in the order Cb, Y, Cr, Y. -/
def rowWords : List Sample → List Sample → List Sample → List Word16
  | y0 :: y1 :: ys, cb :: cbs, cr :: crs =>
    cb.setWidth 16 :: y0.setWidth 16 :: cr.setWidth 16 :: y1.setWidth 16 :: rowWords ys cbs crs
  | _, _, _ => []

/-- The buffer of an index: FB0, or FB1. -/
def bufferAt (s : State) (index : Bool) : Option Held := if index then s.op.fb1 else s.op.fb0

/-- The stored row of a buffer. -/
def storedRow (s : State) (index : Bool) (row : Nat) : Option StoredRow :=
  match bufferAt s index with
  | none => none
  | some h => h.rows.find? fun r => r.row == row

/-- R197: the flags a stored row is emitted with. -/
def storedFlags (f : RowFlags) (repeats : Bool) : TagFlags :=
  { black := f.black, fill := false, repaired := f.repaired, seamClamped := f.seamClamped
    unagreed := f.unagreed, repeats := repeats }

/-- No flag set. -/
def TagFlags.clear : TagFlags :=
  { black := false, fill := false, repaired := false, seamClamped := false, unagreed := false
    repeats := false }

/-- R197: the samples and flags of a row of an emission. A SHOWING buffer holds every owned row;
a row it lacked would be sent as black. -/
def emittedRow (s : State) (e : Emission) : LineSamples × TagFlags :=
  let c := s.cp.config
  let black := flatRow c 64 512 512
  match e.source with
  | .black => (black, { TagFlags.clear with black := true })
  | .fill => (flatRow c c.fillY c.fillCb c.fillCr, { TagFlags.clear with fill := true })
  | .buffer i =>
    match storedRow s i e.next with
    | some r => (r.samples, storedFlags r.flags e.repeats)
    | none => (black, { TagFlags.clear with black := true, repeats := e.repeats })

/-- R197, R199: the words of the next row of an emission. -/
def emissionWords (s : State) (e : Emission) : List Word16 :=
  let row := emittedRow s e
  rowTag e.next e.requested e.shown row.2 ++ rowWords row.1.y row.1.cb row.1.cr

/-- R197: the emission record after its next row is sent. -/
def afterEmitted (o : Ownership) (e : Emission) : Option Emission :=
  if e.next + 1 < o.firstRow + o.rowCount then some { e with next := e.next + 1 } else none

/-- R197: send the next row of the emission, if one is in progress. -/
def emitRow (s : State) : State :=
  match s.op.emission with
  | none => s
  | some e =>
    s.setOp
      { s.op with lastRow := emissionWords s e, emission := afterEmitted s.cp.ownership e }

end Sys2Proof.Machine
end

