-- ==== Sys2Proof/Machine/Builder.lean ====
section
/-! DEFINITION. The Line Builder (chapter 7): notices, the start of a build, its lines, its end. -/

namespace Sys2Proof.Machine

/-! ## Notices (R131 to R133) -/

/-- The decision record the table holds for frame N. -/
def decisionFor (b : Builder) (n : FieldNo) : Option DecisionRecord :=
  b.decisions.find? fun d => d.field == n

/-- R132: set the overtaken mark of a frame's entry. -/
def markOvertaken (n : FieldNo) (frames : List FrameEntry) : List FrameEntry :=
  frames.map fun e => if e.frame = n then { e with overtaken := true } else e

/-- R105, R132: the Consensus Unit's overtaken notice for frame N. -/
def overtakenNotice (n : FieldNo) (s : State) : State :=
  s.setLb { s.lb with frames := markOvertaken n s.lb.frames }

/-- R132: the mark the Line Builder sets itself, in MEMBER and LEAVING, at the begin of field g. -/
def selfOvertaken (g : FieldNo) (s : State) : State :=
  if s.cu.membership.applies && (decisionFor s.lb (g - 2)).isNone then overtakenNotice (g - 2) s
  else s

/-- R131, R132: the begin announcement of field g at a FULL owner. -/
def builderBegin (g : FieldNo) (s : State) : State :=
  if s.cp.ownership.isFull then
    selfOvertaken g (s.setLb { s.lb with newestBegun := some g })
  else s

/-- R131: frame f, ended with a slot or without one, joins the frame list. -/
def joinsList (s : State) (f : FieldNo) (slot : Option Nat) : Bool :=
  slot.isSome && fieldHeld s f && newerThan f s.lb.lastBegun && newerThan f s.lb.lastRequested &&
    !s.lb.frames.any fun e => e.frame == f

/-- R131: the field end notice of field f at a FULL owner. A field ended without a slot adds no
entry. -/
def builderEnd (f : FieldNo) (slot : Option Nat) (s : State) : State :=
  if s.cp.ownership.isFull then
    let ended := s.setLb { s.lb with lastEnded := some f }
    if joinsList s f slot then
      ended.setLb
        { ended.lb with
          frames :=
            dropOldest 3
              (insertByField FrameEntry.frame { frame := f, overtaken := false } ended.lb.frames) }
    else ended
  else s

/-- R132: place a decision record in the table. -/
def placeDecision (d : DecisionRecord) (s : State) : State :=
  if s.cp.ownership.isFull && newerThan d.field s.lb.lastBegun &&
      newerThan d.field s.lb.lastRequested then
    s.setLb
      { s.lb with
        decisions :=
          dropOldest 8
            (insertByField DecisionRecord.field d
              (s.lb.decisions.filter fun x => x.field != d.field)) }
  else s

/-- R133: the output start notice for k. -/
def builderOutputNotice (k : FieldNo) (s : State) : State :=
  s.setLb
    { s.lb with
      lastRequested := some k
      frames := s.lb.frames.filter fun e => newer e.frame k
      decisions := s.lb.decisions.filter fun d => newer d.field k }

/-! ## The head of the frame list (R134, R135) -/

/-- R131: field N+1 is settled for frame N. -/
def settled (s : State) (n : FieldNo) : Bool :=
  (match s.lb.lastEnded with
    | none => false
    | some e => e == n + 1 || newer e (n + 1)) ||
  (match s.lb.newestBegun with
    | none => false
    | some g => newer g (n + 1))

/-- R135: the kind of build the round condition gives (agreed, or provisional), if it holds. -/
def roundCondition (s : State) (e : FrameEntry) : Option Bool :=
  if !e.overtaken && (decisionFor s.lb e.frame).isSome then some true
  else if e.overtaken then some false
  else
    match s.cu.membership with
    | .listening | .joining | .isolated => some false
    | _ => none

/-- R134 test 1: heads whose field is not held leave the list. -/
def pruneHeads (s : State) : List FrameEntry → List FrameEntry
  | [] => []
  | e :: rest => if fieldHeld s e.frame then e :: rest else pruneHeads s rest

/-- R134 tests 2 to 5 on the head: how its build starts, if it starts. -/
def headReady (s : State) (e : FrameEntry) : Option Bool :=
  if s.lb.build.isNone && settled s e.frame && bufferFree s then roundCondition s e else none

/-! ## The start of a build (R136, R137) -/

/-- R136 step 2: a field found, with its slot and parity. -/
def findField (s : State) (f : FieldNo) : Option FoundField :=
  match lookupField s f with
  | none => none
  | some i => (slotParity s i).map fun p => { slot := i, parity := p }

/-- The field serves with a parity. -/
def serves (p : Parity) (found : Option FoundField) : Bool := (serving p found).isSome

/-- R137: the effective pairing. -/
def effectivePairing (pairing : Pairing) (own : Parity) (previous following : Option FoundField) :
    Pairing :=
  let other := otherParity own
  match pairing with
  | .bob => .bob
  | .weavePrev => if serves other previous then .weavePrev else .bob
  | .weaveNext => if serves other following then .weaveNext else .bob
  | .ma => if serves other previous && serves other following then .ma else .bob

/-- R136 step 4: the decision a build is made under. -/
structure BuildDecision where
  pairing : Pairing
  t : Nat
  signature : Signature
deriving DecidableEq, Repr

/-- R136 step 4: agreed, from the decision record; else the provisional pairing (R122). -/
def buildDecision (s : State) (n : FieldNo) (agreed : Bool) : BuildDecision :=
  let provisional : BuildDecision :=
    { pairing := provisionalPairing s.cu.agreed n, t := s.cu.agreed.loop.t, signature := .none }
  if agreed then
    match decisionFor s.lb n with
    | some d => { pairing := pairingOf d.cadence, t := d.t, signature := d.signature }
    | none => provisional
  else provisional

/-- R136 steps 1, 4, 5: the build record of frame N. -/
def buildRecord (s : State) (n : FieldNo) (agreed : Bool) : BuildRecord :=
  let d := buildDecision s n agreed
  let previous := findField s (n - 1)
  let current := findField s n
  let following := findField s (n + 1)
  let own := (current.map (·.parity)).getD .top
  { phase := .lines
    frame := n
    agreed := agreed
    pairing := d.pairing
    effective := effectivePairing d.pairing own previous following
    t := d.t
    signature := d.signature
    beforePrevious := findField s (n - 2)
    previous := previous
    current := current
    following := following
    built := 0
    repairs := [] }

/-- R136 step 8: a provisional build is counted. -/
def countUnagreed (s : State) : State :=
  (s.setTotals { s.cp.totals with unagreedFrames := s.cp.totals.unagreedFrames + 1 }).raise
    .unagreedFrame

/-- R136: the Line Builder after steps 1, 4, 5 and 6 of the start of frame N. -/
def builderStarted (s : State) (n : FieldNo) (agreed : Bool) (rest : List FrameEntry) : Builder :=
  let o := s.cp.ownership
  { s.lb with
    build := some (buildRecord s n agreed)
    frames := rest
    decisions := s.lb.decisions.filter fun d => newer d.field n
    lastBegun := some n
    bufferFrame := some n
    lines := List.replicate (o.coreHigh - o.coreLow) { samples := none, repaired := false } }

/-- R136: the start of the build of frame N. -/
def startBuild (n : FieldNo) (agreed : Bool) (rest : List FrameEntry) (s : State) : State :=
  let recorded := s.setLb (builderStarted s n agreed rest)
  let held := holdFields .build recorded [n - 2, n - 1, n, n + 1]
  let granted := grantBuffer n held
  let told := startHalo n agreed (startScaling n agreed granted)
  if agreed then told else countUnagreed told

/-- R134, R136: test the head of the frame list, and start its build when every test passes. -/
def testHead (s : State) : State :=
  let pruned := s.setLb { s.lb with frames := pruneHeads s s.lb.frames }
  match pruned.lb.frames with
  | [] => pruned
  | e :: rest =>
    match headReady pruned e with
    | none => pruned
    | some agreed => startBuild e.frame agreed rest pruned

/-! ## Lines (R138) -/

/-- R138: write a core line into the Progressive Line Buffer. -/
def putLine (y : Nat) (line : CoreLine) (s : State) : State :=
  s.setLb { s.lb with lines := s.lb.lines.set (y - s.cp.ownership.coreLow) line }

/-- R138: count one more BUILT line. -/
def countLine (s : State) : State :=
  s.setLb { s.lb with build := s.lb.build.map fun b => { b with built := b.built + 1 } }

/-- R170: the build record's state follows the Scaler's phase. -/
def followScaler (s : State) : State :=
  match s.sc.scaling with
  | none => s
  | some r => s.setLb { s.lb with build := s.lb.build.map fun b => { b with phase := r.phase } }

/-- R138, R170: every core line is BUILT and the Scaler takes the build on. -/
def handToScaler (s : State) : State :=
  match s.sc.scaling with
  | none => s
  | some r => followScaler (s.setSc { s.sc with scaling := some (enterInterior s r) })

/-- R138: the notices after the line that made `built` lines BUILT. -/
def lineNotices (built : Nat) (s : State) : State :=
  let o := s.cp.ownership
  let told :=
    if built = 4 then formSet .upper s else if built = 7 then formSet .lower s else s
  if built = o.coreHigh - o.coreLow then handToScaler told else told

/-- R138, R144: build the next core line, after the repairs it calls for. -/
def buildNextLine (b : BuildRecord) (s : State) : State :=
  let y := lineInOrder s.cp.ownership b.built
  let repaired := (linesRead s b y).foldl repairAt s
  match repaired.lb.build with
  | none => repaired
  | some b' => lineNotices (b.built + 1) (countLine (putLine y (builtLine repaired b' y) repaired))

/-- BUILD_LINE acts while a build is in LINES with core lines left to build. -/
def buildLineStep (s : State) : State :=
  match s.lb.build with
  | none => s
  | some b =>
    if b.phase = .lines ∧ b.built < s.cp.ownership.coreHigh - s.cp.ownership.coreLow then
      buildNextLine b s
    else s

/-! ## The end of a build (R146, R175, R176) -/

/-- R146: the Line Builder releases the build. -/
def releaseBuild (s : State) : State :=
  dropHolder .build (s.setLb { s.lb with build := none })

/-- R175, R176: the scaling record becomes absent. -/
def dropScaling (s : State) : State := s.setSc { s.sc with scaling := none }

/-- R146, R175, R192: the build of frame N ends DONE. -/
def finishBuild (n : FieldNo) (s : State) : State :=
  dropScaling (endHalo (completeBuffer n (releaseBuild s)))

/-- R146, R195: the build of frame N ends ABANDONED: the buffer is freed, then the Line Builder,
the Scaler and Halo Exchange are told. -/
def abandonBuild (n : FieldNo) (s : State) : State :=
  endHalo (dropScaling (releaseBuild (freeBuilding n s)))

/-- R147: entry to STOPPED abandons the build in progress and empties the list and the table. -/
def stopBuilder (s : State) : State :=
  let ended :=
    match s.lb.build with
    | none => s
    | some b => abandonBuild b.frame s
  ended.setLb { ended.lb with frames := [], decisions := [] }

/-! ## Rows (R174, R175) -/

/-- R164: a clamped row is counted and flagged. -/
def countClamped (r : StoredRow) (s : State) : State :=
  if r.flags.seamClamped then
    (s.setTotals { s.cp.totals with clampedRows := s.cp.totals.clampedRows + 1 }).raise .seamClamped
  else s

/-- R174, R175: write the row at the head of the Scaler's group. -/
def writeRow (r : ScalingRecord) (row : Nat) (s : State) : State :=
  let stored := scaledRow s r row
  let written := countClamped stored (storeRow r.frame stored s)
  let next := afterRow written r
  let advanced := followScaler (written.setSc { written.sc with scaling := some next })
  if allWritten next then finishBuild r.frame advanced else advanced

/-- ROW_WRITE acts while the Scaler has a row to write. -/
def rowWriteStep (s : State) : State :=
  match s.sc.scaling with
  | none => s
  | some r =>
    match r.todo with
    | [] => s
    | row :: _ => if r.phase = .lines then s else writeRow r row s

/-! ## The halo wait (R163) -/

/-- R163: the halo wait timer expires. -/
def haloExpiry (s : State) : State :=
  match s.lb.build with
  | none => s
  | some b =>
    if s.hx.timer then
      let expired := onBothSides (expireSide b.frame) s
      expired.setHx { expired.hx with timer := false }
    else s

end Sys2Proof.Machine
end

