-- ==== Sys2Proof/Machine/Output.lean ====
section
/-! DEFINITION. The Output Port's answers to output starts (R193 to R196, R201, R202). -/

namespace Sys2Proof.Machine

/-- R195: a late abandonment is counted and flagged. -/
def countLate (s : State) : State :=
  (s.setTotals { s.cp.totals with lateFrames := s.cp.totals.lateFrames + 1 }).raise .frameLate

/-- The frame a buffer is BUILDING. -/
def buildingIn (b : Option Held) : Option FieldNo :=
  match b with
  | none => none
  | some h => if h.state = .building then some h.frame else none

/-- The frame the Output Port holds BUILDING. -/
def buildingFrame (s : State) : Option FieldNo := (buildingIn s.op.fb0).or (buildingIn s.op.fb1)

/-- R194, R195: abandon the build that the output start for k makes late or passes. -/
def abandonOvertaken (k : FieldNo) (s : State) : State :=
  match buildingFrame s with
  | none => s
  | some j =>
    if j = k then countLate (abandonBuild j s)
    else if newer k j then abandonBuild j s
    else s

/-- R194: the buffer is COMPLETE with frame k. -/
def showable (k : FieldNo) (b : Option Held) : Bool :=
  match b with
  | none => false
  | some h => h.state == .complete && h.frame == k

/-- R194: a buffer settled against k; `shows` says that a buffer is shown. -/
def settleBuffer (k : FieldNo) (shows : Bool) (b : Option Held) : Option Held :=
  match b with
  | none => none
  | some h =>
    match h.state with
    | .complete =>
      if h.frame = k then some { h with state := .showing }
      else if newer k h.frame then none
      else some h
    | .showing => if shows then none else some h
    | .building => some h

/-- R194: a buffer is shown for k. -/
def showsFrame (k : FieldNo) (s : State) : Bool := showable k s.op.fb0 || showable k s.op.fb1

/-- R194: settle both buffers against k. -/
def settleBuffers (k : FieldNo) (s : State) : State := bothBuffers (settleBuffer k (showsFrame k s)) s

/-- The buffer that is SHOWING, with its frame. -/
def showingBuffer (s : State) : Option (Bool × FieldNo) :=
  let found (index : Bool) (b : Option Held) : Option (Bool × FieldNo) :=
    match b with
    | none => none
    | some h => if h.state = .showing then some (index, h.frame) else none
  (found false s.op.fb0).or (found true s.op.fb1)

/-- R194: the answer, as its kind and the source and frame of its rows. -/
structure Answer where
  kind : AnswerKind
  source : RowSource
  shown : Option FieldNo
deriving DecidableEq, Repr

/-- R194: the answer once the buffers are settled. -/
def answerFor (shown : Bool) (s : State) : Answer :=
  match showingBuffer s with
  | some (i, j) =>
    { kind := if shown then .shown else .repeated, source := .buffer i, shown := some j }
  | none => { kind := .black, source := .black, shown := none }

/-- R197: begin the emission for k, which becomes the last answer. -/
def beginEmission (k : FieldNo) (a : Answer) (s : State) : State :=
  s.setOp
    { s.op with
      emission := some
        { requested := k
          source := a.source
          shown := a.shown
          repeats := a.kind == .repeated
          next := s.cp.ownership.firstRow }
      lastAnswer := a.kind
      lastAsked := some k }

/-- R198: an emission in progress ends. -/
def endEmission (s : State) : State := s.setOp { s.op with emission := none }

/-- R193: the output start for k at a FULL owner outside OFFLINE and STOPPED. -/
def fullOutputStart (k : FieldNo) (s : State) : State :=
  let settledState := settleBuffers k (abandonOvertaken k (endEmission s))
  let noticed := haloOutputNotice k (builderOutputNotice k settledState)
  beginEmission k (answerFor (showsFrame k s) noticed) noticed

/-- R201: the output start for k at a FILL owner outside OFFLINE and STOPPED. -/
def fillOutputStart (k : FieldNo) (s : State) : State :=
  beginEmission k { kind := .fill, source := .fill, shown := some k } s

/-- R193: an output start for k. -/
def outputStartStep (k : FieldNo) (s : State) : State :=
  if s.cu.membership.running then
    if s.cp.ownership.isFull then fullOutputStart k s else fillOutputStart k s
  else s.setOp { s.op with lastAnswer := .none, lastAsked := some k }

/-- R202: the Output Port at entry to STOPPED, after the build has been abandoned. -/
def stopOutput (s : State) : State :=
  s.setOp { s.op with fb0 := none, fb1 := none, emission := none }

end Sys2Proof.Machine
end

