-- ==== Sys2Proof/Machine/Membership.lean ====
section
/-! DEFINITION. The station's own membership: moves between states (R64 to R83), the requests the
Consensus Unit makes, and the local side of a take. -/

namespace Sys2Proof.Machine

/-! ## Requests (R63, R66, R74, R79, R95) -/

/-- R95: the CLOSE for round N becomes owed. -/
def oweClose (n : FieldNo) (s : State) : State :=
  if s.cu.owedCloses.contains n then s
  else s.setCu { s.cu with owedCloses := insertByField id n s.cu.owedCloses }

/-- R95: ask for a CLOSE(N) where round N is not closed; a full queue leaves it owed. -/
def askClose (n : FieldNo) (s : State) : State :=
  if alreadyClosed s.cu.agreed n then s
  else
    match urgentAnswer (.close n) s with
    | .accepted => pushUrgent (.close n) s
    | .queueFull => oweClose n s
    | _ => s

/-- R95: one owed CLOSE asked for again, while the station is MEMBER and the round is not closed. -/
def askOwed (s : State) (n : FieldNo) : State :=
  let dropped := s.setCu { s.cu with owedCloses := s.cu.owedCloses.filter fun m => m != n }
  if s.cu.membership = .member then askClose n dropped else s

/-- R79: ask for the LEAVE that is owed. -/
def askLeave (s : State) : State :=
  match urgentAnswer .leave s with
  | .accepted => pushUrgent .leave (s.setCu { s.cu with leaveOwed := false })
  | _ => s

/-- R66, R74: the JOIN the station queues, with a founding flag. -/
def joinParcel (s : State) (founding : Bool) : Queued :=
  .join s.cp.digest founding (configWords s.cp.config)

/-- R74: a JOIN of the station's own is queued, or in transmission at the queue's head. -/
def joinQueued (s : State) : Bool := s.pli.urgent.any isJoin

/-! ## Moves (R64, R68, R78 to R83) -/

/-- R94, R95: every vote timer, held expiry and owed CLOSE goes. -/
def cancelTimers (s : State) : State :=
  s.setCu { s.cu with timers := [], heldExpiries := [], owedCloses := [] }

/-- R165: both directions are reset. -/
def resetDirections (s : State) : State := onBothSides resetDirection s

/-- R63, R165, R166: what leaving MEMBER for any state brings; nothing in another state. -/
def quitMember (s : State) : State :=
  if s.cu.membership = .member then resetDirections (cancelTimers s) else s

/-- R64: the entry values of LISTENING. -/
def enterListening (s : State) : State :=
  s.setCu
    { s.cu with
      membership := .listening, heard := [], foundingBar := false, listenCount := 0
      snapshotWait := 0, isolationWait := 0, leaveOwed := false }

/-- R68, R78: entry to JOINING. -/
def enterJoining (s : State) : State :=
  let quit := quitMember s
  quit.setCu { quit.cu with membership := .joining, snapshotWait := 0, foundingBar := false }

/-- R81: the Consensus Unit at entry to STOPPED. -/
def stopConsensus (s : State) : State :=
  let c := cancelTimers s
  c.setCu
    { c.cu with
      membership := .stopped, listenCount := 0, snapshotWait := 0, isolationWait := 0
      leaveOwed := false }

/-- R176: entry to STOPPED makes the outgoing bank absent. -/
def dropOutgoing (s : State) : State := s.setSc { s.sc with outgoing := none }

/-- R166: in STOPPED, and so at an accepted START, every direction record holds its reset values, its
three set counts kept. The release counts that a REPORT brought back in LEAVING (R90) go here (log
entry 47). -/
def restDirections (s : State) : State :=
  s.setHx
    { s.hx with
      up := clearedDirection .upper s.hx.up, down := clearedDirection .lower s.hx.down }

/-- R25, R59, R81, R147, R166, R176, R202: entry to STOPPED from any state. -/
def enterStopped (s : State) : State :=
  restDirections
    (dropOutgoing
      (stopOutput (stopBuilder (dropOpenField (stopLine (stopConsensus (quitMember s)))))))

/-- R57, R81: entry to STOPPED with a flush. -/
def flushStopped (s : State) : State := enterStopped (flush s)

/-- R82: entry to ISOLATED, from LISTENING, JOINING, MEMBER or LEAVING; from LEAVING the station
goes on at once to STOPPED. In any other state nothing changes. -/
def isolate (s : State) : State :=
  match s.cu.membership with
  | .listening | .joining | .member | .leaving =>
    let quit := cancelTimers (flush (quitMember (s.raise .isolated)))
    let isolated :=
      quit.setCu { quit.cu with membership := .isolated, isolationWait := 0, leaveOwed := false }
    if s.cu.membership = .leaving then flushStopped isolated else isolated
  | _ => s

/-- R79: entry to LEAVING, with a LEAVE queued or owed. -/
def enterLeaving (s : State) : State :=
  let quit := quitMember s
  askLeave (quit.setCu { quit.cu with membership := .leaving, leaveOwed := true })

/-- R79: STOP in LISTENING, JOINING or ISOLATED, or MEMBER; in other states nothing. -/
def stopStation (s : State) : State :=
  match s.cu.membership with
  | .member => enterLeaving s
  | .listening | .joining | .isolated => flushStopped s
  | _ => s

/-- R82: a detach report. -/
def detachReported (s : State) : State := isolate (detach s)

/-! ## The local side of a take (R62, R70, R102, R107, R165) -/

/-- R70, R77: withdraw the SNAPSHOTs addressed to the stations listed. -/
def withdrawSnapshots (gone : List Station) (s : State) : State :=
  gone.foldl (fun t n => withdrawUrgent (isSnapshotTo n) t) s

/-- R107: count a closure. -/
def countClosure (k : ClosureKind) (s : State) : State :=
  match k with
  | .complete => s.setCu { s.cu with completeCount := s.cu.completeCount + 1 }
  | .closed => s.setCu { s.cu with closedCount := s.cu.closedCount + 1 }
  | .superseded => s.setCu { s.cu with supersededCount := s.cu.supersededCount + 1 }

/-- R94, R95, R102: the timers, held expiries and owed CLOSEs of numbers not newer than N go, and
the round-closed withdrawal is requested. -/
def roundClosedHere (n : FieldNo) (s : State) : State :=
  withdrawUrgent (isRoundParcel n)
    (s.setCu
      { s.cu with
        timers := s.cu.timers.filter fun t => newer t.field n
        heldExpiries := s.cu.heldExpiries.filter fun f => newer f n
        owedCloses := s.cu.owedCloses.filter fun f => newer f n })

/-- One local act. -/
def doAct (s : State) (a : Act) : State :=
  match a with
  | .counted k => countClosure k s
  | .edited => s.raiseEditPoint
  | .removed gone => withdrawSnapshots gone s
  | .switched o => s.setSc { s.sc with outgoing := some o }
  | .decided d => placeDecision d s
  | .roundClosed n => roundClosedHere n s

/-- R165: a side's neighbour is among the stations whose entry changed. -/
def neighbourTouched (touched : List Station) (s : State) (side : Side) : Bool :=
  match neighbourOf s side with
  | none => false
  | some n => touched.contains n

/-- R165: reset each direction whose neighbour's entry the take changed. -/
def resetTouched (touched : List Station) (s : State) : State :=
  onBothSides
    (fun t side => if neighbourTouched touched t side then resetDirection t side else t) s

/-- R76, R165: what a take that changed roster entries brings at this station. -/
def rosterChanged (touched : List Station) (s : State) : State :=
  if touched.isEmpty then s else resetTouched touched (s.raise .membershipChanged)

/-- R78: the station's own entry has gone. -/
def checkOwnEntry (touched : List Station) (s : State) : State :=
  if touched.contains s.cp.station && (rosterEntry s.cu.agreed.roster s.cp.station).isNone then
    isolate s
  else s

/-- R62: the local side of a take. -/
def applyRun (run : TakeRun) (s : State) : State :=
  rosterChanged run.touched (run.acts.foldl doAct (s.setAgreed run.agreed))

/-- R62: a station in MEMBER or LEAVING applies a take to its Agreed State, and acts on its own
side of it. -/
def applyTake (sender : Station) (content : Content) (s : State) : State :=
  applyRun (runTake s.cp.config sender content s.cu.agreed) s

/-- The stations whose entry the take changed. -/
def takeTouched (sender : Station) (content : Content) (s : State) : List Station :=
  (runTake s.cp.config sender content s.cu.agreed).touched

/-- R62, R78: the same, followed by what the take does to this station's own membership. -/
def applyTakeOwn (sender : Station) (content : Content) (s : State) : State :=
  checkOwnEntry (takeTouched sender content s) (applyTake sender content s)

/-- R65: what a listening or joining station records at a take that is not its own. -/
def recordHeard (own : Bool) (sender : Station) (barring : Bool) (s : State) : State :=
  if own then s
  else
    match s.cu.membership with
    | .listening =>
      s.setCu
        { s.cu with
          heard := addStation sender s.cu.heard
          foundingBar := s.cu.foundingBar || barring }
    | .joining => s.setCu { s.cu with foundingBar := s.cu.foundingBar || barring }
    | _ => s

/-- R70: the SNAPSHOT sender for station n: the lowest-numbered ACTIVE entry other than n. -/
def snapshotSender (a : AgreedState) (n : Station) : Option Station :=
  (activeStations a.roster).find? fun m => m != n

/-- R70: queue the SNAPSHOT to station n, if this station is the one to send it. -/
def sendSnapshot (n : Station) (s : State) : State :=
  if s.cu.membership = .member ∧ snapshotSender s.cu.agreed n = some s.cp.station then
    requestUrgent (.snapshot n) (withdrawUrgent (isSnapshotTo n) s)
  else s

/-! ## Takes on the line (R46 to R50) -/

/-- R46 to R50: a parcel whose slot closes with VOID recessive. A detached station takes nothing;
a parcel this station voids by R47 or R48 is voided (log entry 13); otherwise the take completes
the station's own parcel, and `effect` is told whether it was its own. -/
def takeParcel (p : Parcel) (effect : Bool → State → State) (s : State) : State :=
  if s.pli.attached then
    if voidsIntact s p then
      if isOwn s p then voidSend (s.drive .void) else s.drive .void
    else
      let own := isOwn s p
      let received := s.drive .recessive
      effect own (if own then completeSend received else received)
  else s.drive .none

/-- R62, R65: a take that members apply and others record. -/
def memberTake (p : Parcel) (s : State) : State :=
  takeParcel p
    (fun own t =>
      if t.cu.membership.applies then applyTakeOwn p.sender p.content t
      else recordHeard own p.sender true t)
    s

end Sys2Proof.Machine
end

