-- ==== Sys2Proof/Machine/Intake.lean ====
section
/-! DEFINITION. Line Intake and the field end (chapter 2), the hand-over of an analysis (R84, R88),
and the waits counted in field ends (R66, R74, R83): FIELD_BEGIN, LINE_RECORD, FIELD_END,
ANALYSIS_HANDOVER, LISTEN_PERIOD_END, SNAPSHOT_WAIT_END, ISOLATION_WAIT_END. -/

namespace Sys2Proof.Machine

/-! ## A command that acts unless the reset pin is held low -/

/-- R214: while the reset pin is held low a command changes nothing (log entry 4). Every other
command answers a next state; the queue of waiting commands is the step's, not the command's. -/
def live (effect : State → State) (s : State) : Host.Outcome State Fault Refusal :=
  .next ((if s.cp.resetHeld then s else effect s).setPending s.pending)

/-! ## The hand-over (R84, R88) -/

/-- R94: the result of field N has been handed over, for the timers that ask. -/
def markHanded (n : FieldNo) (s : State) : State :=
  s.setCu
    { s.cu with
      timers := s.cu.timers.map fun t => if t.field = n then { t with handed := true } else t }

/-- R95: the CLOSE(N) of a held expiry is asked for. -/
def releaseHeld (n : FieldNo) (s : State) : State :=
  if s.cu.heldExpiries.contains n then
    askClose n (s.setCu { s.cu with heldExpiries := s.cu.heldExpiries.filter fun f => f != n })
  else s

/-- R88: what the Consensus Unit does with the result for field N. -/
def reportResult (n : FieldNo) (figures : Option Figures) (s : State) : State :=
  if s.cu.membership = .member ∧ newerThan n s.cu.agreed.lastClosed = true then
    releaseHeld n (askReport n figures s)
  else s

/-- R84, R88: the result for field N is handed over and the analysis's holds are removed. -/
def handOver (n : FieldNo) (figures : Option Figures) (claim : Option Word16) (s : State) : State :=
  let told := markHanded n (reportResult n figures s)
  dropAnalysis claim
    (told.setFa { told.fa with lastResult := some { field := n, figures := figures } })

/-- R84: the head of the list finishes and the next analysis is begun. -/
def handOverHead (s : State) : State :=
  match s.fa.pending with
  | [] => s
  | a :: rest =>
    let result := analysisResult s a
    let removed :=
      s.setFa { s.fa with pending := rest, accumulators := result.getD Figures.zero }
    beginHead (handOver a.field result a.claim removed)

/-! ## The field end (R23, R24) -/

/-- R23: the slot of an open field becomes CLOSED, its ABSENT entries LOST and counted. -/
def closeSlot (i : Nat) (declared : Option Nat) (s : State) : State :=
  let lost := (((slotAt s i).occupant).map fun o => countState .absent o.table).getD 0
  let closed :=
    s.updateOccupant i fun o =>
      { o with closed := true, declared := declared, table := o.table.map loseEntry }
  closed.setTotals (countLost lost closed.cp.totals)

/-- R24, R31, R84: the analysis of field f begins; a seventeenth is handed over at once. -/
def analyseField (f : FieldNo) (slot : Option Nat) (s : State) : State :=
  let claim := analysisClaim s slot
  let held := holdAnalysis f claim s
  if Config.analysisCapacity ≤ held.fa.pending.length then handOver f none claim held
  else joinAnalyses f claim held

/-- R94: a vote timer for field N is started at its field end. It starts as handed over when no
analysis of that number is on the list (DEDUCED, log entry 17). It joins the end of the list, which so
keeps the timers in the order in which they were started (DESIGN CHOICE, log entry 53). -/
def startTimer (n : FieldNo) (s : State) : State :=
  if newerThan n s.cu.agreed.lastClosed && !s.cu.timers.any fun t => t.field == n then
    s.setCu
      { s.cu with
        timers :=
          s.cu.timers ++ [{ field := n, handed := !s.fa.pending.any fun a => a.field == n }] }
  else s

/-- R66, R74, R83, R94: the field end notice to the Consensus Unit. -/
def consensusEnd (f : FieldNo) (s : State) : State :=
  match s.cu.membership with
  | .listening => s.setCu { s.cu with listenCount := min 2 (s.cu.listenCount + 1) }
  | .joining =>
    if joinQueued s then s else s.setCu { s.cu with snapshotWait := min 4 (s.cu.snapshotWait + 1) }
  | .isolated => s.setCu { s.cu with isolationWait := min 4 (s.cu.isolationWait + 1) }
  | .member => startTimer f s
  | _ => s

/-- R24: the three hand-ons of a field end. -/
def handOnEnd (f : FieldNo) (slot : Option Nat) (s : State) : State :=
  builderEnd f slot (consensusEnd f (analyseField f slot s))

/-- R23: the open field ends. -/
def endField (m : OpenField) (declared : Option Nat) (s : State) : State :=
  let closed :=
    match m.slot with
    | none => s
    | some i => closeSlot i declared s
  handOnEnd m.field m.slot (closed.setLi { closed.li with marker := none })

/-- R23: a FIELD_END for field f with a line count. -/
def fieldEndStep (f : FieldNo) (count : Nat) (s : State) : State :=
  match s.li.marker with
  | none => s
  | some m => if m.field = f then endField m (some count) s else s

/-! ## The begin of a field (R20, R32, R105) -/

/-- R20: an open field is ended implicitly. -/
def implicitEnd (s : State) : State :=
  match s.li.marker with
  | none => s
  | some m => endField m none s

/-- R32: no slot is granted; the field is discarded. -/
def discardField (f : FieldNo) (p : Parity) (s : State) : State :=
  let counted :=
    (s.setTotals { s.cp.totals with fieldDiscards := s.cp.totals.fieldDiscards + 1 }).raise
      .fieldDiscarded
  counted.setLi { counted.li with marker := some { field := f, parity := p, slot := none } }

/-- R20, R27: ask for a slot and set the marker. -/
def openField (f : FieldNo) (p : Parity) (s : State) : State :=
  match grantSlot s with
  | none => discardField f p s
  | some i =>
    let claimed := claimSlot s i f p
    claimed.setLi { claimed.li with marker := some { field := f, parity := p, slot := some i } }

/-- R105: in MEMBER, a round g−2 still open makes frame g−2 overtaken. -/
def consensusBegin (g : FieldNo) (s : State) : State :=
  if s.cu.membership = .member ∧ alreadyClosed s.cu.agreed (g - 2) = false then
    overtakenNotice (g - 2)
      (s.setCu { s.cu with overtakenCount := s.cu.overtakenCount + 1 })
  else s

/-- R20: FIELD_BEGIN(f) with a parity. -/
def fieldBeginStep (f : FieldNo) (p : Parity) (s : State) : State :=
  consensusBegin f (builderBegin f (openField f p (implicitEnd s)))

/-! ## Line records (R21, R22) -/

/-- R21: a stray line is counted. -/
def countStray (s : State) : State :=
  s.setTotals { s.cp.totals with strayLines := s.cp.totals.strayLines + 1 }

/-- R22: a duplicate is counted. -/
def countDuplicate (s : State) : State := s.setLi { s.li with duplicates := s.li.duplicates + 1 }

/-- R22: write a kept record to its entry. -/
def keepRecord (i : Nat) (r : LineRecord) (s : State) : State :=
  match entryAt s i r.line with
  | none => s
  | some e =>
    let written := s.updateOccupant i fun o => { o with table := putEntry (entryFromRecord r) o.table }
    if e.state = .absent then written else countDuplicate written

/-- R21: class a line record. -/
def lineRecordStep (r : LineRecord) (s : State) : State :=
  match s.li.marker with
  | none => countStray s
  | some m =>
    if r.field ≠ m.field ∨ r.parity ≠ m.parity then countStray s
    else
      match m.slot with
      | none => s
      | some i =>
        if s.cp.ownership.inWindow r.parity r.line then keepRecord i r s else s

/-! ## Waits (R66, R74, R83) -/

/-- R66: the listen period has ended and no JOIN is queued yet. -/
def listenEnd (s : State) : State :=
  if s.cu.membership = .listening ∧ s.cu.listenCount = 2 ∧ joinQueued s = false then
    requestUrgent (joinParcel s s.cu.heard.isEmpty) s
  else s

/-- R74: the SNAPSHOT wait has ended and no JOIN is queued. The founding bar is cleared once the
JOIN has been accepted (log entry 39). -/
def snapshotEnd (s : State) : State :=
  if s.cu.membership = .joining ∧ s.cu.snapshotWait = 4 ∧ joinQueued s = false then
    let q := joinParcel s (!s.cu.foundingBar)
    match urgentAnswer q s with
    | .accepted => pushUrgent q (s.setCu { s.cu with foundingBar := false })
    | _ => s
  else s

/-- R83: the isolation wait has ended at an attached station. -/
def isolationEnd (s : State) : State :=
  if s.cu.membership = .isolated ∧ s.cu.isolationWait = 4 ∧ s.pli.attached = true then
    enterListening s
  else s

/-! ## The commands -/

/-- The marker's field number, for a run of words with a kind code and at least two words. -/
def markerField (kind : Nat) (words : List Word16) : Option FieldNo :=
  match words with
  | w0 :: f :: _ => if busKind w0 = kind then some f else none
  | _ => none

/-- Word 0 of a run. -/
def firstWord (words : List Word16) : Word16 := words.headD 0

/-- FIELD_BEGIN (R15, R16, R20). -/
def fieldBeginEffect (words : List Word16) (s : State) : State :=
  match markerField 2 words with
  | none => s
  | some f =>
    if s.cu.membership.running then fieldBeginStep f (busParity (firstWord words)) s else s

/-- FIELD_BEGIN. -/
def execFieldBegin (words : List Word16) (s : State) : Host.Outcome State Fault Refusal :=
  live (fieldBeginEffect words) s

/-- LINE_RECORD (R15 to R18, R21): a run of one word has no field number and is stray. -/
def lineRecordEffect (words : List Word16) (s : State) : State :=
  if words.isEmpty || busKind (firstWord words) != 1 || !s.cu.membership.running then s
  else
    match readLineRecord words with
    | none => countStray s
    | some r => lineRecordStep r s

/-- LINE_RECORD. -/
def execLineRecord (words : List Word16) (s : State) : Host.Outcome State Fault Refusal :=
  live (lineRecordEffect words) s

/-- FIELD_END (R15, R16, R23). -/
def fieldEndEffect (words : List Word16) (s : State) : State :=
  match markerField 3 words with
  | none => s
  | some f =>
    if s.cu.membership.running then fieldEndStep f (busLow9 (firstWord words)) s else s

/-- FIELD_END. -/
def execFieldEnd (words : List Word16) (s : State) : Host.Outcome State Fault Refusal :=
  live (fieldEndEffect words) s

/-- ANALYSIS_HANDOVER (R84, R88). -/
def execAnalysisHandover (s : State) : Host.Outcome State Fault Refusal := live handOverHead s

/-- LISTEN_PERIOD_END (R66). -/
def execListenPeriodEnd (s : State) : Host.Outcome State Fault Refusal := live listenEnd s

/-- SNAPSHOT_WAIT_END (R74). -/
def execSnapshotWaitEnd (s : State) : Host.Outcome State Fault Refusal := live snapshotEnd s

/-- ISOLATION_WAIT_END (R83). -/
def execIsolationWaitEnd (s : State) : Host.Outcome State Fault Refusal := live isolationEnd s

end Sys2Proof.Machine
end

