-- ==== Sys2Proof/Machine/Builds.lean ====
section
/-! DEFINITION. Builds, rows and output (chapters 7 to 10): PENDING_SET_OFFER, BUILD_START,
BUILD_LINE, HALO_WAIT_EXPIRY, ROW_WRITE, COMMIT_COMPLETE, OUTPUT_START, ROW_EMIT. -/

namespace Sys2Proof.Machine

/-- R153: the pending sets of both directions are offered again. -/
def offerPendingSets (s : State) : State := (pendingOrder s.hx).foldl offerPending s

/-- PENDING_SET_OFFER (R153). -/
def execPendingSetOffer (s : State) : Host.Outcome State Fault Refusal := live offerPendingSets s

/-- BUILD_START (R134, R136). -/
def execBuildStart (s : State) : Host.Outcome State Fault Refusal := live testHead s

/-- BUILD_LINE (R138). -/
def execBuildLine (s : State) : Host.Outcome State Fault Refusal := live buildLineStep s

/-- HALO_WAIT_EXPIRY (R163). -/
def execHaloWaitExpiry (s : State) : Host.Outcome State Fault Refusal := live haloExpiry s

/-- ROW_WRITE (R174). -/
def execRowWrite (s : State) : Host.Outcome State Fault Refusal := live rowWriteStep s

/-- R181: the commit in flight completes, if there is one. -/
def commitStep (s : State) : State :=
  match s.sc.commit with
  | none => s
  | some c =>
    let written := s.setBank c.bank (commitInto c (bankOf s c.bank))
    (written.setSc { written.sc with commit := none }).raise .commitDone

/-- COMMIT_COMPLETE (R181). -/
def execCommitComplete (s : State) : Host.Outcome State Fault Refusal := live commitStep s

/-- OUTPUT_START (R193). -/
def execOutputStart (frame : FieldNo) (s : State) : Host.Outcome State Fault Refusal :=
  live (outputStartStep frame) s

/-- ROW_EMIT (R197). -/
def execRowEmit (s : State) : Host.Outcome State Fault Refusal := live emitRow s

end Sys2Proof.Machine
end

