-- ==== Sys2Proof/Machine/Line.lean ====
section
/-! DEFINITION. The line and the timers (chapters 3 to 5): VOTE_TIMER_EXPIRY, CLOSE_REQUEUE,
LEAVE_REQUEUE, IDLE_POINT, IDLE_MONITOR_EXPIRY, OWN_TRANSMISSION_NOT_SEEN, PARCEL_CUT_SHORT,
PARCEL_VOID, PARCEL_DISCARD, ISOLATION_NOTICE. -/

namespace Sys2Proof.Machine

/-! ## Vote timers and requests made again (R79, R94, R95) -/

/-- R94: the expiry is held until the hand-over. -/
def holdExpiry (n : FieldNo) (s : State) : State :=
  s.setCu { s.cu with heldExpiries := insertByField id n s.cu.heldExpiries }

/-- R94, R95: the vote timer for field N expires, if one runs. -/
def timerExpiry (n : FieldNo) (s : State) : State :=
  match s.cu.timers.find? fun t => t.field == n with
  | none => s
  | some t =>
    let stopped := s.setCu { s.cu with timers := s.cu.timers.filter fun x => x.field != n }
    if t.handed then askClose n stopped else holdExpiry n stopped

/-- R95: every owed CLOSE is asked for again, the oldest round first. -/
def closeRequeue (s : State) : State := s.cu.owedCloses.foldl askOwed s

/-- R79: the owed LEAVE is asked for again. -/
def leaveRequeue (s : State) : State :=
  if s.cu.membership = .leaving ∧ s.cu.leaveOwed = true then askLeave s else s

/-- VOTE_TIMER_EXPIRY (R95). -/
def execVoteTimerExpiry (field : FieldNo) (s : State) : Host.Outcome State Fault Refusal :=
  live (timerExpiry field) s

/-- CLOSE_REQUEUE (R95). -/
def execCloseRequeue (s : State) : Host.Outcome State Fault Refusal := live closeRequeue s

/-- LEAVE_REQUEUE (R79). -/
def execLeaveRequeue (s : State) : Host.Outcome State Fault Refusal := live leaveRequeue s

/-! ## Idle points and detaching (R36 to R38, R42 to R45, R83) -/

/-- R83: an ISOLATED station whose wait has ended returns to LISTENING at its attach report. -/
def attachReported (s : State) : State :=
  if s.cu.membership = .isolated ∧ s.cu.isolationWait = 4 then enterListening s else s

/-- R37, R42, R43: an idle point, with the lowest arbitration value other stations drive there. -/
def idlePointStep (others : Option (Fin 128)) (s : State) : State :=
  if s.cu.membership.running then
    contend others (if s.pli.attached then s else attachReported (attach s))
  else s

/-- R38 condition 1: the idle monitor reaches 2 ms; it acts only in ATTACHED. -/
def monitorExpiry (s : State) : State :=
  if s.pli.attached && s.pli.idleMonitor then detachReported s else s

/-- R38 condition 2: the station drives dominant and reads recessive. -/
def transmissionNotSeen (s : State) : State := if s.pli.attached then detachReported s else s

/-- IDLE_POINT (R37, R42). -/
def execIdlePoint (others : Option (Fin 128)) (s : State) : Host.Outcome State Fault Refusal :=
  live (idlePointStep others) s

/-- IDLE_MONITOR_EXPIRY (R38). -/
def execIdleMonitorExpiry (s : State) : Host.Outcome State Fault Refusal := live monitorExpiry s

/-- OWN_TRANSMISSION_NOT_SEEN (R38). -/
def execOwnTransmissionNotSeen (s : State) : Host.Outcome State Fault Refusal :=
  live transmissionNotSeen s

/-- PARCEL_CUT_SHORT (R45): the parcel on the line is this station's own exactly when it has one in
transmission; a receiver's state is unaffected. -/
def execParcelCutShort (s : State) : Host.Outcome State Fault Refusal := live cutShort s

/-! ## Voids, discards, isolation (R46, R51, R52) -/

/-- R46, R51: a slot closes with VOID asserted; the station's own parcel, if on the line, counts
an attempt. -/
def parcelVoidStep (r : Reading) (s : State) : State :=
  if s.pli.attached then voidSend (s.drive (ackOf s r)) else s.drive .none

/-- R51: the total and the flag of a discard. -/
def countDiscard (s : State) : State :=
  (s.setTotals { s.cp.totals with parcelDiscards := s.cp.totals.parcelDiscards + 1 }).raise
    .parcelDiscarded

/-- R75: a JOIN discarded in LISTENING or JOINING. -/
def joinDiscarded (s : State) : State :=
  if s.cu.membership = .listening ∨ s.cu.membership = .joining then
    flushStopped (s.raise .joinRefused)
  else s

/-- R75, R80, R90, R189: the Consensus Unit is told which urgent parcel was discarded. -/
def urgentDiscardTold (q : Queued) (s : State) : State :=
  match q with
  | .join _ _ _ => joinDiscarded s
  | .leave => if s.cu.membership = .leaving then enterStopped s else s
  | .bankSelect _ _ _ => s.raise .selectFailed
  | .report _ _ _ _ => returnCounts q s
  | _ => s

/-- R51, R52: the Urgent Queue's head is discarded. -/
def discardUrgent (q : Queued) (rest : List Queued) (s : State) : State :=
  urgentDiscardTold q
    (countDiscard
      (s.setPli
        { s.pli with
          urgent := rest, urgentAttempts := 0, urgentDiscards := min 2 (s.pli.urgentDiscards + 1) }))

/-- R51, R155: the Bulk Queue's head is discarded. -/
def discardBulk (p : HaloParcel) (rest : List HaloParcel) (s : State) : State :=
  ownHaloLost p (countDiscard (s.setPli { s.pli with bulk := rest, bulkAttempts := 0 }))

/-- R51: the queue whose head has used up its attempts discards it. -/
def parcelDiscardStep (s : State) : State :=
  if Config.maxAttempts ≤ s.pli.urgentAttempts then
    match s.pli.urgent with
    | [] => s
    | q :: rest => discardUrgent q rest s
  else if Config.maxAttempts ≤ s.pli.bulkAttempts then
    match s.pli.bulk with
    | [] => s
    | p :: rest => discardBulk p rest s
  else s

/-- R52, R82: two consecutive urgent discards report isolation. -/
def isolationNotice (s : State) : State := if 2 ≤ s.pli.urgentDiscards then isolate s else s

/-- PARCEL_VOID (R46, R51). -/
def execParcelVoid (reading : Reading) (s : State) : Host.Outcome State Fault Refusal :=
  live (parcelVoidStep reading) s

/-- PARCEL_DISCARD (R51). -/
def execParcelDiscard (s : State) : Host.Outcome State Fault Refusal := live parcelDiscardStep s

/-- ISOLATION_NOTICE (R52). -/
def execIsolationNotice (s : State) : Host.Outcome State Fault Refusal := live isolationNotice s

end Sys2Proof.Machine
end

