-- ==== Sys2Proof/Machine/Items.lean ====
section
/-! DEFINITION. The items a host reads (R207): the values of each group in item order. The order of
the items inside a group is log entry 7. -/

namespace Sys2Proof.Machine

/-! ## Item values (R207) -/

/-- A number as an item value. -/
def word (n : Nat) : Word32 := BitVec.ofNat 32 n

/-- R207: a field that is absent. -/
def absent : Word32 := BitVec.allOnes 32

/-- A 16-bit number. -/
def wordOf (v : BitVec 16) : Word32 := v.setWidth 32

/-- A 16-bit number, or its absence. -/
def optional (v : Option (BitVec 16)) : Word32 := (v.map wordOf).getD absent

/-- A flag: 0 for clear, no or deasserted, 1 for set, yes or asserted. R209 gives this code for the
lock, and the order in which R35 lists the attach states, and R61 and R123 list clear and set, gives it
for the attach state, the founding bar and the trend flags. For every other item of yes or no it is DESIGN CHOICE, log entry 52. -/
def flag (b : Bool) : Word32 := if b then 1 else 0

/-- R207: a set of station numbers. -/
def stationSet (ns : List Station) : Word32 := ns.foldl (fun w n => w ||| (1#32 <<< n.val)) 0

/-- R207: a list of `capacity` entries of `width` items each, its first entries shown, followed by
its length. -/
def listItems {α : Type} (capacity width : Nat) (items : α → List Word32) (xs : List α) :
    List Word32 :=
  ((List.range capacity).map fun i =>
      match xs[i]? with
      | some x => items x
      | none => List.replicate width absent).flatten ++
    [word xs.length]

/-- R207: an optional record of `width` items. -/
def recordItems {α : Type} (width : Nat) (items : α → List Word32) (r : Option α) : List Word32 :=
  match r with
  | some x => items x
  | none => List.replicate width absent

/-! ## Codes (R207: numbered in the order of the first rule that lists them) -/

/-- R26. -/
def parityCode : Parity → Nat
  | .top => 0
  | .bottom => 1

/-- R61. -/
def membershipCode : Membership → Nat
  | .offline => 0
  | .listening => 1
  | .joining => 2
  | .member => 3
  | .leaving => 4
  | .isolated => 5
  | .stopped => 6

/-- R41. -/
def kindNumber : ParcelKind → Nat
  | .close => 0
  | .leave => 1
  | .snapshot => 2
  | .join => 3
  | .force => 4
  | .loopSet => 5
  | .bankSelect => 6
  | .report => 7
  | .halo => 8

/-- The kind of a queued urgent parcel. -/
def queuedKind : Queued → ParcelKind
  | .close _ => .close
  | .leave => .leave
  | .snapshot _ => .snapshot
  | .join _ _ _ => .join
  | .force _ _ => .force
  | .loopSet _ _ => .loopSet
  | .bankSelect _ _ _ => .bankSelect
  | .report _ _ _ _ => .report

/-- R76. -/
def standingCode : EntryStanding → Nat
  | .joining => 0
  | .active => 1

/-- R99. -/
def signatureCode : Signature → Nat
  | .none => 0
  | .still => 1
  | .repeated => 2
  | .pairPrev => 3
  | .motion => 4

/-- R108. -/
def filmCode : FilmKind → Nat
  | .twoTwo => 0
  | .threeTwo => 1

/-- R108: state, film kind, phase, candidate count, forced sub-mode. -/
def cadenceItems : Cadence → List Word32
  | .video => [word 0, absent, absent, word 0, absent]
  | .candidate k p n => [word 1, word (filmCode k), word p, word n, absent]
  | .film k p => [word 2, word (filmCode k), word p, word 0, absent]
  | .forcedMa => [word 3, absent, absent, word 0, word 0]
  | .forcedBob => [word 3, absent, absent, word 0, word 1]
  | .forcedFilm k p =>
    [word 3, word (filmCode k), word p, word 0, word (match k with | .twoTwo => 2 | .threeTwo => 3)]

/-- R123. -/
def loopCode : LoopMode → Nat
  | .auto => 0
  | .held => 1
  | .off => 2

/-- R177. -/
def bankCode : BankName → Nat
  | .bankA => 0
  | .bankB => 1

/-- R177. -/
def bankStateCode : BankState → Nat
  | .empty => 0
  | .loading => 1
  | .writing => 2
  | .ready => 3

/-- R121. -/
def pairingCode : Pairing → Nat
  | .ma => 0
  | .bob => 1
  | .weaveNext => 2
  | .weavePrev => 3

/-- R149: none, LINES, INTERIOR, EDGES. -/
def buildPhaseCode : BuildPhase → Nat
  | .lines => 1
  | .interior => 2
  | .edges => 3

/-- R168: LINES, INTERIOR, EDGES. -/
def scalingPhaseCode : BuildPhase → Nat
  | .lines => 0
  | .interior => 1
  | .edges => 2

/-- R168. -/
def edgeCode : EdgeState → Nat
  | .none => 0
  | .waiting => 1
  | .written => 2

/-- R158. -/
def receiveCode : ReceiveState → Nat
  | .free => 0
  | .filling => 1
  | .complete => 2
  | .inUse => 3

/-- R162. -/
def haloLineCode : HaloLine → Nat
  | .neighbour _ => 0
  | .fill => 1
  | .clamped => 2

/-- R190. -/
def answerCode : AnswerKind → Nat
  | .shown => 0
  | .repeated => 1
  | .black => 2
  | .fill => 3
  | .none => 4

/-- R207: a seam, its kind in bits 15–8 and its station in bits 7–0. -/
def seamItem : Seam → Word32
  | .pictureEdge => word 0
  | .fillSeam => word 256
  | .peer n => word (512 + n.val)
  | .none => word 768

/-! ## Groups (R207) -/

/-- 0x0000 to 0x000A and 0x0010 to 0x0027: a configuration item (R208). -/
def configItem (c : ConfigItems) (item : Nat) : Option Nat :=
  match item with
  | 0 => some (if c.mode525 then 1 else 0)
  | 1 => some (if c.large then 1 else 0)
  | 2 => some c.ruleCount
  | 3 => some c.voteWindow
  | 4 => some c.haloWait
  | 5 => some c.stillLimit
  | 6 => some c.combLimit
  | 7 => some c.loopGain
  | 8 => some c.fillY
  | 9 => some c.fillCb
  | 10 => some c.fillCr
  | n =>
    if 16 ≤ n then
      match c.rules[(n - 16) / 3]? with
      | none => none
      | some r =>
        match (n - 16) % 3 with
        | 0 => some r.limit
        | 1 => some r.owner.val
        | _ => some (kindCode r.kind)
    else none

/-- 0x0200: the station items (R207). The lock reads 0 clear and 1 set (R209); that ATTENTION, a pin
that is low while asserted, reads 1 while asserted is DESIGN CHOICE, log entry 52. -/
def stationItems (s : State) : List Word32 :=
  [word s.cp.station.val, word (membershipCode s.cu.membership), flag s.cp.lock, wordOf s.cp.digest,
    s.cp.events.setWidth 32, s.cp.enables.setWidth 32, flag (attention s)]

/-- First and last field line of a run. -/
def runItems (r : Option (Nat × Nat)) : List Word32 :=
  recordItems 2 (fun x => [word x.1, word x.2]) r

/-- 0x0210: the derived ownership record (R5). Before the first START the rule index reads NONE and
the kind, for which R3 names no empty value, reads as absent (DESIGN CHOICE, log entry 45). -/
def ownershipItems (o : Ownership) : List Word32 :=
  (match o.rule with
    | some (i, k) => [word i, word (kindCode k)]
    | none => [word 8, absent]) ++
    [word o.coreLow, word o.coreHigh, word o.windowLow, word o.windowHigh] ++
    runItems o.topLines ++ runItems o.bottomLines ++
    [word o.firstRow, word o.rowCount, seamItem o.upper, seamItem o.lower]

/-- The holder is the build. -/
def isBuildHold (h : Holder) : Bool := h == .build

/-- R34: the status record of a slot. -/
def slotItems (sl : Slot) : List Word32 :=
  let builds := (sl.holders.filter isBuildHold).length
  let holds := [word builds, word (sl.holders.length - builds)]
  match sl.occupant with
  | none => [word 0, absent, absent, absent, absent] ++ holds ++ List.replicate 5 (word 0)
  | some o =>
    [word (if o.closed then 2 else 1), wordOf o.field, word (parityCode o.parity), wordOf o.claim,
        if o.closed then word (o.declared.getD 512) else absent] ++ holds ++
      [EntryState.absent, .valid, .dropout, .lost, .repaired].map fun st =>
        word (countState st o.table)

/-- R34: the open-field marker. -/
def markerItems (m : Option OpenField) : List Word32 :=
  recordItems 3
    (fun m => [wordOf m.field, word (parityCode m.parity), word (m.slot.getD 5)]) m

/-- 0x0220: Line Intake and Field Store (R34). -/
def storeItems (s : State) : List Word32 :=
  (s.fs.slots.map slotItems).flatten ++ markerItems s.li.marker ++ [s.li.duplicates]

/-- 0x0300: the Peer Line Interface (R60). That a parcel in transmission and its withdrawal mark read 0
for no and 1 for yes is DESIGN CHOICE, log entry 52. -/
def lineItems (p : LineInterface) : List Word32 :=
  [flag p.attached, word p.urgent.length, word p.bulk.length,
    ((p.urgent.head?).map fun q => word (kindNumber (queuedKind q))).getD absent,
    ((p.bulk.head?).map fun _ => word (kindNumber .halo)).getD absent,
    word p.urgentAttempts, word p.bulkAttempts, flag p.tx.isSome,
    flag ((p.tx.bind (·.mark)).isSome), word p.urgentDiscards]

/-- DATA 0, NODATA 1 (R84). -/
def resultKind (f : Option Figures) : Word32 := if f.isSome then word 0 else word 1

/-- R61: the membership record. The founding bar is numbered in R61's order, clear 0 and set 1. R61 and
R207 give no code for LEAVE owed: that it reads 0 for no and 1 for yes is DESIGN CHOICE, log entry 52. -/
def membershipItems (c : Consensus) : List Word32 :=
  [word (membershipCode c.membership), stationSet c.heard, flag c.foundingBar, word c.listenCount,
    word c.snapshotWait, word c.isolationWait, flag c.leaveOwed]

/-- R76: a roster entry. -/
def rosterItems (e : RosterEntry) : List Word32 :=
  [word e.station.val, word (standingCode e.standing), word e.missed]

/-- R107: an open round. -/
def roundItems (r : Round) : List Word32 :=
  [wordOf r.field, stationSet r.expected] ++
    listItems 8 2 (fun x => [word x.station.val, resultKind x.figures]) r.reports

/-- R123: the loop record. -/
def loopItems (l : LoopRecord) : List Word32 :=
  [word (loopCode l.mode), word l.t] ++ listItems 4 1 (fun n => [word n]) l.history ++
    [flag l.trendUp, flag l.trendDown]

/-- R185: the bank record. -/
def bankItems (b : BankRecord) : List Word32 :=
  [word (bankCode b.active), wordOf b.digest] ++
    recordItems 3 (fun p => [word (bankCode p.bank), wordOf p.digest, wordOf p.target]) b.pending

/-- R61, R91, R107: the Agreed State. -/
def agreedItems (a : AgreedState) : List Word32 :=
  listItems 8 3 rosterItems a.roster ++ [a.epoch.setWidth 32] ++
    listItems 2 19 roundItems a.openRounds ++
    [optional a.lastClosed, word (signatureCode a.lastSignature)] ++
    cadenceItems a.cadence ++ loopItems a.loop ++ bankItems a.bank

/-- R84: the six figures, in the order of R89. -/
def figureItems (f : Figures) : List Word32 :=
  [word f.d1, word f.d2, word f.comb, word f.stillTotal, word f.stillCount, word f.samples]

/-- R107: the Field Analyser's last result. -/
def resultItems (r : Option AnalysisResult) : List Word32 :=
  recordItems 8
    (fun r => [wordOf r.field, resultKind r.figures] ++ recordItems 6 figureItems r.figures) r

/-- 0x0340: membership, Agreed State and rounds (R61, R107, R129). The running vote timers stand in the
order in which they were started, for R107's "by field number" and R207's "oldest first" (DESIGN CHOICE,
log entry 53). -/
def consensusItems (s : State) : List Word32 :=
  membershipItems s.cu ++ agreedItems s.cu.agreed ++ resultItems s.fa.lastResult ++
    listItems 8 1 (fun t => [wordOf t.field]) s.cu.timers ++
    [s.cu.completeCount, s.cu.closedCount, s.cu.supersededCount, s.cu.overtakenCount]

/-- R149: the build record. -/
def buildItems (b : Option BuildRecord) : List Word32 :=
  match b with
  | none => word 0 :: List.replicate 7 absent
  | some b =>
    [word (buildPhaseCode b.phase), wordOf b.frame, word (if b.agreed then 0 else 1),
      word (pairingCode b.pairing), word (pairingCode b.effective), word b.t,
      word (signatureCode b.signature), word b.built]

/-- 0x03C0: the Line Builder (R149). That an overtaken mark reads 0 for clear and 1 for set is DESIGN
CHOICE, log entry 52. -/
def builderItems (b : Builder) : List Word32 :=
  buildItems b.build ++ listItems 3 2 (fun e => [wordOf e.frame, flag e.overtaken]) b.frames ++
    listItems 8 1 (fun d => [wordOf d.field]) b.decisions ++
    [optional b.lastBegun, optional b.lastRequested]

/-- 0x0400: the totals (R215). -/
def totalItems (t : Totals) : List Word32 :=
  [t.temporalSeg, t.temporalProg, t.spatialSeg, t.spatialProg, t.unrepairedSeg, t.unrepairedProg,
    t.lostSeg, t.lostProg, t.lateFrames, t.clampedRows, t.unagreedFrames, t.fieldDiscards,
    t.strayLines, t.parcelDiscards]

/-- How many lines a receive slot has received. -/
def receivedCount (sl : ReceiveSlot) : Nat := (sl.received.filter Option.isSome).length

/-- R167: a direction. The outbound records stand in the order in which they were made (DESIGN CHOICE,
log entry 53). A FREE slot has no frame, which reads absent, and no lines (R161): its count of
received lines reads 0 (DESIGN CHOICE, log entry 51). -/
def directionItems (d : Direction) : List Word32 :=
  [word d.credit, optional (d.pending.map (·.frame))] ++
    listItems 2 3 (fun r => [wordOf r.frame, word r.remaining, word r.taken]) d.outbound ++
    (d.slots.map fun sl =>
      [word (receiveCode sl.state), optional sl.frame, word (receivedCount sl)]).flatten ++
    [word d.release, optional d.letGo, d.setsSent, d.setsSuperseded, d.setsLost]

/-- R167: a side record. A side without a record reads all ones in every item. R162 gives a halo line
a source only once its side is RESOLVED: the sources of an UNRESOLVED side read absent, all ones
(DESIGN CHOICE, log entry 49). -/
def sideItems (n : Nat) (r : Option SideRecord) : List Word32 :=
  match r with
  | none => List.replicate (n + 1) absent
  | some r =>
    match r.lines with
    | none => word 0 :: List.replicate n absent
    | some ls => word 1 :: ls.map fun l => word (haloLineCode l)

/-- R167: the time left on the halo wait timer of the build in progress: while it runs a free value
up to the limit; 0 once it has expired in that build; absent without a build. The last two readings
are the model's own where R167 and R207 say nothing (DESIGN CHOICE, log entry 10). -/
def timeLeft (s : State) : Word32 :=
  if s.hx.timer then word (Config.haloTimeLeft s.freeCount % (s.cp.config.haloWait + 1))
  else if s.lb.build.isSome then word 0
  else absent

/-- 0x0420: Halo Exchange (R167), without the time left, which follows. -/
def haloItems (h : Halo) : List Word32 :=
  directionItems h.up ++ directionItems h.down ++ sideItems 3 h.upperSide ++ sideItems 4 h.lowerSide

/-- R182: a bank. R207 gives a bit layout for sets of station numbers alone; the pages-written set
reads as one item with bit 8 × table + page (DESIGN CHOICE, log entry 46). -/
def coefficientBankItems (b : Bank) : List Word32 :=
  [word (bankStateCode b.state), b.pages.setWidth 32, wordOf b.digest]

/-- The number of a table. -/
def tableCode : TableName → Nat
  | .vertical => 0
  | .horizontal => 1

/-- R182: the commit in flight. That whether there is one reads 0 for no and 1 for yes is DESIGN CHOICE,
log entry 52. -/
def commitItems (c : Option Commit) : List Word32 :=
  match c with
  | none => word 0 :: List.replicate 3 absent
  | some c => [word 1, word (bankCode c.bank), word (tableCode c.table), word c.page]

/-- R168: the scaling record. -/
def scalingItems (r : Option ScalingRecord) : List Word32 :=
  recordItems 8
    (fun r =>
      [wordOf r.frame, word (if r.agreed then 0 else 1),
        word ((r.bank.map bankCode).getD 2), optional r.digest, word (scalingPhaseCode r.phase),
        word r.rows, word (edgeCode r.upper), word (edgeCode r.lower)]) r

/-- R168: the outgoing bank. -/
def outgoingItems (o : Option Outgoing) : List Word32 :=
  recordItems 3 (fun o => [word (bankCode o.bank), wordOf o.digest, wordOf o.switchFrame]) o

/-- R203: a Frame Buffer. -/
def bufferItems (b : Option Held) : List Word32 :=
  match b with
  | none => [word 0, absent, absent]
  | some h =>
    [word (match h.state with | .building => 1 | .complete => 2 | .showing => 3), wordOf h.frame,
      word h.rows.length]

/-- R190: the source of an emission: FB0, FB1, black, fill. -/
def sourceCode : RowSource → Nat
  | .buffer i => if i then 1 else 0
  | .black => 2
  | .fill => 3

/-- R203: the emission record. That whether the rows are repeats reads 0 for no and 1 for yes is DESIGN
CHOICE, log entry 52. -/
def emissionItems (e : Option Emission) : List Word32 :=
  recordItems 5
    (fun e => [wordOf e.requested, word (sourceCode e.source), optional e.shown, flag e.repeats,
      word e.next]) e

/-- 0x0480: Scaler and Output Port (R182, R203). -/
def scalerItems (s : State) : List Word32 :=
  coefficientBankItems s.sc.bankA ++ coefficientBankItems s.sc.bankB ++ commitItems s.sc.commit ++
    scalingItems s.sc.scaling ++ outgoingItems s.sc.outgoing ++
    bufferItems s.op.fb0 ++ bufferItems s.op.fb1 ++ emissionItems s.op.emission ++
    [word (answerCode s.op.lastAnswer), optional s.op.lastAsked]

/-- 0x1000 to 0x17FF: a coefficient (R182): 2047 while its bank is WRITING. -/
def coefficientItem (s : State) (i : Nat) : Word32 :=
  let b := bankOf s (if i / 1024 = 0 then .bankA else .bankB)
  if b.state = .writing then word 2047
  else
    let table := if i / 512 % 2 = 0 then b.vertical else b.horizontal
    (table.getD (i % 512) 0).signExtend 32

/-- R207: the group of an item number as its first number and its values. -/
def groupOf (s : State) (item : Nat) : Nat × List Word32 :=
  if item < 0x210 then (0x200, stationItems s)
  else if item < 0x220 then (0x210, ownershipItems s.cp.ownership)
  else if item < 0x300 then (0x220, storeItems s)
  else if item < 0x340 then (0x300, lineItems s.pli)
  else if item < 0x3C0 then (0x340, consensusItems s)
  else if item < 0x400 then (0x3C0, builderItems s.lb)
  else if item < 0x420 then (0x400, totalItems s.cp.totals)
  else if item < 0x480 then (0x420, haloItems s.hx ++ [timeLeft s])
  else (0x480, scalerItems s)

/-- R207: the value of a readable item, none where the number is not assigned to one. -/
def readItem (s : State) (item : Nat) : Option Word32 :=
  if item < 0x28 then (configItem s.cp.config item).map word
  else if item < 0x40 then none
  else if item < 0x80 then (s.sc.staging[item - 0x40]?).map fun v => v.signExtend 32
  else if item < 0x200 then none
  else if item < 0x4C0 then
    let g := groupOf s item
    g.2[item - g.1]?
  else if 0x1000 ≤ item ∧ item < 0x1800 then some (coefficientItem s (item - 0x1000))
  else none

/-- The item whose read draws a free value: the time left on the halo wait timer. -/
def timeLeftItem : Nat := 0x451

end Sys2Proof.Machine
end

