-- ==== Sys2Proof/Machine/Port.lean ====
section
/-! DEFINITION. The Control Port (chapter 11): TRANSACTION_INCOMPLETE, NO_REQUEST, CONFIG_WRITE,
STAGING_PAGE_WRITE, EVENT_ENABLES_WRITE, WRITE_OTHER, START, STOP, FORCE, LOOP, SELECT_BANK,
COMMIT_PAGE, CLEAR_BANK, EVENT_CLEAR, SEGMENT_MARK, PROGRAMME_CLEAR. -/

namespace Sys2Proof.Machine

/-! ## Transactions (R204, R205) -/

/-- R204: at the falling edge of select the previous result is loaded and shifted out. -/
def shiftOut (s : State) : State := s.setCp { s.cp with dataOut := resultBytes s.cp.result }

/-- What carrying out a request answers. -/
structure Reply where
  code : ResultCode
  value : Word32
  state : State
deriving DecidableEq, Repr

/-- A refusal: nothing is changed and the value is 0. -/
def refuse (code : ResultCode) (s : State) : Reply := { code := code, value := 0, state := s }

/-- OK, with value 0. -/
def accept (s : State) : Reply := { code := .ok, value := 0, state := s }

/-- R205: the outcome of a taken transaction becomes the previous result. -/
def storeResult (kind : Byte) (item : Word16) (r : Reply) : State :=
  r.state.setCp
    { r.state.cp with result := { kind := kind, item := item, code := r.code, value := r.value } }

/-- R204, R205: a taken transaction that carries a request. -/
def transact (kind : Byte) (item : Word16) (carry : State → Reply) (s : State) : State :=
  storeResult kind item (carry (shiftOut s))

/-- R211: an action's transaction. -/
def action (item : Word16) (carry : State → Reply) (s : State) : State :=
  transact kindAction item carry s

/-! ## Writes (R179, R208, R218) -/

/-- A value in a range. -/
def inRange (low high n : Nat) : Bool := low ≤ n && n ≤ high

/-- R208: replace one field of a rule of the table. -/
def putRule (c : ConfigItems) (index field n : Nat) : Option ConfigItems :=
  match c.rules[index]? with
  | none => none
  | some r =>
    match field with
    | 0 => if n ≤ 576 then some { c with rules := c.rules.set index { r with limit := n } } else none
    | 1 =>
      if h : n < 8 then some { c with rules := c.rules.set index { r with owner := ⟨n, h⟩ } }
      else none
    | _ =>
      match n with
      | 0 => some { c with rules := c.rules.set index { r with kind := .full } }
      | 1 => some { c with rules := c.rules.set index { r with kind := .fill } }
      | _ => none

/-- R208: replace a configuration item by a value in its range. -/
def putConfig (c : ConfigItems) (item n : Nat) : Option ConfigItems :=
  match item with
  | 0 => if n ≤ 1 then some { c with mode525 := n == 1 } else none
  | 1 => if n ≤ 1 then some { c with large := n == 1 } else none
  | 2 => if inRange 1 8 n then some { c with ruleCount := n } else none
  | 3 => if inRange 1 15 n then some { c with voteWindow := n } else none
  | 4 => if inRange 2 16 n then some { c with haloWait := n } else none
  | 5 => if n ≤ 63 then some { c with stillLimit := n } else none
  | 6 => if n ≤ 255 then some { c with combLimit := n } else none
  | 7 => if inRange 1 8 n then some { c with loopGain := n } else none
  | 8 => if n ≤ 1023 then some { c with fillY := n } else none
  | 9 => if n ≤ 1023 then some { c with fillCb := n } else none
  | 10 => if n ≤ 1023 then some { c with fillCr := n } else none
  | i => if 16 ≤ i then putRule c ((i - 16) / 3) ((i - 16) % 3) n else none

/-- The item number is that of a configuration item (R208). -/
def isConfigItem (item : Nat) : Bool := item ≤ 0x0A || (0x10 ≤ item && item ≤ 0x27)

/-- R206, R208: a WRITE to a configuration item. -/
def writeConfig (item : Word16) (value : Word32) (s : State) : Reply :=
  if isConfigItem item.toNat then
    if s.cp.lock then refuse .refusedLocked s
    else
      match putConfig s.cp.config item.toNat value.toNat with
      | some c => accept (s.setCp { s.cp with config := c })
      | none => refuse .badValue s
  else refuse .badValue s

/-- R179: a 32-bit value that is a coefficient. -/
def coefficientOf (value : Word32) : Option Coeff :=
  if -2048 ≤ value.toInt ∧ value.toInt ≤ 2047 then some (BitVec.ofInt 12 value.toInt) else none

/-- R179: a WRITE to a Staging Page entry. -/
def writeStaging (item : Word16) (value : Word32) (s : State) : Reply :=
  if 0x40 ≤ item.toNat ∧ item.toNat ≤ 0x7F then
    match coefficientOf value with
    | some v => accept (s.setSc { s.sc with staging := s.sc.staging.set (item.toNat - 0x40) v })
    | none => refuse .badValue s
  else refuse .badValue s

/-- R218: a WRITE to the event enables. -/
def writeEnables (value : Word32) (s : State) : Reply :=
  if value.toNat < 4096 then accept (s.setCp { s.cp with enables := value.setWidth 12 })
  else refuse .badValue s

/-- The item number of the event enables (R207). -/
def enablesItem : Word16 := 0x205

/-! ## Actions (R211 to R219) -/

/-- R4, R205: the value that reports a table fault. -/
def faultValue (f : Nat × Nat) : Word32 := BitVec.ofNat 32 (f.1 * 256 + f.2)

/-- R212: the acts of an accepted START, in order. -/
def startStation (s : State) : State :=
  let locked :=
    s.setCp
      { s.cp with
        lock := true
        digest := configDigest s.cp.config
        ownership := deriveOwnership s.cp.config s.cp.station }
  let listening := enterListening locked
  let monitored := listening.setPli { listening.pli with idleMonitor := true }
  let freed := freeUnheld monitored
  freed.setLb
    { freed.lb with newestBegun := none, lastEnded := none, lastBegun := none, lastRequested := none }

/-- R212: START. -/
def startAction (s : State) : Reply :=
  if s.cu.membership = .offline ∨ s.cu.membership = .stopped then
    match tableFault s.cp.config s.cp.station with
    | some f => { code := .badTable, value := faultValue f, state := s }
    | none =>
      if bankReady s .bankA then accept (startStation s) else refuse .noCoefficients s
  else refuse .refusedState s

/-- R213: STOP. -/
def stopAction (s : State) : Reply :=
  match s.cu.membership with
  | .member | .listening | .joining | .isolated => accept (stopStation s)
  | _ => refuse .refusedState s

/-- R120, R128, R187, R211: the state test and the request of an action that queues a parcel. -/
def queueAction (q : Queued) (s : State) : Reply :=
  if s.cu.membership = .member then
    match urgentAnswer q s with
    | .accepted => accept (pushUrgent q s)
    | _ => refuse .queueFull s
  else refuse .refusedState s

/-- R120: the value test of FORCE fails. -/
def badForce (code : ForceCode) (phase : Nat) : Bool :=
  match code with
  | .film22 => 1 < phase
  | .film32 => 4 < phase
  | _ => false

/-- R120: FORCE. -/
def forceAction (value : Word32) (s : State) : Reply :=
  match argForce value with
  | none => refuse .badValue s
  | some (code, phase) =>
    if badForce code phase then refuse .badValue s else queueAction (.force code phase) s

/-- R128: the value test of LOOP fails. -/
def badLoop (code : LoopCode) (v : Nat) : Bool :=
  match code with
  | .held => 1023 < v
  | _ => false

/-- R128: LOOP. -/
def loopAction (value : Word32) (s : State) : Reply :=
  match argLoop value with
  | none => refuse .badValue s
  | some (code, v) => if badLoop code v then refuse .badValue s else queueAction (.loopSet code v) s

/-- R187 tests 4 to 6: the selection of a bank, in MEMBER with a last closed field. -/
def selectFrom (b : BankName) (last : FieldNo) (s : State) : Reply :=
  if s.cu.agreed.bank.pending.isSome || s.pli.urgent.any isSelect then refuse .busy s
  else
    match (bankOf s b).state with
    | .writing => refuse .busy s
    | .empty | .loading => refuse .noCoefficients s
    | .ready => queueAction (.bankSelect b (bankOf s b).digest (last + 4)) s

/-- R187: SELECT_BANK. -/
def selectAction (value : Word32) (s : State) : Reply :=
  match argBank value.toNat with
  | none => refuse .badValue s
  | some b =>
    if s.cu.membership = .member then
      match s.cu.agreed.lastClosed with
      | none => refuse .refusedState s
      | some last => selectFrom b last s
    else refuse .refusedState s

/-- R180: the acts of an accepted COMMIT_PAGE. -/
def beginCommit (b : BankName) (t : TableName) (page : Nat) (s : State) : State :=
  let writing := s.setBank b { bankOf s b with state := .writing }
  writing.setSc
    { writing.sc with commit := some { bank := b, table := t, page := page, coeffs := s.sc.staging } }

/-- R180: COMMIT_PAGE. -/
def commitAction (value : Word32) (s : State) : Reply :=
  match argCommit value with
  | none => refuse .badValue s
  | some (b, t, page) =>
    if s.sc.commit.isSome then refuse .busy s
    else if bankProtected s b then refuse .bankActive s
    else accept (beginCommit b t page s)

/-- R183: CLEAR_BANK. -/
def clearAction (value : Word32) (s : State) : Reply :=
  match argBank value.toNat with
  | none => refuse .badValue s
  | some b =>
    if commitOn s b then refuse .busy s
    else if bankProtected s b then refuse .bankActive s
    else accept (s.setBank b Bank.cleared)

/-- R219: EVENT_CLEAR. -/
def eventClearAction (value : Word32) (s : State) : Reply :=
  if value.toNat < 4096 then
    accept (s.setCp { s.cp with events := s.cp.events &&& ~~~(value.setWidth 12) })
  else refuse .badValue s

/-- R216: SEGMENT_MARK. -/
def segmentAction (s : State) : Reply := accept (s.setTotals (rollSegments s.cp.totals))

/-- R216: PROGRAMME_CLEAR. -/
def clearTotalsAction (s : State) : Reply := accept (s.setTotals Totals.zero)

/-! ## Any taken transaction (R205, R206) -/

/-- R206: a READ of an item. The read of the time left draws a free value (log entry 10). -/
def readRequestItem (item : Word16) (s : State) : Reply :=
  match readItem s item.toNat with
  | none => refuse .badValue s
  | some v =>
    { code := .ok, value := v, state := if item.toNat = timeLeftItem then s.drawn else s }

/-- R206: a WRITE to an item. -/
def writeRequestItem (item : Word16) (value : Word32) (s : State) : Reply :=
  if isConfigItem item.toNat then writeConfig item value s
  else if 0x40 ≤ item.toNat ∧ item.toNat ≤ 0x7F then writeStaging item value s
  else if item = enablesItem then writeEnables value s
  else refuse .badValue s

/-- R206, R211: an ACTION other than RESET. -/
def actionRequestItem (item : Word16) (value : Word32) (s : State) : Reply :=
  match item.toNat with
  | 0x100 => startAction s
  | 0x101 => stopAction s
  | 0x103 => forceAction value s
  | 0x104 => loopAction value s
  | 0x105 => selectAction value s
  | 0x106 => commitAction value s
  | 0x107 => clearAction value s
  | 0x108 => eventClearAction value s
  | 0x109 => segmentAction s
  | 0x10A => clearTotalsAction s
  | _ => refuse .badValue s

/-- R206 tests 1 to 5: carry out a request of any kind but 0. -/
def carryOut (bytes : Vector Byte 8) (r : Request) (s : State) : Reply :=
  if !checkHolds bytes then refuse .badValue s
  else if r.kind = kindRead then readRequestItem r.item s
  else if r.kind = kindWrite then writeRequestItem r.item r.value s
  else if r.kind = kindAction then actionRequestItem r.item r.value s
  else refuse .badValue s

/-! ## Reset (R214) -/

/-- R214: every block at its reset values, the station number read from the straps. The count of
free values goes on. -/
def resetStation (straps : Station) (s : State) : State :=
  { State.afterReset straps with freeCount := s.freeCount }

/-- R204, R214: the RESET action. Its own transaction shifts out the previous result as it stood; the
reset made when it is taken leaves the result NONE (R205). -/
def resetTaken (straps : Station) (s : State) : State :=
  let t := resetStation straps s
  t.setCp { t.cp with dataOut := resultBytes s.cp.result }

/-- R206: a taken transaction, by its bytes. A RESET carried here reads the straps unchanged (log
entry 6). -/
def takeTransaction (bytes : Vector Byte 8) (s : State) : State :=
  let r := readRequest bytes
  if r.kind = 0 then shiftOut s
  else if checkHolds bytes ∧ r.kind = kindAction ∧ r.item = 0x102 then resetTaken s.cp.station s
  else transact r.kind r.item (carryOut bytes r) s

/-! ## The commands -/

/-- TRANSACTION_INCOMPLETE (R204): the previous result is shifted out; nothing is taken. -/
def transactionIncompleteEffect (_edges : Nat) (s : State) : State := shiftOut s

/-- TRANSACTION_INCOMPLETE. -/
def execTransactionIncomplete (edges : Nat) (s : State) : Host.Outcome State Fault Refusal :=
  live (transactionIncompleteEffect edges) s

/-- NO_REQUEST (R205). -/
def execNoRequest (s : State) : Host.Outcome State Fault Refusal := live shiftOut s

/-- CONFIG_WRITE (R208). -/
def execConfigWrite (item : Word16) (value : Word32) (s : State) :
    Host.Outcome State Fault Refusal :=
  live (transact kindWrite item (writeConfig item value)) s

/-- STAGING_PAGE_WRITE (R179). -/
def execStagingPageWrite (item : Word16) (value : Word32) (s : State) :
    Host.Outcome State Fault Refusal :=
  live (transact kindWrite item (writeStaging item value)) s

/-- EVENT_ENABLES_WRITE (R218). -/
def execEventEnablesWrite (value : Word32) (s : State) : Host.Outcome State Fault Refusal :=
  live (transact kindWrite enablesItem (writeEnables value)) s

/-- WRITE_OTHER (R206). -/
def execWriteOther (bytes : Vector Byte 8) (s : State) : Host.Outcome State Fault Refusal :=
  live (takeTransaction bytes) s

/-- START (R212). -/
def execStart (_value : Word32) (s : State) : Host.Outcome State Fault Refusal :=
  live (action 0x100 startAction) s

/-- STOP (R213). -/
def execStop (_value : Word32) (s : State) : Host.Outcome State Fault Refusal :=
  live (action 0x101 stopAction) s

/-- RESET (R214). -/
def execReset (_value : Word32) (straps : Station) (s : State) :
    Host.Outcome State Fault Refusal :=
  live (resetTaken straps) s

/-- FORCE (R120). -/
def execForce (value : Word32) (s : State) : Host.Outcome State Fault Refusal :=
  live (action 0x103 (forceAction value)) s

/-- LOOP (R128). -/
def execLoop (value : Word32) (s : State) : Host.Outcome State Fault Refusal :=
  live (action 0x104 (loopAction value)) s

/-- SELECT_BANK (R187). -/
def execSelectBank (value : Word32) (s : State) : Host.Outcome State Fault Refusal :=
  live (action 0x105 (selectAction value)) s

/-- COMMIT_PAGE (R180). -/
def execCommitPage (value : Word32) (s : State) : Host.Outcome State Fault Refusal :=
  live (action 0x106 (commitAction value)) s

/-- CLEAR_BANK (R183). -/
def execClearBank (value : Word32) (s : State) : Host.Outcome State Fault Refusal :=
  live (action 0x107 (clearAction value)) s

/-- EVENT_CLEAR (R219). -/
def execEventClear (value : Word32) (s : State) : Host.Outcome State Fault Refusal :=
  live (action 0x108 (eventClearAction value)) s

/-- SEGMENT_MARK (R216). -/
def execSegmentMark (_value : Word32) (s : State) : Host.Outcome State Fault Refusal :=
  live (action 0x109 segmentAction) s

/-- PROGRAMME_CLEAR (R216). -/
def execProgrammeClear (_value : Word32) (s : State) : Host.Outcome State Fault Refusal :=
  live (action 0x10A clearTotalsAction) s

/-- POWER_ON_RESET (R214): the release of the reset pin. -/
def execPowerOnReset (straps : Station) (s : State) : Host.Outcome State Fault Refusal :=
  .next ((resetStation straps s).setPending s.pending)

/-- RESET_PIN_DRIVEN_LOW (R214): the station stops driving the line, its parcel is cut short, and
no transaction is taken while the pin is held. -/
def holdReset (s : State) : State :=
  let quiet :=
    s.setPli { s.pli with attached := false, tx := none, ackDrive := .none }
  quiet.setCp { quiet.cp with resetHeld := true }

/-- RESET_PIN_DRIVEN_LOW. -/
def execResetPinDrivenLow (s : State) : Host.Outcome State Fault Refusal := live holdReset s

end Sys2Proof.Machine
end

