-- ==== Sys2Proof/Machine/Takes.lean ====
section
/-! DEFINITION. The takes (R50 and the owner chapters): TAKE_CLOSE, TAKE_LEAVE, TAKE_SNAPSHOT,
TAKE_JOIN, TAKE_FORCE, TAKE_LOOP_SET, TAKE_BANK_SELECT, TAKE_REPORT, MISSED_ROUND_REMOVAL,
TAKE_HALO. -/

namespace Sys2Proof.Machine

/-! ## Closes, forces, loops, bank selections (R96, R119, R127, R188) -/

/-- TAKE_CLOSE (R96). -/
def execTakeClose (sender : Station) (epoch : Epoch) (field : FieldNo) (s : State) :
    Host.Outcome State Fault Refusal :=
  live (memberTake { sender := sender, epoch := epoch, content := .close field }) s

/-- TAKE_FORCE (R119). -/
def execTakeForce (sender : Station) (epoch : Epoch) (code : ForceCode) (phase : Nat) (s : State) :
    Host.Outcome State Fault Refusal :=
  live (memberTake { sender := sender, epoch := epoch, content := .force code phase }) s

/-- TAKE_LOOP_SET (R127). -/
def execTakeLoopSet (sender : Station) (epoch : Epoch) (code : LoopCode) (value : Nat)
    (s : State) : Host.Outcome State Fault Refusal :=
  live (memberTake { sender := sender, epoch := epoch, content := .loopSet code value }) s

/-- TAKE_BANK_SELECT (R188). -/
def execTakeBankSelect (sender : Station) (epoch : Epoch) (bank : BankCode) (digest : Digest)
    (target : FieldNo) (s : State) : Host.Outcome State Fault Refusal :=
  live
    (memberTake { sender := sender, epoch := epoch, content := .bankSelect bank digest target }) s

/-! ## LEAVE (R78, R80) -/

/-- R78, R80: the effect of a LEAVE taken. -/
def leaveTaken (p : Parcel) (own : Bool) (s : State) : State :=
  if s.cu.membership.applies then
    if own then flushStopped (applyTake p.sender p.content s)
    else applyTakeOwn p.sender p.content s
  else recordHeard own p.sender true s

/-- The take of a LEAVE. -/
def takeLeaveEffect (sender : Station) (epoch : Epoch) (s : State) : State :=
  let p : Parcel := { sender := sender, epoch := epoch, content := .leave }
  takeParcel p (leaveTaken p) s

/-- TAKE_LEAVE (R80). -/
def execTakeLeave (sender : Station) (epoch : Epoch) (s : State) :
    Host.Outcome State Fault Refusal :=
  live (takeLeaveEffect sender epoch) s

/-! ## SNAPSHOT (R72, R73) -/

/-- R73 step 3: a bank is READY here with a digest. -/
def bankMatches (s : State) (b : BankName) (d : Digest) : Bool :=
  bankReady s b && (bankOf s b).digest == d

/-- R73 step 3: both bank tests. -/
def banksPass (s : State) (r : BankRecord) : Bool :=
  bankMatches s r.active r.digest &&
    (match r.pending with
      | none => true
      | some p => bankMatches s p.bank p.digest)

/-- R73 step 4: the decision. -/
def decideAdoption (s : State) : State :=
  if banksPass s s.cu.agreed.bank then (s.setMembership .member).raise .membershipChanged
  else enterLeaving ((s.raise .bankMismatch).raise .membershipChanged)

/-- R73, R165: adoption of a carried state. The SNAPSHOT wait count stays as it stands (DEDUCED, log
entry 35). -/
def adopt (sender : Station) (joiner : Station) (carried : AgreedState) (s : State) : State :=
  let agreed := (runTake s.cp.config sender (.snapshot joiner carried) carried).agreed
  resetDirections (decideAdoption (withdrawUrgent isJoin (s.setAgreed agreed)))

/-- R73: the addressee adopts. -/
def adopts (joiner : Station) (carried : AgreedState) (s : State) : Bool :=
  s.cu.membership == .joining && joiner == s.cp.station && isJoining carried s.cp.station

/-- R72, R73: the effect of a SNAPSHOT taken. -/
def snapshotTaken (p : Parcel) (joiner : Station) (carried : AgreedState) (own : Bool) (s : State) :
    State :=
  if s.cu.membership.applies then applyTakeOwn p.sender p.content s
  else
    let recorded := recordHeard own p.sender true s
    if adopts joiner carried recorded then adopt p.sender joiner carried recorded else recorded

/-- The take of a SNAPSHOT. -/
def takeSnapshotEffect (sender : Station) (epoch : Epoch) (joiner : Station)
    (carried : AgreedState) (s : State) : State :=
  let p : Parcel := { sender := sender, epoch := epoch, content := .snapshot joiner carried }
  takeParcel p (snapshotTaken p joiner carried) s

/-- TAKE_SNAPSHOT (R72). -/
def execTakeSnapshot (sender : Station) (epoch : Epoch) (joiner : Station) (carried : AgreedState)
    (s : State) : Host.Outcome State Fault Refusal :=
  live (takeSnapshotEffect sender epoch joiner carried) s

/-! ## JOIN (R68 to R70, R78) -/

/-- R67, R68, R165: the station founds a roster. R74 keeps the SNAPSHOT wait count at 4 until the JOIN
is taken, and R68 makes it 0 on entry to JOINING alone: at a founding take in JOINING it stays as it
stands (DESIGN CHOICE, log entry 50). -/
def found (s : State) : State :=
  resetDirections
    (((s.setAgreed (foundingState s.cp.station s.sc.bankA.digest)).setMembership .member).raise
      .membershipChanged)

/-- R68: the take of the station's own JOIN in LISTENING or JOINING. -/
def ownJoinTaken (founding : Bool) (s : State) : State :=
  if founding && !s.cu.foundingBar then
    if bankReady s .bankA then found s else flushStopped (s.raise .bankMismatch)
  else enterJoining s

/-- R78: a JOIN with this station's number, taken in MEMBER. -/
def joinReplacesOwn (sender : Station) (s : State) : State :=
  if sender = s.cp.station ∧ s.cu.membership = .member then enterJoining s else s

/-- R65, R68 to R70, R78: the effect of a JOIN taken. -/
def joinTaken (p : Parcel) (founding own : Bool) (s : State) : State :=
  match s.cu.membership with
  | .member | .leaving =>
    sendSnapshot p.sender (joinReplacesOwn p.sender (applyTakeOwn p.sender p.content s))
  | .listening | .joining =>
    if own then ownJoinTaken founding s else recordHeard own p.sender founding s
  | _ => s

/-- The take of a JOIN. -/
def takeJoinEffect (sender : Station) (epoch : Epoch) (digest : Digest) (founding : Bool)
    (words : List Word16) (s : State) : State :=
  let p : Parcel := { sender := sender, epoch := epoch, content := .join digest founding words }
  takeParcel p (joinTaken p founding) s

/-- TAKE_JOIN (R69). -/
def execTakeJoin (sender : Station) (epoch : Epoch) (digest : Digest) (founding : Bool)
    (words : List Word16) (s : State) : Host.Outcome State Fault Refusal :=
  live (takeJoinEffect sender epoch digest founding words) s

/-! ## REPORT (R89) -/

/-- R89: the effect of a REPORT taken: halo credit, then the round. -/
def reportTaken (p : Parcel) (up down : Nat) (own : Bool) (s : State) : State :=
  if s.cu.membership.applies then
    applyTakeOwn p.sender p.content (returnCredit p.sender up down s)
  else recordHeard own p.sender true s

/-- The take of a REPORT. -/
def takeReportEffect (sender : Station) (epoch : Epoch) (field : FieldNo)
    (figures : Option Figures) (up down : Nat) (s : State) : State :=
  let p : Parcel := { sender := sender, epoch := epoch, content := .report field figures up down }
  takeParcel p (reportTaken p up down) s

/-- TAKE_REPORT (R89). -/
def execTakeReport (sender : Station) (epoch : Epoch) (field : FieldNo)
    (figures : Option Figures) (up down : Nat) (s : State) :
    Host.Outcome State Fault Refusal :=
  live (takeReportEffect sender epoch field figures up down) s

/-! ## Removal (R77) -/

/-- R77, R78: the entries whose missed-round count has reached 3 are removed. -/
def missedRemoval (s : State) : State :=
  if s.cu.membership.applies then
    let run := runRemoval s.cp.config s.cu.agreed
    checkOwnEntry run.touched (applyRun run s)
  else s

/-- MISSED_ROUND_REMOVAL (R77). -/
def execMissedRoundRemoval (s : State) : Host.Outcome State Fault Refusal := live missedRemoval s

/-! ## HALO (R154) -/

/-- R154: the effect of a HALO taken, at the sender, at the addressee and elsewhere. -/
def haloTaken (sender : Station) (h : HaloParcel) (own : Bool) (s : State) : State :=
  let recorded := recordHeard own sender true s
  let counted := if own then ownHaloTaken h recorded else recorded
  if h.addressee = counted.cp.station then receiveHalo sender h counted else counted

/-- The take of a HALO. -/
def takeHaloEffect (sender : Station) (epoch : Epoch) (h : HaloParcel) (s : State) : State :=
  takeParcel { sender := sender, epoch := epoch, content := .halo h } (haloTaken sender h) s

/-- TAKE_HALO (R154). -/
def execTakeHalo (sender : Station) (epoch : Epoch) (parcel : HaloParcel) (s : State) :
    Host.Outcome State Fault Refusal :=
  live (takeHaloEffect sender epoch parcel) s

end Sys2Proof.Machine
end

