-- ==== Sys2Proof/Machine/Dispatch.lean ====
section
/-! DEFINITION. One arm for each command, each one call of its meaning. -/

namespace Sys2Proof.Machine

def exec (i : Instr) (s : State) : Host.Outcome State Fault Refusal :=
  match i with
  | .powerOnReset straps => Sys2Proof.Machine.execPowerOnReset straps s
  | .fieldBegin words => Sys2Proof.Machine.execFieldBegin words s
  | .lineRecord words => Sys2Proof.Machine.execLineRecord words s
  | .fieldEnd words => Sys2Proof.Machine.execFieldEnd words s
  | .listenPeriodEnd => Sys2Proof.Machine.execListenPeriodEnd s
  | .snapshotWaitEnd => Sys2Proof.Machine.execSnapshotWaitEnd s
  | .isolationWaitEnd => Sys2Proof.Machine.execIsolationWaitEnd s
  | .analysisHandover => Sys2Proof.Machine.execAnalysisHandover s
  | .voteTimerExpiry field => Sys2Proof.Machine.execVoteTimerExpiry field s
  | .closeRequeue => Sys2Proof.Machine.execCloseRequeue s
  | .leaveRequeue => Sys2Proof.Machine.execLeaveRequeue s
  | .idlePoint others => Sys2Proof.Machine.execIdlePoint others s
  | .idleMonitorExpiry => Sys2Proof.Machine.execIdleMonitorExpiry s
  | .ownTransmissionNotSeen => Sys2Proof.Machine.execOwnTransmissionNotSeen s
  | .parcelCutShort => Sys2Proof.Machine.execParcelCutShort s
  | .parcelVoid reading => Sys2Proof.Machine.execParcelVoid reading s
  | .parcelDiscard => Sys2Proof.Machine.execParcelDiscard s
  | .isolationNotice => Sys2Proof.Machine.execIsolationNotice s
  | .takeClose sender epoch field => Sys2Proof.Machine.execTakeClose sender epoch field s
  | .takeLeave sender epoch => Sys2Proof.Machine.execTakeLeave sender epoch s
  | .takeSnapshot sender epoch joiner carried => Sys2Proof.Machine.execTakeSnapshot sender epoch joiner carried s
  | .takeJoin sender epoch digest founding words => Sys2Proof.Machine.execTakeJoin sender epoch digest founding words s
  | .takeForce sender epoch code phase => Sys2Proof.Machine.execTakeForce sender epoch code phase s
  | .takeLoopSet sender epoch code value => Sys2Proof.Machine.execTakeLoopSet sender epoch code value s
  | .takeBankSelect sender epoch bank digest target => Sys2Proof.Machine.execTakeBankSelect sender epoch bank digest target s
  | .takeReport sender epoch field figures up down => Sys2Proof.Machine.execTakeReport sender epoch field figures up down s
  | .missedRoundRemoval => Sys2Proof.Machine.execMissedRoundRemoval s
  | .takeHalo sender epoch parcel => Sys2Proof.Machine.execTakeHalo sender epoch parcel s
  | .pendingSetOffer => Sys2Proof.Machine.execPendingSetOffer s
  | .buildStart => Sys2Proof.Machine.execBuildStart s
  | .buildLine => Sys2Proof.Machine.execBuildLine s
  | .haloWaitExpiry => Sys2Proof.Machine.execHaloWaitExpiry s
  | .rowWrite => Sys2Proof.Machine.execRowWrite s
  | .commitComplete => Sys2Proof.Machine.execCommitComplete s
  | .outputStart frame => Sys2Proof.Machine.execOutputStart frame s
  | .rowEmit => Sys2Proof.Machine.execRowEmit s
  | .transactionIncomplete edges => Sys2Proof.Machine.execTransactionIncomplete edges s
  | .noRequest => Sys2Proof.Machine.execNoRequest s
  | .configWrite item value => Sys2Proof.Machine.execConfigWrite item value s
  | .stagingPageWrite item value => Sys2Proof.Machine.execStagingPageWrite item value s
  | .eventEnablesWrite value => Sys2Proof.Machine.execEventEnablesWrite value s
  | .writeOther bytes => Sys2Proof.Machine.execWriteOther bytes s
  | .start value => Sys2Proof.Machine.execStart value s
  | .stop value => Sys2Proof.Machine.execStop value s
  | .reset value straps => Sys2Proof.Machine.execReset value straps s
  | .force value => Sys2Proof.Machine.execForce value s
  | .loop value => Sys2Proof.Machine.execLoop value s
  | .selectBank value => Sys2Proof.Machine.execSelectBank value s
  | .commitPage value => Sys2Proof.Machine.execCommitPage value s
  | .clearBank value => Sys2Proof.Machine.execClearBank value s
  | .eventClear value => Sys2Proof.Machine.execEventClear value s
  | .segmentMark value => Sys2Proof.Machine.execSegmentMark value s
  | .programmeClear value => Sys2Proof.Machine.execProgrammeClear value s
  | .resetPinDrivenLow => Sys2Proof.Machine.execResetPinDrivenLow s

end Sys2Proof.Machine
end

