-- ==== Sys2Proof/Safety.lean ====
section
/-! DEFINITION. What every reachable state keeps, as the rules state it, and the terms and the rules of
functions that the statements are written in. -/

namespace Sys2Proof.Machine

/-- R37, R38, R54, R55, R52: the Peer Line Interface. A station drives a parcel only while attached,
is attached only while it runs, and its queues and counts stay within their sizes. -/
structure LineSafe (s : State) : Prop where
  attachedRuns : s.pli.attached = true → s.cu.membership.running = true
  sendsAttached : s.pli.tx.isSome = true → s.pli.attached = true
  urgentFits : s.pli.urgent.length ≤ 8
  bulkFits : s.pli.bulk.length ≤ 16
  discardsFit : s.pli.urgentDiscards ≤ 2

/-- R150, R158: a direction's credit and release count stay within their ranges, and it has two
receive slots. -/
structure DirectionSafe (d : Direction) : Prop where
  creditFits : d.credit ≤ 2
  releaseFits : d.release ≤ 3
  twoSlots : d.slots.length = 2

/-- R150: both directions. -/
structure HaloSafe (s : State) : Prop where
  upSafe : DirectionSafe s.hx.up
  downSafe : DirectionSafe s.hx.down

/-- R209, R212: a station that has been started has its configuration locked. -/
def LockSafe (s : State) : Prop := s.cu.membership ≠ .offline → s.cp.lock = true

/-- R26, R84, R130: the Field Store has five slots, and the lists of the Field Analyser and the Line
Builder stay within their sizes. -/
structure StoreSafe (s : State) : Prop where
  fiveSlots : s.fs.slots.length = 5
  analysesFit : s.fa.pending.length ≤ 16
  framesFit : s.lb.frames.length ≤ 3
  decisionsFit : s.lb.decisions.length ≤ 8

/-! ## Terms of the statements -/

/-- R214: the reset pin is not held low, so that commands act. -/
def Live (s : State) : Prop := s.cp.resetHeld = false

/-- R47: MEMBER or LEAVING. -/
def Applies (s : State) : Prop := s.cu.membership = .member ∨ s.cu.membership = .leaving

/-- R47 case 1: a parcel of this sender and sender epoch is neither stale nor foreign here. -/
def Known (s : State) (sender : Station) (epoch : Epoch) : Prop :=
  epoch = s.cu.agreed.epoch ∧ ∃ e ∈ s.cu.agreed.roster, e.station = sender

/-- The command by which a parcel is taken. -/
def takeCommand (p : Parcel) : Instr :=
  match p.content with
  | .close f => .takeClose p.sender p.epoch f
  | .leave => .takeLeave p.sender p.epoch
  | .snapshot j a => .takeSnapshot p.sender p.epoch j a
  | .join d f ws => .takeJoin p.sender p.epoch d f ws
  | .force c ph => .takeForce p.sender p.epoch c ph
  | .loopSet c v => .takeLoopSet p.sender p.epoch c v
  | .bankSelect b d t => .takeBankSelect p.sender p.epoch b d t
  | .report f g u d => .takeReport p.sender p.epoch f g u d
  | .halo h => .takeHalo p.sender p.epoch h

/-- R208: the values of a configuration item, least and greatest. -/
def configRange (item : Nat) : Nat × Nat :=
  match item with
  | 0 | 1 => (0, 1)
  | 2 => (1, 8)
  | 3 => (1, 15)
  | 4 => (2, 16)
  | 5 => (0, 63)
  | 6 => (0, 255)
  | 7 => (1, 8)
  | 8 | 9 | 10 => (0, 1023)
  | n => if n % 3 = 1 then (0, 576) else if n % 3 = 2 then (0, 7) else (0, 1)

/-- A transaction's part of the state: but for the previous result and the bytes shifted out, which
hold what `t` holds, `t` is `u`. -/
def Transacted (u t : State) : Prop :=
  t = u.setCp { u.cp with result := t.cp.result, dataOut := t.cp.dataOut }

/-- The answer of a taken transaction: its kind, its item, a result code and a value (R205). -/
def Answered (t : State) (kind : Byte) (item : Word16) (code : ResultCode) (value : Word32) : Prop :=
  t.cp.result = { kind := kind, item := item, code := code, value := value }

/-- R178: a bank is protected. -/
def ProtectedBank (s : State) (b : BankName) : Prop :=
  (Applies s ∧
      (s.cu.agreed.bank.active = b ∨ ∃ p, s.cu.agreed.bank.pending = some p ∧ p.bank = b)) ∨
    (∃ r, s.sc.scaling = some r ∧ r.bank = some b) ∨
    (∃ o, s.sc.outgoing = some o ∧ o.bank = b) ∨
    ∃ d f, Queued.bankSelect b d f ∈ s.pli.urgent

/-! ## Terms of the statements about takes -/

/-- R46, R50: the Peer Line Interface after it takes a parcel: the station drove recessive, and its
own parcel leaves the head of its queue. -/
def lineAfterTake (s : State) (p : Parcel) : LineInterface :=
  match s.pli.tx with
  | none => { s.pli with ackDrive := .recessive }
  | some x =>
    if x.parcel = p then
      if x.bulk then
        { s.pli with ackDrive := .recessive, tx := none, bulk := s.pli.bulk.drop 1, bulkAttempts := 0 }
      else
        { s.pli with
          ackDrive := .recessive, tx := none, urgent := s.pli.urgent.drop 1, urgentAttempts := 0
          urgentDiscards := 0 }
    else { s.pli with ackDrive := .recessive }

/-- The parcel is not this station's own parcel in transmission (R65). -/
def NotOwn (s : State) (p : Parcel) : Prop := ∀ x, s.pli.tx = some x → x.parcel ≠ p

/-- The parcel is this station's own urgent parcel in transmission (R65). -/
def OwnUrgent (s : State) (p : Parcel) : Prop :=
  ∃ x, s.pli.tx = some x ∧ x.parcel = p ∧ x.bulk = false

/-- R47 case 2: the station's own configuration, digest and words. -/
def SameConfiguration (s : State) (digest : Digest) (words : List Word16) : Prop :=
  digest = s.cp.digest ∧ words = configWords s.cp.config

/-- R165: neither side's neighbour is this station. -/
def NotNeighbour (s : State) (n : Station) : Prop :=
  neighbourOf s .upper ≠ some n ∧ neighbourOf s .lower ≠ some n

/-- R177, R179, R180: the tables and the staging page have their sizes, a commit is one page, and
a READY bank has had every page written. -/
structure CoefficientSafe (s : State) : Prop where
  stagingSize : s.sc.staging.length = 64
  tableSizes : ∀ b, (bankOf s b).vertical.length = 512 ∧ (bankOf s b).horizontal.length = 512
  commitSize : ∀ c, s.sc.commit = some c → c.page ≤ 7 ∧ c.coeffs.length = 64
  readyWhole : ∀ b, (bankOf s b).state = .ready → (bankOf s b).pages = BitVec.allOnes 16

/-- R63, R94, R95: vote timers, held expiries and owed CLOSEs stand in MEMBER alone. -/
structure TimersSafe (s : State) : Prop where
  membersOnly : s.cu.membership ≠ .member →
    s.cu.timers = [] ∧ s.cu.heldExpiries = [] ∧ s.cu.owedCloses = []

/-- R39, R40, R44: what is driven on the line is the parcel in transmission, with its own check. -/
structure SendSafe (s : State) : Prop where
  drivesItsParcel : ∀ x, s.pli.tx = some x → x.sent = drivenParts x.parcel

/-! ## Terms of the statements about Halo Exchange -/

/-- R165, R166: a direction record at its reset values, with the set counts it had. -/
def AtRest (lines : Nat) (before after : Direction) : Prop :=
  after =
    { credit := 2, pending := none, outbound := []
      slots :=
        List.replicate 2
          { state := .free, frame := none, received := List.replicate lines none }
      release := 0, letGo := none, setsSent := before.setsSent
      setsSuperseded := before.setsSuperseded, setsLost := before.setsLost }

/-- R161: the frames of a direction's IN_USE slots, in slot order. -/
def usedFrames (d : Direction) : List FieldNo :=
  d.slots.filterMap fun sl => if sl.state = .inUse then sl.frame else none

/-- R161: the frames, not newer than k, of a direction's slots that are not IN_USE, in slot order. -/
def passedFrames (k : FieldNo) (d : Direction) : List FieldNo :=
  d.slots.filterMap fun sl =>
    if sl.state = .inUse then none else sl.frame.filter fun f => !newer f k

/-- R161: the frames older than n of a direction's slots, in slot order. -/
def olderFrames (n : FieldNo) (d : Direction) : List FieldNo :=
  d.slots.filterMap fun sl => sl.frame.filter fun f => newer n f

/-- R161: a receive slot that has been released. -/
def emptied (sl : ReceiveSlot) : ReceiveSlot :=
  { state := .free, frame := none, received := List.replicate sl.received.length none }

/-- R158, R161: a direction before and after the slots holding the frames `gone`, in slot order, are
released: its release count and its let-go frame follow them. -/
def LetGo (gone : List FieldNo) (d d' : Direction) : Prop :=
  (gone = [] → d'.release = d.release) ∧
  (gone ≠ [] → d'.release = min 3 (d.release + gone.length)) ∧
  d'.letGo = gone.foldl (fun l f => if newerThan f l = true then some f else l) d.letGo

/-- R153, R156, R158, R161: a direction before and after the output start notice for k, at which the
slots holding the frames `gone`, picked by `picked`, are released. -/
def Noticed (k : FieldNo) (gone : List FieldNo) (picked : ReceiveSlot → Bool)
    (d d' : Direction) : Prop :=
  d'.outbound = d.outbound.filter (fun r => !newer k r.frame) ∧
  d'.credit =
    min 2 (d.credit + (d.outbound.filter fun r => newer k r.frame && r.taken == 0).length) ∧
  (d.pending = none → d'.pending = none ∧ d'.setsSuperseded = d.setsSuperseded) ∧
  (∀ set, d.pending = some set →
    (newer k set.frame = true →
      d'.pending = none ∧ d'.setsSuperseded = d.setsSuperseded + 1) ∧
    (newer k set.frame = false →
      d'.pending = some set ∧ d'.setsSuperseded = d.setsSuperseded)) ∧
  d'.slots = d.slots.map (fun sl => if picked sl = true then emptied sl else sl) ∧
  LetGo gone d d' ∧ d'.setsSent = d.setsSent ∧ d'.setsLost = d.setsLost

/-- A direction before and after an event that changes its slots and what it has let go alone. -/
def OnlySlots (d d' : Direction) : Prop :=
  d' = { d with slots := d'.slots, release := d'.release, letGo := d'.letGo }

/-- R158, R161: Halo Exchange before and after the build of frame n begins: every slot of an older
frame is released, and a slot holding n is IN_USE. -/
def SlotsBegun (n : FieldNo) (d d' : Direction) : Prop :=
  OnlySlots d d' ∧ LetGo (olderFrames n d) d d' ∧
  d'.slots =
    d.slots.map (fun sl =>
      if sl.frame.any (fun f => newer n f) = true then emptied sl
      else if sl.frame = some n then { sl with state := .inUse } else sl)

/-- R162: the record of a side at the start of a build of frame n. -/
def SideBegun (s t : State) (n : FieldNo) (agreed : Bool) (side : Side) : Prop :=
  (s.cp.ownership.seam side = .pictureEdge → sideRecord t side = none) ∧
  (s.cp.ownership.seam side = .fillSeam →
    sideRecord t side = some { lines := some (List.replicate (sideSize side) HaloLine.fill) }) ∧
  (∀ m, s.cp.ownership.seam side = .peer m →
    (agreed = false ∨ neighbourCounts s side = false →
      sideRecord t side =
        some { lines := some (List.replicate (sideSize side) HaloLine.clamped) }) ∧
    (agreed = true → neighbourCounts s side = true →
      (∀ sl, slotHolding n (dirOf s side) = some sl →
        ((∀ x ∈ sl.received, x ≠ none) →
          sideRecord t side =
            some { lines := some (sl.received.filterMap fun r => r.map HaloLine.neighbour) }) ∧
        ((∃ x ∈ sl.received, x = none) → sideRecord t side = some { lines := none })) ∧
      (slotHolding n (dirOf s side) = none → sideRecord t side = some { lines := none })))

/-- R161, R162: Halo Exchange before and after a build ends: every IN_USE slot is released, the side
records are dropped and the timer is stopped. -/
def HaloEnded (s t : State) : Prop :=
  t.hx.upperSide = none ∧ t.hx.lowerSide = none ∧ t.hx.timer = false ∧
  ∀ side,
    OnlySlots (dirOf s side) (dirOf t side) ∧
    LetGo (usedFrames (dirOf s side)) (dirOf s side) (dirOf t side) ∧
    (dirOf t side).slots =
      (dirOf s side).slots.map fun sl =>
        if sl.state = .inUse ∧ sl.frame ≠ none then emptied sl else sl

/-- R152, R153: what one offer of a side's pending set does toward neighbour n. -/
def Offered (n : Station) (set : HaloSet) (side : Side) (s t : State) : Prop :=
  ((dirOf s side).credit = 0 ∨ 16 < s.pli.bulk.length + set.lines.length → t = s) ∧
  (1 ≤ (dirOf s side).credit → s.pli.bulk.length + set.lines.length ≤ 16 →
    t =
      (s.setDir side
        { dirOf s side with
          credit := (dirOf s side).credit - 1
          pending := none
          outbound := (dirOf s side).outbound ++
            [{ frame := set.frame, remaining := set.lines.length, taken := 0
               lossCounted := false }]
          setsSent := (dirOf s side).setsSent + 1 }).setPli
        { s.pli with
          bulk := s.pli.bulk ++
            set.lines.map fun l =>
              { addressee := n, frame := set.frame, line := l.1, samples := l.2 } })

/-! ## Terms of the statements about rounds -/

/-- R95: field numbers in order, oldest first. -/
def OldestFirst (fs : List FieldNo) : Prop := fs.Pairwise fun a b => newer b a = true

/-- The numbers lie within one half of the numbering from a base. -/
def WithinHalf (base : FieldNo) (fs : List FieldNo) : Prop := ∀ f ∈ fs, (f - base).toNat < 32768

/-! ## What START derives (sections 1.2, 1.3 and 11.2) -/

/-- The rules of the table are 0 to 7, of which the first one to eight are enabled (R1). -/
def TableOf (c : ConfigItems) (rule : Nat → BandRule) : Prop :=
  1 ≤ c.ruleCount ∧ c.ruleCount ≤ 8 ∧ c.rules.length = 8 ∧ ∀ i, i < 8 → c.rules[i]? = some (rule i)

/-- R1: the frame lines of rule i. -/
def lowerLimit (rule : Nat → BandRule) (i : Nat) : Nat := if i = 0 then 0 else (rule (i - 1)).limit

/-- R4: the five checks of the table, in order, with the index and the number of the first that
fails. -/
def TableFaultRule : Prop :=
  ∀ (c : ConfigItems) (rule : Nat → BandRule) (n : Station), TableOf c rule →
    (∀ i, 1 ≤ i → i < c.ruleCount → (rule i).limit ≤ (rule (i - 1)).limit →
      (∀ j, 1 ≤ j → j < i → (rule (j - 1)).limit < (rule j).limit) →
      tableFault c n = some (i, 1)) ∧
    ((∀ j, 1 ≤ j → j < c.ruleCount → (rule (j - 1)).limit < (rule j).limit) →
      ((rule (c.ruleCount - 1)).limit ≠ (if c.mode525 = true then 480 else 576) →
        tableFault c n = some (c.ruleCount - 1, 2)) ∧
      ((rule (c.ruleCount - 1)).limit = (if c.mode525 = true then 480 else 576) →
        (∀ i, i < c.ruleCount → (rule i).limit < lowerLimit rule i + 8 →
          (∀ j, j < i → lowerLimit rule j + 8 ≤ (rule j).limit) →
          tableFault c n = some (i, 3)) ∧
        ((∀ j, j < c.ruleCount → lowerLimit rule j + 8 ≤ (rule j).limit) →
          (∀ i k, i < c.ruleCount → k < i → (rule k).owner = (rule i).owner →
            (∀ j l, j < i → l < j → (rule l).owner ≠ (rule j).owner) →
            tableFault c n = some (i, 4)) ∧
          ((∀ j l, j < c.ruleCount → l < j → (rule l).owner ≠ (rule j).owner) →
            ((∀ i, i < c.ruleCount → (rule i).owner ≠ n) → tableFault c n = some (8, 5)) ∧
            ((∃ i, i < c.ruleCount ∧ (rule i).owner = n) → tableFault c n = none)))))

/-- R5 to R8, R10: the record derived from a table without a fault, for the owner of rule i. `lines` is
S and `rows` is O. The empty runs of an empty window are DESIGN CHOICE, log entry 45. -/
def OwnershipRule : Prop :=
  ∀ (c : ConfigItems) (rule : Nat → BandRule) (n : Station) (i lines rows : Nat) (o : Ownership),
    TableOf c rule → tableFault c n = none → i < c.ruleCount → (rule i).owner = n →
    lines = (if c.mode525 = true then 480 else 576) →
    rows = (if c.large = true then 2160 else 1080) → o = deriveOwnership c n →
    o.rule = some (i, (rule i).kind) ∧ o.coreLow = lowerLimit rule i ∧
    o.coreHigh = (rule i).limit ∧
    o.firstRow = (o.coreLow * rows + lines - 1) / lines ∧
    o.firstRow + o.rowCount = (o.coreHigh * rows + lines - 1) / lines ∧
    (∀ r, (o.firstRow ≤ r ∧ r < o.firstRow + o.rowCount) ↔
      (r < rows ∧ o.coreLow ≤ r * lines / rows ∧ r * lines / rows < o.coreHigh)) ∧
    ((rule i).kind = .full →
      o.windowLow = (if 2 ≤ o.coreLow then o.coreLow - 2 else 0) ∧
      o.windowHigh = (if o.coreHigh + 2 ≤ lines then o.coreHigh + 2 else lines) ∧
      o.topLines ≠ none ∧ o.bottomLines ≠ none ∧
      (∀ first last l, o.topLines = some (first, last) →
        ((first ≤ l ∧ l ≤ last) ↔ (o.windowLow ≤ 2 * l ∧ 2 * l < o.windowHigh))) ∧
      (∀ first last l, o.bottomLines = some (first, last) →
        ((first ≤ l ∧ l ≤ last) ↔ (o.windowLow ≤ 2 * l + 1 ∧ 2 * l + 1 < o.windowHigh))) ∧
      (i = 0 → o.upper = .pictureEdge) ∧
      (1 ≤ i → (rule (i - 1)).kind = .fill → o.upper = .fillSeam) ∧
      (1 ≤ i → (rule (i - 1)).kind = .full → o.upper = .peer (rule (i - 1)).owner) ∧
      (i + 1 = c.ruleCount → o.lower = .pictureEdge) ∧
      (i + 1 < c.ruleCount → (rule (i + 1)).kind = .fill → o.lower = .fillSeam) ∧
      (i + 1 < c.ruleCount → (rule (i + 1)).kind = .full →
        o.lower = .peer (rule (i + 1)).owner)) ∧
    ((rule i).kind = .fill →
      o.windowLow = o.coreLow ∧ o.windowHigh = o.coreLow ∧ o.topLines = none ∧
      o.bottomLines = none ∧ o.upper = .none ∧ o.lower = .none)

/-- R210: the configuration words in their order, and the config digest over them. -/
def DigestRule : Prop :=
  ∀ c : ConfigItems,
    configWords c =
      ([if c.mode525 = true then 1 else 0, if c.large = true then 1 else 0, c.ruleCount] ++
        ((c.rules.take c.ruleCount).flatMap fun r =>
          [r.limit, r.owner.val, if r.kind = .full then 0 else 1]) ++
        [c.voteWindow, c.haloWait, c.stillLimit, c.combLimit, c.loopGain, c.fillY, c.fillCb,
          c.fillCr]).map (BitVec.ofNat 16) ∧
    (configDigest c).toNat =
      (configWords c).foldl (fun value word => (value * 31 + word.toNat) % 65536) 0

/-- R56, R58, R156: the Peer Line Interface before and after the stale withdrawal of HALO parcels
older than k. -/
def StaleWithdrawn (k : FieldNo) (p p' : LineInterface) : Prop :=
  p'.attached = p.attached ∧ p'.urgent = p.urgent ∧ p'.urgentAttempts = p.urgentAttempts ∧
  p'.urgentDiscards = p.urgentDiscards ∧
  ((∀ x, p.tx = some x → x.bulk = false) →
    p'.tx = p.tx ∧ p'.bulk = p.bulk.filter fun h => !newer k h.frame) ∧
  (∀ x h rest, p.tx = some x → x.bulk = true → p.bulk = h :: rest →
    p'.bulk = h :: rest.filter (fun g => !newer k g.frame) ∧
    p'.tx =
      some
        { x with
          mark := if newer k h.frame = true then some (x.mark.getD .withdrawn) else x.mark })

/-! ## What the functions of a closure give (chapters 5 and 6) -/

/-- R99: the sums of the DATA reports, and the signature. -/
def SignatureRule : Prop :=
  ∀ (c : ConfigItems) (reports : List RoundReport) (data : List Figures) (d1 d2 n : Nat),
    data = reports.filterMap (·.figures) → d1 = (data.map (·.d1)).sum →
    d2 = (data.map (·.d2)).sum → n = (data.map (·.samples)).sum →
    sumReports reports =
      { d1 := d1, d2 := d2, comb := (data.map (·.comb)).sum
        stillTotal := (data.map (·.stillTotal)).sum, stillCount := (data.map (·.stillCount)).sum
        samples := n } ∧
    (data = [] → classify c reports = .none) ∧
    (data ≠ [] → d1 ≤ c.stillLimit * n → d2 ≤ c.stillLimit * n → classify c reports = .still) ∧
    (data ≠ [] → c.stillLimit * n < d1 ∨ c.stillLimit * n < d2 →
      (c.mode525 = true → d2 * 4 ≤ d1 → classify c reports = .repeated) ∧
      (c.mode525 = false ∨ d1 < d2 * 4 →
        (d1 * 4 ≤ d2 → classify c reports = .pairPrev) ∧
        (d2 < d1 * 4 → classify c reports = .motion)))

/-- R101: the missed-round count of an entry after a closure. -/
def MissedCountRule : Prop :=
  ∀ (r : Round) (e : RosterEntry),
    (missedCount r e).station = e.station ∧ (missedCount r e).standing = e.standing ∧
    (e.standing = .joining → (missedCount r e).missed = e.missed + 1) ∧
    (e.standing = .active → e.station ∉ r.expected → (missedCount r e).missed = e.missed) ∧
    (e.standing = .active → e.station ∈ r.expected →
      ((∃ x ∈ r.reports, x.station = e.station) → (missedCount r e).missed = 0) ∧
      ((∀ x ∈ r.reports, x.station ≠ e.station) → (missedCount r e).missed = e.missed + 1))

/-- R111: the entry test for a signature leaves this record. -/
def Enters (c : ConfigItems) (sig : Signature) (r : Cadence) : Prop :=
  (c.mode525 = false → sig = .pairPrev → r = .candidate .twoTwo 1 1) ∧
  (c.mode525 = true → sig = .repeated → r = .candidate .threeTwo 0 1) ∧
  (c.mode525 = false → sig ≠ .pairPrev → r = .video) ∧
  (c.mode525 = true → sig ≠ .repeated → r = .video)

/-- R112: a signature that is consistent, and one that is not, at a 2:2 phase. -/
def Consistent22 (phase : Nat) (sig : Signature) : Prop :=
  sig = .still ∨ (phase = 0 ∧ sig = .motion) ∨ (phase = 1 ∧ sig = .pairPrev)

/-- R112: a signature that is inconsistent at a 2:2 phase. -/
def Inconsistent22 (phase : Nat) (sig : Signature) : Prop :=
  (phase = 0 ∧ sig = .pairPrev) ∨ (phase = 1 ∧ sig = .motion)

/-- R116: a signature that breaks a 3:2 lock at a phase. -/
def Inconsistent32 (phase : Nat) (sig : Signature) : Prop :=
  (phase = 0 ∧ sig = .motion) ∨ (phase ≠ 0 ∧ sig = .repeated)

/-- R114: the comb test fails. -/
def CombFails (c : ConfigItems) (sums : Figures) : Prop :=
  sums.samples ≠ 0 ∧ c.combLimit * sums.samples < sums.comb * 1024

/-- R98, R110: NONE steps and the skipped numbers of a closure. -/
def NoneStepRule : Prop :=
  noneStep .video = .video ∧ noneStep .forcedMa = .forcedMa ∧ noneStep .forcedBob = .forcedBob ∧
  (∀ p n, noneStep (.candidate .twoTwo p n) = .candidate .twoTwo ((p + 1) % 2) n ∧
    noneStep (.candidate .threeTwo p n) = .candidate .threeTwo ((p + 1) % 5) n ∧
    noneStep (.film .twoTwo p) = .film .twoTwo ((p + 1) % 2) ∧
    noneStep (.film .threeTwo p) = .film .threeTwo ((p + 1) % 5) ∧
    noneStep (.forcedFilm .twoTwo p) = .forcedFilm .twoTwo ((p + 1) % 2) ∧
    noneStep (.forcedFilm .threeTwo p) = .forcedFilm .threeTwo ((p + 1) % 5)) ∧
  (∀ (c : ConfigItems) (sums : Figures) (r : Cadence),
    roundStep c .none sums r = (noneStep r, false)) ∧
  (∀ (gap : Nat) (r : Cadence),
    (gap ≤ 4 → skippedCadence gap r = Nat.iterate noneStep gap r) ∧
    (4 < gap → skippedCadence gap r = .video)) ∧
  (∀ n : FieldNo, closureGap none n = 0 ∧
    ∀ l : FieldNo, newer n l = true → closureGap (some l) n + 1 = (n - l).toNat)

/-- R111 to R118: the round step of each state for a signature other than NONE, with whether it raises
EDIT_POINT. -/
def RoundStepRule : Prop :=
  ∀ (c : ConfigItems) (sig : Signature) (sums : Figures), sig ≠ .none →
    (∃ r, roundStep c sig sums .video = (r, false) ∧ Enters c sig r) ∧
    (∀ p n q, q = (p + 1) % 2 →
      (Consistent22 q sig → n = 5 →
        roundStep c sig sums (.candidate .twoTwo p n) = (.film .twoTwo q, false)) ∧
      (Consistent22 q sig → n ≠ 5 →
        roundStep c sig sums (.candidate .twoTwo p n) = (.candidate .twoTwo q (n + 1), false)) ∧
      (Inconsistent22 q sig →
        ∃ r, roundStep c sig sums (.candidate .twoTwo p n) = (r, false) ∧ Enters c sig r) ∧
      (Consistent22 q sig → ¬(q = 1 ∧ CombFails c sums) →
        roundStep c sig sums (.film .twoTwo p) = (.film .twoTwo q, false)) ∧
      (Inconsistent22 q sig ∨ (q = 1 ∧ CombFails c sums) →
        ∃ r, roundStep c sig sums (.film .twoTwo p) = (r, true) ∧ Enters c sig r) ∧
      roundStep c sig sums (.forcedFilm .twoTwo p) = (.forcedFilm .twoTwo q, false)) ∧
    (∀ p n q, q = (p + 1) % 5 →
      (q ≠ 0 → sig ≠ .repeated →
        roundStep c sig sums (.candidate .threeTwo p n) =
          (.candidate .threeTwo q (n + 1), false)) ∧
      (q = 0 → sig = .repeated → n = 5 →
        roundStep c sig sums (.candidate .threeTwo p n) = (.film .threeTwo 0, false)) ∧
      ((q ≠ 0 ∧ sig = .repeated) ∨ (q = 0 ∧ sig = .repeated ∧ n < 5) ∨
          (q = 0 ∧ sig ≠ .repeated) →
        ∃ r, roundStep c sig sums (.candidate .threeTwo p n) = (r, false) ∧ Enters c sig r) ∧
      (¬Inconsistent32 q sig → ¬((q = 0 ∨ q = 2 ∨ q = 4) ∧ CombFails c sums) →
        roundStep c sig sums (.film .threeTwo p) = (.film .threeTwo q, false)) ∧
      (Inconsistent32 q sig ∨ ((q = 0 ∨ q = 2 ∨ q = 4) ∧ CombFails c sums) →
        ∃ r, roundStep c sig sums (.film .threeTwo p) = (r, true) ∧ Enters c sig r) ∧
      roundStep c sig sums (.forcedFilm .threeTwo p) = (.forcedFilm .threeTwo q, false)) ∧
    roundStep c sig sums .forcedMa = (.forcedMa, false) ∧
    roundStep c sig sums .forcedBob = (.forcedBob, false)

/-- R124 to R126: the loop step of a closure. -/
def LoopStepRule : Prop :=
  ∀ (gain nz : Nat) (sums : Figures) (l l' : LoopRecord), l' = loopStep gain sums l →
    (l.mode = .off ∨ sums.stillCount = 0 → l' = l) ∧
    (l.mode ≠ .off → 0 < sums.stillCount → nz = sums.stillTotal / sums.stillCount →
      l'.mode = l.mode ∧ l'.history = (nz :: l.history).take 4 ∧
      (l'.history.length < 4 → l'.trendUp = false ∧ l'.trendDown = false) ∧
      (∀ a b c d, l'.history = [a, b, c, d] →
        (l'.trendUp = true ↔ d * 9 < a * 8) ∧ (l'.trendDown = true ↔ a * 8 < d * 7)) ∧
      (l.mode = .held → l'.t = l.t) ∧
      (l.mode = .auto →
        (l'.t : Int) =
          max 0 (min 1023
            (l.t + Int.tdiv ((gain * nz : Nat) - l.t)
              (if l'.trendUp = true ∨ l'.trendDown = true then 2 else 8)))))

/-- R186: the last closed field n is the target frame or newer than it. -/
def Reaches (n target : FieldNo) : Prop := n = target ∨ newer n target = true

/-- R98 to R102, R186: the closure of round r takes the Agreed State a to b. -/
def Closes (c : ConfigItems) (r : Round) (a b : AgreedState) : Prop :=
  b.roster = (a.roster.map (missedCount r)).filter (fun e => e.missed < 3) ∧
  b.lastClosed = some r.field ∧ b.lastSignature = classify c r.reports ∧
  b.cadence =
    (roundStep c (classify c r.reports) (sumReports r.reports)
      (skippedCadence (closureGap a.lastClosed r.field) a.cadence)).1 ∧
  b.loop = loopStep c.loopGain (sumReports r.reports) a.loop ∧
  (a.bank.pending = none → b.bank = a.bank) ∧
  ∀ sel, a.bank.pending = some sel →
    (¬Reaches r.field sel.target → b.bank = a.bank) ∧
    (Reaches r.field sel.target →
      b.bank = { active := sel.bank, digest := sel.digest, pending := none })

/-! ## What an analysis gives (section 5.1) -/

/-- The difference of two samples. -/
def gapOf (a b : Nat) : Nat := if a ≤ b then b - a else a - b

/-- The average of two samples, or the one that is there. -/
def meanOf (a b : Option Nat) : Nat :=
  match a, b with
  | some x, some y => (x + y) / 2
  | some x, none => x
  | none, some y => y
  | none, none => 0

/-- R86: what the Field Analyser reads at one position; a sample that is not usable is absent. -/
structure PositionRead where
  n : Option Nat
  g : Option Nat
  u : Option Nat
  d : Option Nat
deriving DecidableEq, Repr

/-- R86: the position is counted. -/
def PositionRead.counted (q : PositionRead) : Bool :=
  q.n.isSome && q.g.isSome && (q.u.isSome || q.d.isSome)

/-- R86: what a counted position adds to D1. -/
def PositionRead.addD1 (q : PositionRead) : Nat := gapOf (q.n.getD 0) (meanOf q.u q.d)

/-- R86: what a counted position adds to D2. -/
def PositionRead.addD2 (q : PositionRead) : Nat := gapOf (q.n.getD 0) (q.g.getD 0)

/-- R87: a counted position is a tooth of the comb. -/
def PositionRead.tooth (q : PositionRead) : Bool :=
  match q.n, q.u, q.d with
  | some n, some u, some d => (u + 32 < n && d + 32 < n) || (n + 32 < u && n + 32 < d)
  | _, _, _ => false

/-- R87: a counted position is still. -/
def PositionRead.still (q : PositionRead) : Bool := q.addD2 ≤ 32

/-- R86: the positions of an analysis of parity p whose fields N, N−1 and N−2 are in slots i, j, k. -/
def positionsOf (s : State) (p : Parity) (i j k : Nat) : List PositionRead :=
  ((List.range' s.cp.ownership.coreLow
      (s.cp.ownership.coreHigh - s.cp.ownership.coreLow)).filter
        fun y => lineParity y == p).flatMap fun y =>
    (List.range 720).map fun x =>
      { n := (viewFrameLine s (asFound s i) y).y.getD x none
        g := (viewFrameLine s (asFound s k) y).y.getD x none
        u := (viewAbove s (asFound s j) y).y.getD x none
        d := (viewFrameLine s (asFound s j) (y + 1)).y.getD x none }

/-- R31, R85 to R87: what an analysis reads, and the figures it gives. -/
def FiguresRule : Prop :=
  (∀ (s : State) (a : Analysis) (i j k : Nat),
    settleStart s a = .reading i j k ↔
      a.claim ≠ none ∧ newerThan a.field s.cu.agreed.lastClosed = true ∧
      (∀ r, s.cp.ownership.rule ≠ some (r, .fill)) ∧
      a.held = { current := some i, previous := some j, beforePrevious := some k } ∧
      slotParity s j ≠ slotParity s i ∧ slotParity s k = slotParity s i) ∧
  (∀ (s : State) (a : Analysis), a.start = none ∨ a.start = some .nodata →
    analysisResult s a = none) ∧
  (∀ (s : State) (a : Analysis) (i j k : Nat) (p : Parity) (qs : List PositionRead),
    a.start = some (.reading i j k) → slotParity s i = some p →
    (∀ y, (viewFrameLine s (asFound s i) y).y.length = 720) →
    qs = (positionsOf s p i j k).filter PositionRead.counted →
    (qs = [] → analysisResult s a = none) ∧
    (qs ≠ [] →
      analysisResult s a =
        some
          { d1 := (qs.map PositionRead.addD1).sum, d2 := (qs.map PositionRead.addD2).sum
            comb := (qs.filter PositionRead.tooth).length
            stillTotal := ((qs.filter PositionRead.still).map PositionRead.addD2).sum
            stillCount := (qs.filter PositionRead.still).length
            samples := qs.length }))

/-! ## What the lines of a build are (sections 7.3 and 7.4) -/

/-- The build of s is in LINES with line y to build next, of a frame whose own field is f. -/
def NextLine (s : State) (b : BuildRecord) (f : FoundField) (y : Nat) : Prop :=
  s.lb.build = some b ∧ b.phase = .lines ∧ b.current = some f ∧
  b.built < s.cp.ownership.coreHigh - s.cp.ownership.coreLow ∧
  y = lineInOrder s.cp.ownership b.built

/-- The samples of an entry that is usable in full (R29), one for each position. -/
def Usable (s : State) (slot line : Nat) (v : LineSamples) : Prop :=
  v.y.length = 720 ∧ v.cb.length = 360 ∧ v.cr.length = 360 ∧
  ∃ e, entryAt s slot line = some e ∧ (e.state = .valid ∨ e.state = .repaired) ∧
    e.samples = some v

/-- The entry is LOST: no sample of it is usable (R29). -/
def IsLost (s : State) (found : Option FoundField) (line : Nat) : Prop :=
  ∃ g e, found = some g ∧ entryAt s g.slot line = some e ∧ e.state = .lost

/-- This build's repair filled a sample of a field line of field N. -/
def FilledBy (b : BuildRecord) (line : Nat) : Prop :=
  ∃ r, (b.repairs.find? fun r => r.line == line) = some r ∧ (true ∈ r.luma ∨ true ∈ r.chroma)

/-- One of the three components of a line, with its width. -/
def Component (pick : LineSamples → List Sample) (width : Nat) : Prop :=
  (pick = LineSamples.y ∧ width = 720) ∨ (pick = LineSamples.cb ∧ width = 360) ∨
    (pick = LineSamples.cr ∧ width = 360)

/-- Frame line y is BUILT with these samples and this repaired mark. -/
def LineBuilt (s t : State) (y : Nat) (v : LineSamples) (mark : Bool) : Prop :=
  t.lb.lines =
    s.lb.lines.set (y - s.cp.ownership.coreLow) { samples := some v, repaired := mark }

/-- R140: a woven line whose partner entry is usable in full is that entry, sample for sample. -/
def WovenLineRule : Prop :=
  ∀ (s : State) (b : BuildRecord) (f g : FoundField) (y : Nat) (v : LineSamples), Live s →
    NextLine s b f y → lineParity y ≠ f.parity → lineParity y = g.parity →
    (b.effective = .weavePrev ∧ b.previous = some g) ∨
      (b.effective = .weaveNext ∧ b.following = some g) →
    Usable s g.slot (y / 2) v →
    ∃ t, exec .buildLine s = .next t ∧ LineBuilt s t y v false ∧ t.fs = s.fs ∧ t.cp = s.cp

/-- R140 to R142: a missing line that takes the intra value at every sample (under BOB, and where a
partner entry is LOST) is the average of the lines above and below, and is marked repaired when this
build filled a sample of either. -/
def IntraLineRule : Prop :=
  ∀ (s : State) (b : BuildRecord) (f : FoundField) (y : Nat) (v1 v2 : LineSamples), Live s →
    NextLine s b f y → lineParity y ≠ f.parity → 1 ≤ y →
    Usable s f.slot ((y - 1) / 2) v1 → Usable s f.slot ((y + 1) / 2) v2 →
    (b.effective = .bob ∨
      (b.effective = .weavePrev ∧ IsLost s b.previous (y / 2)) ∨
      (b.effective = .weaveNext ∧ IsLost s b.following (y / 2)) ∨
      (b.effective = .ma ∧ (IsLost s b.previous (y / 2) ∨ IsLost s b.following (y / 2)))) →
    ∃ t v mark, exec .buildLine s = .next t ∧ LineBuilt s t y v mark ∧ t.fs = s.fs ∧ t.cp = s.cp ∧
      (mark = true ↔ FilledBy b ((y - 1) / 2) ∨ FilledBy b ((y + 1) / 2)) ∧
      ∀ pick width (x : Nat) (p q : Sample), Component pick width → x < width →
        (pick v1)[x]? = some p → (pick v2)[x]? = some q →
        ((pick v)[x]?).map (·.toNat) = some ((p.toNat + q.toNat) / 2)

/-- R142: the sample that MA makes from p, n and the intra value i under threshold T. -/
def blendOf (threshold p n i : Nat) : Int :=
  if threshold = 0 ∨ threshold ≤ gapOf p n then (i : Int)
  else
    (((p + n) / 2 : Nat) : Int) +
      Int.tdiv (((i : Int) - ((p + n) / 2 : Nat)) * (gapOf p n : Nat)) threshold

/-- R142: a motion-adaptive line between four entries usable in full. -/
def AdaptiveLineRule : Prop :=
  ∀ (s : State) (b : BuildRecord) (f g1 g2 : FoundField) (y : Nat)
    (v1 v2 vp vn : LineSamples), Live s →
    NextLine s b f y → lineParity y ≠ f.parity → 1 ≤ y → b.effective = .ma → b.repairs = [] →
    Usable s f.slot ((y - 1) / 2) v1 → Usable s f.slot ((y + 1) / 2) v2 →
    b.previous = some g1 → lineParity y = g1.parity → Usable s g1.slot (y / 2) vp →
    b.following = some g2 → lineParity y = g2.parity → Usable s g2.slot (y / 2) vn →
    ∃ t v, exec .buildLine s = .next t ∧ LineBuilt s t y v false ∧ t.fs = s.fs ∧ t.cp = s.cp ∧
      ∀ pick width (x : Nat) (a c p n : Sample), Component pick width → x < width →
        (pick v1)[x]? = some a → (pick v2)[x]? = some c → (pick vp)[x]? = some p →
        (pick vn)[x]? = some n →
        ((pick v)[x]?).map (fun r => (r.toNat : Int)) =
          some (blendOf b.t p.toNat n.toNat ((a.toNat + c.toNat) / 2))

/-- R144: what the steps of a repair find at one position. -/
structure RepairRead where
  own : Option Nat
  temporal : Option Nat
  above : Option Nat
  below : Option Nat
  prevAbove : Option Nat
  prevBelow : Option Nat
deriving DecidableEq, Repr

/-- R144: a source sample of field N: usable, and not filled by this build. -/
def sourceAt (b : BuildRecord) (line x : Nat) (marks : RepairedEntry → List Bool)
    (run : List (Option Nat)) : Option Nat :=
  match b.repairs.find? fun r => r.line == line with
  | none => run.getD x none
  | some r => if (marks r).getD x false = true then none else run.getD x none

/-- R144: what a repair of entry e, at frame line y, finds at position x of one component. Step 1 is
open to an agreed build with the signature STILL or REPEAT. -/
def repairReadAt (s : State) (b : BuildRecord) (y : Nat) (e : LineEntry)
    (pick : LineView → List (Option Nat)) (marks : RepairedEntry → List Bool) (x : Nat) :
    RepairRead :=
  { own := (pick (viewEntry e)).getD x none
    temporal :=
      if b.agreed = true ∧ (b.signature = .still ∨ b.signature = .repeated) then
        (pick (viewFrameLine s b.beforePrevious y)).getD x none
      else none
    above := sourceAt b ((y - 2) / 2) x marks (pick (viewTwoAbove s b.current y))
    below := sourceAt b ((y + 2) / 2) x marks (pick (viewFrameLine s b.current (y + 2)))
    prevAbove := (pick (viewAbove s b.previous y)).getD x none
    prevBelow := (pick (viewFrameLine s b.previous (y + 1))).getD x none }

/-- R144: the value a repair gives a position: the first step that has one. -/
def RepairValue (black : Nat) (r : RepairRead) (value : Nat) : Prop :=
  (∀ a, r.own = some a → value = a) ∧
  (∀ a, r.own = none → r.temporal = some a → value = a) ∧
  (r.own = none → r.temporal = none → (r.above ≠ none ∨ r.below ≠ none) →
    value = meanOf r.above r.below) ∧
  (r.own = none → r.temporal = none → r.above = none → r.below = none →
    (r.prevAbove ≠ none ∨ r.prevBelow ≠ none → value = meanOf r.prevAbove r.prevBelow) ∧
    (r.prevAbove = none → r.prevBelow = none → value = black))

/-- R144: the position is filled by step 1. -/
def RepairRead.byTemporal (r : RepairRead) : Bool := r.own.isNone && r.temporal.isSome

/-- R144: the position is filled by step 2. -/
def RepairRead.bySpatial (r : RepairRead) : Bool :=
  r.own.isNone && r.temporal.isNone && (r.above.isSome || r.below.isSome)

/-- R144: the position is filled by step 3 or 4. -/
def RepairRead.unrepaired (r : RepairRead) : Bool :=
  r.own.isNone && r.temporal.isNone && r.above.isNone && r.below.isNone

/-- R33, R139, R144, R145: an own line whose entry is DROPOUT or LOST is repaired before it is built:
each sample has the value of the first step that gives one, the entry is written back as REPAIRED,
and each filled sample is counted in the total of its step. -/
def RepairedLineRule : Prop :=
  ∀ (s : State) (b : BuildRecord) (f : FoundField) (y : Nat) (e : LineEntry)
    (reads : List RepairRead), Live s →
    NextLine s b f y → lineParity y = f.parity → entryAt s f.slot (y / 2) = some e →
    e.state = .dropout ∨ e.state = .lost → (viewEntry e).y.length = 720 →
    (viewEntry e).cb.length = 360 → (viewEntry e).cr.length = 360 →
    (∀ r ∈ b.repairs, r.line ≠ y / 2) →
    reads =
      (List.range 720).map (repairReadAt s b y e LineView.y RepairedEntry.luma) ++
        (List.range 360).map (repairReadAt s b y e LineView.cb RepairedEntry.chroma) ++
        (List.range 360).map (repairReadAt s b y e LineView.cr RepairedEntry.chroma) →
    ∃ t v mark, exec .buildLine s = .next t ∧ LineBuilt s t y v mark ∧
      (mark = true ↔ ∃ x, (x < 720 ∧ (viewEntry e).y.getD x none = none) ∨
        (x < 360 ∧ (viewEntry e).cb.getD x none = none)) ∧
      entryAt t f.slot (y / 2) =
        some { line := y / 2, state := .repaired, spans := [], samples := some v } ∧
      (∀ j, j ≠ f.slot → slotAt t j = slotAt s j) ∧
      (∀ x, x < 720 → ∃ a, v.y[x]? = some a ∧
        RepairValue 64 (repairReadAt s b y e LineView.y RepairedEntry.luma x) a.toNat) ∧
      (∀ x, x < 360 → ∃ a c, v.cb[x]? = some a ∧ v.cr[x]? = some c ∧
        RepairValue 512 (repairReadAt s b y e LineView.cb RepairedEntry.chroma x) a.toNat ∧
        RepairValue 512 (repairReadAt s b y e LineView.cr RepairedEntry.chroma x) c.toNat) ∧
      t.cp =
        { s.cp with
          totals :=
            { s.cp.totals with
              temporalSeg := s.cp.totals.temporalSeg +
                BitVec.ofNat 32 (reads.filter RepairRead.byTemporal).length
              temporalProg := s.cp.totals.temporalProg +
                BitVec.ofNat 32 (reads.filter RepairRead.byTemporal).length
              spatialSeg := s.cp.totals.spatialSeg +
                BitVec.ofNat 32 (reads.filter RepairRead.bySpatial).length
              spatialProg := s.cp.totals.spatialProg +
                BitVec.ofNat 32 (reads.filter RepairRead.bySpatial).length
              unrepairedSeg := s.cp.totals.unrepairedSeg +
                BitVec.ofNat 32 (reads.filter RepairRead.unrepaired).length
              unrepairedProg := s.cp.totals.unrepairedProg +
                BitVec.ofNat 32 (reads.filter RepairRead.unrepaired).length } }

/-- R138, R151 to R153: the line that completes the top four lines, or the bottom three, forms the
set of that side in an agreed build whose neighbour counts. The set is queued whole with one credit
spent, or becomes the pending set; one that was pending before is superseded. Without the
conditions nothing is formed, as after every other line. -/
def LineFormsSetRule : Prop :=
  ∀ (s : State) (b : BuildRecord) (f : FoundField) (y : Nat), Live s → NextLine s b f y →
    ∃ t, exec .buildLine s = .next t ∧
      (b.built ≠ 3 → b.built ≠ 6 → t.hx = s.hx ∧ t.pli = s.pli) ∧
      (∀ side, (side = .upper ∧ b.built = 3) ∨ (side = .lower ∧ b.built = 6) →
        (b.agreed = false ∨ neighbourCounts s side = false → t.hx = s.hx ∧ t.pli = s.pli) ∧
        (∀ n lines set d, b.agreed = true → neighbourCounts s side = true →
          neighbourOf s side = some n →
          lines =
            (match side with
              | .upper => List.range' s.cp.ownership.coreLow 4
              | .lower => List.range' (s.cp.ownership.coreHigh - 3) 3) →
          set =
            ({ frame := b.frame, lines := lines.map fun l => (l, coreSamples t l) } : HaloSet) →
          d =
            { dirOf s side with
              setsSuperseded :=
                if (dirOf s side).pending = none then (dirOf s side).setsSuperseded
                else (dirOf s side).setsSuperseded + 1 } →
          (1 ≤ (dirOf s side).credit → s.pli.bulk.length + lines.length ≤ 16 →
            t.hx =
              ((s.setDir side
                { d with
                  credit := d.credit - 1
                  pending := none
                  outbound := d.outbound ++
                    [{ frame := b.frame, remaining := lines.length, taken := 0
                       lossCounted := false }]
                  setsSent := d.setsSent + 1 }).hx) ∧
            t.pli =
              { s.pli with
                bulk := s.pli.bulk ++
                  set.lines.map fun l =>
                    { addressee := n, frame := b.frame, line := l.1, samples := l.2 } }) ∧
          ((dirOf s side).credit = 0 ∨ 16 < s.pli.bulk.length + lines.length →
            t.hx = (s.setDir side { d with pending := some set }).hx ∧ t.pli = s.pli)))

/-! ## Which pairing and which bank a build has (sections 6.3 and 9.3) -/

/-- R121: the pairing of a cadence record. -/
def PairingRule : Prop :=
  pairingOf .video = .ma ∧ (∀ k p n, pairingOf (.candidate k p n) = .ma) ∧
  pairingOf .forcedMa = .ma ∧ pairingOf .forcedBob = .bob ∧
  ∀ r k p, r = .film k p ∨ r = .forcedFilm k p →
    (k = .twoTwo → p = 0 → pairingOf r = .weaveNext) ∧
    (k = .twoTwo → p = 1 → pairingOf r = .weavePrev) ∧
    (k = .threeTwo → p = 0 ∨ p = 2 ∨ p = 4 → pairingOf r = .weavePrev) ∧
    (k = .threeTwo → p = 1 ∨ p = 3 → pairingOf r = .weaveNext)

/-- R122: the provisional pairing of frame n. -/
def ProvisionalRule : Prop :=
  ∀ (a : AgreedState) (n : FieldNo),
    (a.lastClosed = none → provisionalPairing a n = .ma) ∧
    ∀ l, a.lastClosed = some l →
      (newer n l = false ∨ 4 < (n - l).toNat → provisionalPairing a n = .ma) ∧
      (newer n l = true → (n - l).toNat ≤ 4 →
        provisionalPairing a n = pairingOf (Nat.iterate noneStep (n - l).toNat a.cadence))

/-- R169: the bank chosen for a build of frame n. -/
def ChosenBankRule : Prop :=
  ∀ (s : State) (n : FieldNo),
    (∀ p, s.cu.agreed.bank.pending = some p → Reaches n p.target → chosenBank s n = p.bank) ∧
    ((∀ p, s.cu.agreed.bank.pending = some p → ¬Reaches n p.target) →
      (∀ o, s.sc.outgoing = some o → newer o.switchFrame n = true → chosenBank s n = o.bank) ∧
      ((∀ o, s.sc.outgoing = some o → newer o.switchFrame n = false) →
        chosenBank s n = s.cu.agreed.bank.active))

/-! ## What a scaled row is (section 9.1) -/

/-- R8, R12: the interior rows and the edge rows of each side, in increasing order. `rows` is O and
`lines` S. -/
def EdgeRowsRule : Prop :=
  ∀ (c : ConfigItems) (o : Ownership) (rows lines r : Nat),
    rows = (if c.large = true then 2160 else 1080) →
    lines = (if c.mode525 = true then 480 else 576) →
    (r ∈ edgeRows c o .upper ↔
      o.firstRow ≤ r ∧ r < o.firstRow + o.rowCount ∧ o.upper ≠ .pictureEdge ∧
        r * lines / rows < o.coreLow + 3) ∧
    (r ∈ edgeRows c o .lower ↔
      o.firstRow ≤ r ∧ r < o.firstRow + o.rowCount ∧ o.lower ≠ .pictureEdge ∧
        o.coreHigh ≤ r * lines / rows + 4) ∧
    (r ∈ interiorRows c o ↔
      o.firstRow ≤ r ∧ r < o.firstRow + o.rowCount ∧ r ∉ edgeRows c o .upper ∧
        r ∉ edgeRows c o .lower) ∧
    (interiorRows c o).Pairwise (· < ·) ∧ ∀ side, (edgeRows c o side).Pairwise (· < ·)

/-- R171: frame line y is the i-th halo line of a side. -/
def HaloTap (s : State) (y : Nat) (side : Side) (i : Nat) : Prop :=
  (side = .upper ∧ y < s.cp.ownership.coreLow ∧ s.cp.ownership.coreLow + i = y + 3) ∨
    (side = .lower ∧ y = s.cp.ownership.coreHigh + i)

/-- The halo line that frame line y is, by its side's record. -/
def HaloRead (s : State) (y : Nat) (h : HaloLine) : Prop :=
  ∃ side i ls, HaloTap s y side i ∧ sideRecord s side = some { lines := some ls } ∧ ls[i]? = some h

/-- R164, R174: which rows of a build with a bank carry REPAIRED, and which SEAM_CLAMPED. -/
def RowFlagsRule : Prop :=
  ∀ (s : State) (rec : ScalingRecord) (n : BankName) (row rows lines : Nat) (tap : Nat → Nat),
    rec.bank = some n → s.cp.ownership.coreLow < s.cp.ownership.coreHigh →
    rows = (if s.cp.config.large = true then 2160 else 1080) →
    lines = (if s.cp.config.mode525 = true then 480 else 576) →
    (∀ k, tap k = min (row * lines / rows + k - 3) (lines - 1)) →
    ((scaledRow s rec row).flags.repaired = true ↔
      ∃ k line, k < 8 ∧ s.cp.ownership.coreLow ≤ tap k ∧ tap k < s.cp.ownership.coreHigh ∧
        s.lb.lines[tap k - s.cp.ownership.coreLow]? = some line ∧ line.repaired = true) ∧
    ((∃ k, k < 8 ∧ HaloRead s (tap k) .clamped) →
      (scaledRow s rec row).flags.seamClamped = true) ∧
    ((∀ k, k < 8 →
        (s.cp.ownership.coreLow ≤ tap k ∧ tap k < s.cp.ownership.coreHigh) ∨
          ∃ h, h ≠ .clamped ∧ HaloRead s (tap k) h) →
      (scaledRow s rec row).flags.seamClamped = false)

/-! ## How a build goes on and ends (sections 7.5 and 9.1) -/

/-- R174, R192: a row is stored in buffer x, and the build goes on with the scaling record r. -/
def GoesOn (s t : State) (x : Bool) (h : Held) (st : StoredRow) (r : ScalingRecord) : Prop :=
  bufferAt t x = some { h with rows := h.rows ++ [st] } ∧
  t.sc = { s.sc with scaling := some r } ∧
  t.lb = { s.lb with build := s.lb.build.map fun b => { b with phase := r.phase } } ∧
  t.fs = s.fs ∧ t.hx = s.hx

/-- R146, R161, R175, R192: a row is stored in buffer x, and the build ends DONE. -/
def EndsDone (s t : State) (x : Bool) (h : Held) (st : StoredRow) : Prop :=
  bufferAt t x = some { h with state := .complete, rows := h.rows ++ [st] } ∧
  t.sc = { s.sc with scaling := none } ∧ t.lb = { s.lb with build := none } ∧
  (∀ sl ∈ t.fs.slots, Holder.build ∉ sl.holders) ∧
  (∀ j, (slotAt t j).occupant = (slotAt s j).occupant) ∧ HaloEnded s t

/-- R175: a side that is RESOLVED and whose edge rows are waiting. -/
def Ready (s : State) (r : ScalingRecord) (side : Side) : Prop :=
  sideResolved s side = true ∧ edgeOf r side = .waiting

/-- R175: the scaling record r once the Scaler begins a side's edge rows, with the sides after it. -/
def beginning (s : State) (side : Side) (later : List Side) (r : ScalingRecord) : ScalingRecord :=
  { r with
    phase := .edges, current := some side
    todo := edgeRows s.cp.config s.cp.ownership side, queue := later }

/-- R175: the scaling record r in EDGES while the Scaler waits for a side to resolve. -/
def awaiting (r : ScalingRecord) : ScalingRecord :=
  { r with phase := .edges, current := none, todo := [], queue := [] }

/-- R170, R175: what follows the last interior row of a build with a bank, given the record r as it
counts that row: a RESOLVED side begins, the upper first; with none the Scaler waits; with no edge
row left the build is over. -/
def EntersEdges (s : State) (r : ScalingRecord) (goesOn : ScalingRecord → Prop) (ends : Prop) :
    Prop :=
  (Ready s r .upper → Ready s r .lower → goesOn (beginning s .upper [.lower] r)) ∧
  (Ready s r .upper → ¬Ready s r .lower → goesOn (beginning s .upper [] r)) ∧
  (¬Ready s r .upper → Ready s r .lower → goesOn (beginning s .lower [] r)) ∧
  (¬Ready s r .upper → ¬Ready s r .lower → (∃ side, edgeOf r side = .waiting) →
    goesOn (awaiting r)) ∧
  ((∀ side, edgeOf r side ≠ .waiting) → ends)

/-- R138, R170: the line that makes every core line BUILT takes the build to INTERIOR with the rows of
its interior to write, or every owned row in a black build; a band without interior rows goes on to
EDGES at once. -/
def LastLineRule : Prop :=
  ∀ (s : State) (b : BuildRecord) (f : FoundField) (y : Nat) (r : ScalingRecord) (todo : List Nat),
    Live s → NextLine s b f y →
    b.built + 1 = s.cp.ownership.coreHigh - s.cp.ownership.coreLow → s.sc.scaling = some r →
    todo =
      (if r.bank = none then
        List.range' s.cp.ownership.firstRow s.cp.ownership.rowCount
      else interiorRows s.cp.config s.cp.ownership) →
    ∃ t r', exec .buildLine s = .next t ∧ t.sc = { s.sc with scaling := some r' } ∧
      t.lb.build.map (·.phase) = some r'.phase ∧
      (todo ≠ [] → r' = { r with phase := .interior, todo := todo }) ∧
      (todo = [] → EntersEdges s r (fun x => r' = x) True)

/-- R162, R171: the samples of a tap line: a core line, or the halo line of a resolved side. -/
def TapLineRule : Prop :=
  ∀ (s : State) (y : Nat), s.cp.ownership.coreLow < s.cp.ownership.coreHigh →
    (∀ line v, s.cp.ownership.coreLow ≤ y → y < s.cp.ownership.coreHigh →
      s.lb.lines[y - s.cp.ownership.coreLow]? = some line → line.samples = some v →
      tapSamples s y = v) ∧
    (∀ side ls (i : Nat) (h : HaloLine) (edge : Nat),
      (side = .upper ∧ y < s.cp.ownership.coreLow ∧ s.cp.ownership.coreLow + i = y + 3 ∧
          edge = s.cp.ownership.coreLow) ∨
        (side = .lower ∧ y = s.cp.ownership.coreHigh + i ∧
          edge = s.cp.ownership.coreHigh - 1) →
      sideRecord s side = some { lines := some ls } → ls[i]? = some h →
      (∀ v, h = .neighbour v → tapSamples s y = v) ∧
      (h = .fill →
        tapSamples s y =
          { y := List.replicate 720 (BitVec.ofNat 10 s.cp.config.fillY)
            cb := List.replicate 360 (BitVec.ofNat 10 s.cp.config.fillCb)
            cr := List.replicate 360 (BitVec.ofNat 10 s.cp.config.fillCr) }) ∧
      (h = .clamped → tapSamples s y = tapSamples s edge))

/-- R8, R9, R171 to R173: the samples of a scaled row. `rows` is O, `lines` S and `columns` W; the
vertical value at a source position is formed from the eight tap lines, and the output sample from
eight vertical values. -/
def RowRule : Prop :=
  ∀ (s : State) (b : Bank) (r rows lines columns : Nat) (pick : LineSamples → List Sample)
    (width count : Nat) (vertical : Nat → Int),
    b.vertical.length = 512 → b.horizontal.length = 512 →
    rows = (if s.cp.config.large = true then 2160 else 1080) →
    lines = (if s.cp.config.mode525 = true then 480 else 576) →
    columns = (if s.cp.config.large = true then 3840 else 1920) →
    Component pick width → count = (if width = 720 then columns else columns / 2) →
    (∀ x, vertical x =
      ((∑ k ∈ Finset.range 8,
          (b.vertical.getD (8 * (r * lines % rows * 64 / rows) + k) 0).toInt *
            (((pick (tapSamples s (min (r * lines / rows + k - 3) (lines - 1)))).getD x 0).toNat :
              Int)) + 512) / 1024) →
    (pick (scaleRow s b r)).length = count ∧
    ∀ c, c < count →
      ((pick (scaleRow s b r))[c]?).map (fun v => (v.toNat : Int)) =
        some
          (max 0 (min 1023
            (((∑ k ∈ Finset.range 8,
                (b.horizontal.getD (8 * (c * 720 % columns * 64 / columns) + k) 0).toInt *
                  vertical (min (c * 720 / columns + k - 3) (width - 1))) + 512) / 1024)))

end Sys2Proof.Machine
end

