-- ==== Sys2Proof/WellFormed.lean ====
section
/-! DEFINITION. Which command terms describe something the station's partners can present: the
ranges the rules give the operands. `exec` is total on ill-formed terms too (log entry 31). -/

namespace Sys2Proof

open Machine

/-- A run of bus words begins with a word of the kind code (R16). -/
def wellFormedRun (kind : Nat) (words : List Word16) : Bool :=
  !words.isEmpty && busKind (firstWord words) == kind

/-- The 720 Y, 360 Cb and 360 Cr samples of a line. -/
def wellFormedLine (v : LineSamples) : Bool :=
  v.y.length == 720 && v.cb.length == 360 && v.cr.length == 360

/-- R86, R87, R89: the figures of a DATA report lie in their ranges. -/
def wellFormedFigures (f : Figures) : Bool :=
  f.d1 ≤ 212129280 && f.d2 ≤ 212129280 && f.comb ≤ 207360 && f.stillTotal ≤ 6635520 &&
    f.stillCount ≤ 207360 && 1 ≤ f.samples && f.samples ≤ 207360

/-- R89: figures, where present, in range. -/
def wellFormedResult (f : Option Figures) : Bool :=
  match f with
  | none => true
  | some g => wellFormedFigures g

/-- R108: the cadence record's ranges. -/
def wellFormedCadence : Cadence → Bool
  | .candidate .twoTwo p n => p ≤ 1 && 1 ≤ n && n ≤ 5
  | .candidate .threeTwo p n => p ≤ 4 && 1 ≤ n && n ≤ 5
  | .film .twoTwo p => p ≤ 1
  | .film .threeTwo p => p ≤ 4
  | .forcedFilm .twoTwo p => p ≤ 1
  | .forcedFilm .threeTwo p => p ≤ 4
  | _ => true

/-- R123: the loop record's ranges. -/
def wellFormedLoop (l : LoopRecord) : Bool :=
  l.t ≤ 1023 && l.history.length ≤ 4 && l.history.all fun n => n ≤ 32

/-- R76: station numbers in increasing order, counts 0 to 2. -/
def wellFormedRoster (roster : List RosterEntry) : Bool :=
  roster.Pairwise (fun a b => a.station < b.station) && roster.all fun e => e.missed ≤ 2

/-- R91: at most two open rounds, at most one report of a station in each. -/
def wellFormedRounds (rounds : List Round) : Bool :=
  rounds.length ≤ 2 && rounds.all fun r =>
    (r.reports.map (·.station)).Nodup && r.reports.all fun x => wellFormedResult x.figures

/-- R61: a carried Agreed State. -/
def wellFormedAgreed (a : AgreedState) : Bool :=
  wellFormedRoster a.roster && wellFormedRounds a.openRounds && wellFormedCadence a.cadence &&
    wellFormedLoop a.loop

/-- R119: a code that names none of the five. -/
def wellFormedForce (code : ForceCode) : Bool :=
  match code with
  | .other n => 5 ≤ n
  | _ => true

/-- R127: a code that names none of the three. -/
def wellFormedLoopCode (code : LoopCode) : Bool :=
  match code with
  | .other n => 3 ≤ n
  | _ => true

/-- R188: a code that is neither A nor B. -/
def wellFormedBankCode (code : BankCode) : Bool :=
  match code with
  | .other n => 2 ≤ n
  | _ => true

/-- R41, R210: the configuration words of a JOIN, 14 to 35 of them. -/
def wellFormedJoin (words : List Word16) : Bool := 14 ≤ words.length && words.length ≤ 35

/-- R205, R206: the bytes are those of a taken transaction that no other row stands for. -/
def wellFormedOther (bytes : Vector Byte 8) : Bool :=
  let r := readRequest bytes
  r.kind != 0 &&
    !(checkHolds bytes &&
      ((r.kind == kindWrite &&
          (isConfigItem r.item.toNat || (0x40 ≤ r.item.toNat && r.item.toNat ≤ 0x7F) ||
            r.item == enablesItem)) ||
        (r.kind == kindAction && 0x100 ≤ r.item.toNat && r.item.toNat ≤ 0x10A)))

/-- The command term is well formed. -/
def wellFormed (c : Instr) : Bool :=
  match c with
  | .fieldBegin words => wellFormedRun 2 words
  | .lineRecord words => wellFormedRun 1 words
  | .fieldEnd words => wellFormedRun 3 words
  | .parcelVoid r => r.payload.length ≤ 2047
  | .takeSnapshot _ _ _ carried => wellFormedAgreed carried
  | .takeJoin _ _ _ _ words => wellFormedJoin words
  | .takeForce _ _ code phase => wellFormedForce code && phase ≤ 65535
  | .takeLoopSet _ _ code value => wellFormedLoopCode code && value ≤ 65535
  | .takeBankSelect _ _ bank _ _ => wellFormedBankCode bank
  | .takeReport _ _ _ figures up down => wellFormedResult figures && up ≤ 3 && down ≤ 3
  | .takeHalo _ _ p => wellFormedLine p.samples && p.line ≤ 65535
  | .transactionIncomplete edges => edges != 64
  | .configWrite item _ => isConfigItem item.toNat
  | .stagingPageWrite item _ => 0x40 ≤ item.toNat && item.toNat ≤ 0x7F
  | .writeOther bytes => wellFormedOther bytes
  | _ => true

end Sys2Proof
end

