-- ==== Sys2Proof/Certificates/Slice0/Obligations.lean ====
section
/-! DEFINITION. The statements about the station, for every state and every command. -/

open Sys2Proof Sys2Proof.Machine

/-! ## The Control Port (chapter 11) -/

/-- R204, R205: a transaction that is not taken, and a taken one without a request, shift out the
previous result byte by byte and leave everything else. -/
def Obligations.UntakenAndEmptyTransactionsKeepTheResult : Prop :=
  ∀ (s : State) (edges : Nat), Live s →
    ∃ t, exec (.transactionIncomplete edges) s = .next t ∧ exec .noRequest s = .next t ∧
      t = s.setCp { s.cp with dataOut := t.cp.dataOut } ∧
      t.cp.dataOut[0] = s.cp.result.kind ∧
      t.cp.dataOut[1] ++ t.cp.dataOut[2] = s.cp.result.item ∧
      t.cp.dataOut[3] = resultNumber s.cp.result.code ∧
      t.cp.dataOut[4] ++ t.cp.dataOut[5] ++ t.cp.dataOut[6] ++ t.cp.dataOut[7] = s.cp.result.value

/-- R208, R209: a WRITE to a configuration item: REFUSED_LOCKED under the lock; else the value in its
range replaces the item, and no other item changes; else BAD_VALUE. -/
def Obligations.ConfigWriteFollowsLockAndRange : Prop :=
  ∀ (s : State) (item : Word16) (v : Word32), Live s → isConfigItem item.toNat = true →
    s.cp.config.rules.length = 8 →
    ∃ t code, exec (.configWrite item v) s = .next t ∧ Answered t 2 item code 0 ∧
      Transacted (s.setCp { s.cp with config := t.cp.config }) t ∧
      (s.cp.lock = true → code = .refusedLocked ∧ t.cp.config = s.cp.config) ∧
      (s.cp.lock = false → (configRange item.toNat).1 ≤ v.toNat →
        v.toNat ≤ (configRange item.toNat).2 →
        code = .ok ∧ readItem t item.toNat = some v ∧
          ∀ other, isConfigItem other = true → other ≠ item.toNat →
            readItem t other = readItem s other) ∧
      (s.cp.lock = false →
        (v.toNat < (configRange item.toNat).1 ∨ (configRange item.toNat).2 < v.toNat) →
        code = .badValue ∧ t.cp.config = s.cp.config)

/-- R179: a WRITE to a Staging Page entry, its read, its survival of a commit, and its reset. -/
def Obligations.StagingPageHoldsWhatIsWritten : Prop :=
  (∀ (s : State) (item : Word16) (v : Word32), Live s → 0x40 ≤ item.toNat → item.toNat ≤ 0x7F →
    s.sc.staging.length = 64 →
    ∃ t code, exec (.stagingPageWrite item v) s = .next t ∧ Answered t 2 item code 0 ∧
      Transacted (s.setSc { s.sc with staging := t.sc.staging }) t ∧
      (-2048 ≤ v.toInt → v.toInt ≤ 2047 →
        code = .ok ∧ readItem t item.toNat = some v ∧
          ∀ e, e < 64 → e + 0x40 ≠ item.toNat → t.sc.staging[e]? = s.sc.staging[e]?) ∧
      ((v.toInt < -2048 ∨ 2047 < v.toInt) → code = .badValue ∧ t.sc.staging = s.sc.staging)) ∧
  (∀ (s : State) (item : Word16) (v : Word32), Live s → item.toNat < 0x40 ∨ 0x7F < item.toNat →
    ∃ t, exec (.stagingPageWrite item v) s = .next t ∧ Answered t 2 item .badValue 0 ∧
      Transacted s t) ∧
  (∀ s t : State, exec .commitComplete s = .next t → t.sc.staging = s.sc.staging) ∧
  (∀ n e, e < 64 → (State.afterReset n).sc.staging[e]? = some 0)

/-- R218: a WRITE to the event enables in every state; when ATTENTION is asserted, and its level as it is
read; and both after reset. That the level reads 1 while ATTENTION is asserted and 0 otherwise is DESIGN
CHOICE, log entry 52. -/
def Obligations.EnablesWriteSetsAttention : Prop :=
  (∀ n, (State.afterReset n).cp.enables = 0 ∧ attention (State.afterReset n) = false) ∧
  (∀ s : State, attention s = true ↔
    ∃ b, b < 12 ∧ s.cp.events.getLsbD b = true ∧ s.cp.enables.getLsbD b = true) ∧
  (∀ s : State, readItem s 0x206 = some (if attention s = true then 1 else 0)) ∧
  ∀ (s : State) (v : Word32), Live s →
    ∃ t code, exec (.eventEnablesWrite v) s = .next t ∧ Answered t 2 0x205 code 0 ∧
      Transacted (s.setCp { s.cp with enables := t.cp.enables }) t ∧
      (v.toNat < 4096 → code = .ok ∧ ∀ b, b < 12 → t.cp.enables.getLsbD b = v.getLsbD b) ∧
      (4096 ≤ v.toNat → code = .badValue ∧ t.cp.enables = s.cp.enables)

/-- R219: EVENT_CLEAR clears the flags named and changes no other flag, total, count or state. -/
def Obligations.EventClearClearsTheFlagsNamed : Prop :=
  ∀ (s : State) (v : Word32), Live s →
    ∃ t code, exec (.eventClear v) s = .next t ∧ Answered t 3 0x108 code 0 ∧
      Transacted (s.setCp { s.cp with events := t.cp.events }) t ∧
      (4096 ≤ v.toNat → code = .badValue ∧ t.cp.events = s.cp.events) ∧
      (v.toNat < 4096 → code = .ok ∧
        ∀ b, b < 12 → t.cp.events.getLsbD b = (s.cp.events.getLsbD b && !v.getLsbD b)) ∧
      (attention t = true ↔
        ∃ b, b < 12 ∧ t.cp.events.getLsbD b = true ∧ t.cp.enables.getLsbD b = true)

/-- R216: SEGMENT_MARK zeroes the four segment values alone; PROGRAMME_CLEAR zeroes all fourteen
totals. Both return OK in every membership state and change no flag. -/
def Obligations.SegmentMarkAndProgrammeClear : Prop :=
  ∀ (s : State) (v : Word32), Live s →
    (∃ t, exec (.segmentMark v) s = .next t ∧ Answered t 3 0x109 .ok 0 ∧
      Transacted
        (s.setTotals
          { s.cp.totals with temporalSeg := 0, spatialSeg := 0, unrepairedSeg := 0, lostSeg := 0 })
        t) ∧
    (∃ t, exec (.programmeClear v) s = .next t ∧ Answered t 3 0x10A .ok 0 ∧
      Transacted
        (s.setTotals
          { temporalSeg := 0, temporalProg := 0, spatialSeg := 0, spatialProg := 0
            unrepairedSeg := 0, unrepairedProg := 0, lostSeg := 0, lostProg := 0
            lateFrames := 0, clampedRows := 0, unagreedFrames := 0, fieldDiscards := 0
            strayLines := 0, parcelDiscards := 0 })
        t)

/-- R205, R206: what a taken transaction of any other kind does: without a request nothing; with a
failed check, an unknown kind, an item that is not assigned or a WRITE to an item that is not
written, BAD_VALUE alone; a READ of an item answers its value and changes no state (the one item
that reads a free value, DESIGN CHOICE, log entry 10, is left out). That a READ comes as a
WRITE_OTHER is the model's choice (DESIGN CHOICE, log entry 6), and so is the kind above 3 that the
stored result repeats (DEDUCED, log entry 8). -/
def Obligations.OtherTransactionsAreTestedInOrder : Prop :=
  ∀ (s : State) (b : Vector Byte 8), Live s →
    (b[0] = 0 → exec (.writeOther b) s = exec .noRequest s) ∧
    (b[0] ≠ 0 →
      (checkHolds b = false ∨ 3 < b[0].toNat ∨
        (b[0] = 1 ∧ readItem s (b[1] ++ b[2]).toNat = none) ∨
        (b[0] = 2 ∧ isConfigItem (b[1] ++ b[2]).toNat = false ∧
          ((b[1] ++ b[2]).toNat < 0x40 ∨ 0x7F < (b[1] ++ b[2]).toNat) ∧
          (b[1] ++ b[2]).toNat ≠ 0x205) ∨
        (b[0] = 3 ∧ ((b[1] ++ b[2]).toNat < 0x100 ∨ 0x10A < (b[1] ++ b[2]).toNat))) →
      ∃ t, exec (.writeOther b) s = .next t ∧ Answered t b[0] (b[1] ++ b[2]) .badValue 0 ∧
        Transacted s t) ∧
    (∀ v, b[0] = 1 → checkHolds b = true → (b[1] ++ b[2]).toNat ≠ timeLeftItem →
      readItem s (b[1] ++ b[2]).toNat = some v →
      ∃ t, exec (.writeOther b) s = .next t ∧ Answered t 1 (b[1] ++ b[2]) .ok v ∧ Transacted s t)

/-- R1, R4, R5, R6, R7, R8, R10, R210, R212: START's three tests in order, and the acts of an accepted
START. With it, what they rest on: the five checks of the table and which index the first that fails
reports, the record derived from the table, and the configuration words with their digest. That an
empty window holds no field lines is DESIGN CHOICE, log entry 45. -/
def Obligations.StartTestsAndActs : Prop :=
  TableFaultRule ∧ OwnershipRule ∧ DigestRule ∧
  ∀ (s : State) (v : Word32), Live s →
    ∃ t code value, exec (.start v) s = .next t ∧ Answered t 3 0x100 code value ∧
      (s.cu.membership ≠ .offline → s.cu.membership ≠ .stopped →
        code = .refusedState ∧ value = 0 ∧ Transacted s t) ∧
      (s.cu.membership = .offline ∨ s.cu.membership = .stopped →
        (∀ i k, tableFault s.cp.config s.cp.station = some (i, k) →
          code = .badTable ∧ value = BitVec.ofNat 32 (i * 256 + k) ∧ Transacted s t) ∧
        (tableFault s.cp.config s.cp.station = none → s.sc.bankA.state ≠ .ready →
          code = .noCoefficients ∧ value = 0 ∧ Transacted s t) ∧
        (tableFault s.cp.config s.cp.station = none → s.sc.bankA.state = .ready →
          code = .ok ∧ value = 0 ∧
          Transacted
            { s with
              fs :=
                { s.fs with
                  slots := s.fs.slots.map fun sl => if sl.holders = [] then Slot.free else sl }
              cu :=
                { s.cu with
                  membership := .listening, heard := [], foundingBar := false, listenCount := 0
                  snapshotWait := 0, isolationWait := 0, leaveOwed := false }
              pli := { s.pli with idleMonitor := true }
              lb :=
                { s.lb with
                  newestBegun := none, lastEnded := none, lastBegun := none
                  lastRequested := none }
              cp :=
                { s.cp with
                  lock := true
                  digest := configDigest s.cp.config
                  ownership := deriveOwnership s.cp.config s.cp.station } }
            t))

/-- R79, R165, R166, R213: STOP. In MEMBER the station becomes LEAVING with a LEAVE queued or owed,
its vote timers cancelled and each direction with a neighbour reset: the record at its reset values,
the HALO parcels to that neighbour withdrawn, an UNRESOLVED side CLAMPED. In LISTENING, JOINING and
ISOLATED it becomes STOPPED, detached, with empty queues and both direction records at their reset
values (DEDUCED, log entry 47); elsewhere it is refused. The lock, the digest, the banks, the totals,
the flags and the Agreed State stand. -/
def Obligations.StopLeavesOrStops : Prop :=
  ∀ (s : State) (v : Word32), Live s →
    ∃ t code, exec (.stop v) s = .next t ∧ Answered t 3 0x101 code 0 ∧
      (s.cu.membership = .offline ∨ s.cu.membership = .stopped ∨ s.cu.membership = .leaving →
        code = .refusedState ∧ Transacted s t) ∧
      (s.cu.membership = .member →
        code = .ok ∧ t.cu.membership = .leaving ∧ t.cu.timers = [] ∧ t.cu.heldExpiries = [] ∧
        t.cu.owedCloses = [] ∧ t.fs = s.fs ∧ t.li = s.li ∧ t.lb = s.lb ∧ t.op = s.op ∧
        (s.pli.urgent.length < 8 →
          t.cu.leaveOwed = false ∧ t.pli.urgent = s.pli.urgent ++ [.leave]) ∧
        (8 ≤ s.pli.urgent.length → t.cu.leaveOwed = true ∧ t.pli.urgent = s.pli.urgent) ∧
        (∀ side,
          (neighbourOf s side = none →
            dirOf t side = dirOf s side ∧ sideRecord t side = sideRecord s side) ∧
          (neighbourOf s side ≠ none →
            AtRest (sideSize side) (dirOf s side) (dirOf t side) ∧
            (sideUnresolved s side = true →
              sideRecord t side =
                some { lines := some (List.replicate (sideSize side) HaloLine.clamped) }) ∧
            (sideUnresolved s side = false → sideRecord t side = sideRecord s side))) ∧
        t.hx.timer = s.hx.timer ∧
        ((∀ x, s.pli.tx = some x → x.bulk = false) →
          t.pli.tx = s.pli.tx ∧
          t.pli.bulk =
            s.pli.bulk.filter fun h =>
              neighbourOf s .upper ≠ some h.addressee ∧
                neighbourOf s .lower ≠ some h.addressee)) ∧
      (s.cu.membership = .listening ∨ s.cu.membership = .joining ∨ s.cu.membership = .isolated →
        code = .ok ∧ t.cu.membership = .stopped ∧ t.pli.attached = false ∧ t.pli.urgent = [] ∧
        t.pli.bulk = [] ∧ t.pli.tx = none ∧ t.pli.idleMonitor = false ∧ t.li.marker = none ∧
        t.lb.build = none ∧ t.lb.frames = [] ∧ t.lb.decisions = [] ∧
        (s.lb.build ≠ none ∨ s.sc.scaling = none → t.sc.scaling = none) ∧
        AtRest 3 s.hx.up t.hx.up ∧ AtRest 4 s.hx.down t.hx.down ∧
        (s.lb.build ≠ none →
          t.hx.upperSide = none ∧ t.hx.lowerSide = none ∧ t.hx.timer = false) ∧
        t.sc.outgoing = none ∧ t.op.fb0 = none ∧ t.op.fb1 = none ∧ t.op.emission = none) ∧
      t.cu.agreed = s.cu.agreed ∧ t.sc.bankA = s.sc.bankA ∧ t.sc.bankB = s.sc.bankB ∧
      t.sc.commit = s.sc.commit ∧ t.cp.lock = s.cp.lock ∧ t.cp.digest = s.cp.digest ∧
      t.cp.config = s.cp.config ∧ t.cp.totals = s.cp.totals ∧ t.cp.events = s.cp.events ∧
      t.cp.enables = s.cp.enables

/-- R120, R128, R211: FORCE and LOOP ask for their parcel in MEMBER: OK and queued last, or
QUEUE_FULL; REFUSED_STATE elsewhere. -/
def Obligations.ForceAndLoopQueueTheirParcel : Prop :=
  ∀ (s : State) (v : Word32) (q : Queued) (c : Instr) (item : Word16), Live s →
    ((c = .force v ∧ item = 0x103 ∧
        ∃ code phase, argForce v = some (code, phase) ∧ q = .force code phase ∧
          (code = .film22 → phase ≤ 1) ∧ (code = .film32 → phase ≤ 4)) ∨
      (c = .loop v ∧ item = 0x104 ∧
        ∃ code value, argLoop v = some (code, value) ∧ q = .loopSet code value ∧
          (code = .held → value ≤ 1023))) →
    ∃ t code, exec c s = .next t ∧ Answered t 3 item code 0 ∧
      (s.cu.membership ≠ .member → code = .refusedState ∧ Transacted s t) ∧
      (s.cu.membership = .member → 8 ≤ s.pli.urgent.length →
        code = .queueFull ∧ Transacted s t) ∧
      (s.cu.membership = .member → s.pli.urgent.length < 8 →
        code = .ok ∧
        Transacted (s.setPli { s.pli with urgent := s.pli.urgent ++ [q] }) t)

/-- R120, R128, R211: an argument of FORCE or LOOP that cannot be decoded, or that fails the value
test of its action, gives BAD_VALUE and changes nothing, in every membership state. -/
def Obligations.BadArgumentsAreRefused : Prop :=
  ∀ (s : State) (v : Word32), Live s →
    (5 ≤ v.toNat / 16 ∨ (v.toNat / 16 = 2 ∧ 1 < v.toNat % 16) ∨
        (v.toNat / 16 = 3 ∧ 4 < v.toNat % 16) →
      ∃ t, exec (.force v) s = .next t ∧ Answered t 3 0x103 .badValue 0 ∧ Transacted s t) ∧
    (3 ≤ v.toNat / 65536 ∨ (v.toNat / 65536 = 1 ∧ 1023 < v.toNat % 65536) →
      ∃ t, exec (.loop v) s = .next t ∧ Answered t 3 0x104 .badValue 0 ∧ Transacted s t)

/-- R187: SELECT_BANK's tests in order after the value test, and the BANK_SELECT it queues. -/
def Obligations.SelectBankTestsAndQueues : Prop :=
  (∀ (s : State) (v : Word32), Live s → 1 < v.toNat →
    ∃ t, exec (.selectBank v) s = .next t ∧ Answered t 3 0x105 .badValue 0 ∧ Transacted s t) ∧
  ∀ (s : State) (v : Word32) (b : BankName), Live s →
    (v = 0 ∧ b = .bankA ∨ v = 1 ∧ b = .bankB) →
    ∃ t code, exec (.selectBank v) s = .next t ∧ Answered t 3 0x105 code 0 ∧
      (s.cu.membership ≠ .member ∨ s.cu.agreed.lastClosed = none →
        code = .refusedState ∧ Transacted s t) ∧
      (∀ last, s.cu.membership = .member → s.cu.agreed.lastClosed = some last →
        (s.cu.agreed.bank.pending ≠ none ∨
            (∃ x d f, Queued.bankSelect x d f ∈ s.pli.urgent) ∨ (bankOf s b).state = .writing →
          code = .busy ∧ Transacted s t) ∧
        (s.cu.agreed.bank.pending = none → (∀ x d f, Queued.bankSelect x d f ∉ s.pli.urgent) →
          ((bankOf s b).state = .empty ∨ (bankOf s b).state = .loading →
            code = .noCoefficients ∧ Transacted s t) ∧
          ((bankOf s b).state = .ready → 8 ≤ s.pli.urgent.length →
            code = .queueFull ∧ Transacted s t) ∧
          ((bankOf s b).state = .ready → s.pli.urgent.length < 8 →
            code = .ok ∧
            Transacted
              (s.setPli
                { s.pli with
                  urgent :=
                    s.pli.urgent ++ [.bankSelect b (bankOf s b).digest (last + 4)] }) t)))

/-- R180: COMMIT_PAGE's tests in order, and the commit an accepted one begins. -/
def Obligations.CommitPageTestsAndBegins : Prop :=
  (∀ (s : State) (v : Word32), Live s → 31 < v.toNat →
    ∃ t, exec (.commitPage v) s = .next t ∧ Answered t 3 0x106 .badValue 0 ∧ Transacted s t) ∧
  ∀ (s : State) (v : Word32) (b : BankName) (tb : TableName) (page : Nat), Live s →
    page ≤ 7 →
    v.toNat =
      (if b = .bankA then 0 else 16) + (if tb = .vertical then 0 else 8) + page →
    ∃ t code, exec (.commitPage v) s = .next t ∧ Answered t 3 0x106 code 0 ∧
      (s.sc.commit ≠ none → code = .busy ∧ Transacted s t) ∧
      (s.sc.commit = none → ProtectedBank s b → code = .bankActive ∧ Transacted s t) ∧
      (s.sc.commit = none → ¬ProtectedBank s b →
        code = .ok ∧
        Transacted
          (s.setSc
            { s.sc with
              bankA := if b = .bankA then { s.sc.bankA with state := .writing } else s.sc.bankA
              bankB := if b = .bankB then { s.sc.bankB with state := .writing } else s.sc.bankB
              commit := some { bank := b, table := tb, page := page, coeffs := s.sc.staging } })
          t)

/-- R183: CLEAR_BANK's tests in order, and the cleared bank. -/
def Obligations.ClearBankTestsAndClears : Prop :=
  (∀ (s : State) (v : Word32), Live s → 1 < v.toNat →
    ∃ t, exec (.clearBank v) s = .next t ∧ Answered t 3 0x107 .badValue 0 ∧ Transacted s t) ∧
  ∀ (s : State) (v : Word32) (b : BankName), Live s →
    (v = 0 ∧ b = .bankA ∨ v = 1 ∧ b = .bankB) →
    ∃ t code, exec (.clearBank v) s = .next t ∧ Answered t 3 0x107 code 0 ∧
      ((∃ c, s.sc.commit = some c ∧ c.bank = b) → code = .busy ∧ Transacted s t) ∧
      ((∀ c, s.sc.commit = some c → c.bank ≠ b) → ProtectedBank s b →
        code = .bankActive ∧ Transacted s t) ∧
      ((∀ c, s.sc.commit = some c → c.bank ≠ b) → ¬ProtectedBank s b →
        code = .ok ∧
        Transacted
          (s.setSc
            { s.sc with
              bankA := if b = .bankA then Bank.cleared else s.sc.bankA
              bankB := if b = .bankB then Bank.cleared else s.sc.bankB }) t ∧
        Bank.cleared.state = .empty ∧ Bank.cleared.digest = 0 ∧ Bank.cleared.pages = 0 ∧
        (∀ i, i < 512 → Bank.cleared.vertical[i]? = some 0 ∧ Bank.cleared.horizontal[i]? = some 0))

/-- R181: the completion of the commit in flight. -/
def Obligations.CommitCompletionWritesThePage : Prop :=
  ∀ (s : State) (c : Commit), Live s → s.sc.commit = some c → c.page ≤ 7 →
    c.coeffs.length = 64 → (bankOf s c.bank).vertical.length = 512 →
    (bankOf s c.bank).horizontal.length = 512 →
    ∃ t, exec .commitComplete s = .next t ∧
      (∀ i, i < 512 →
        (bankOf t c.bank).vertical[i]? =
          (if c.table = .vertical ∧ 64 * c.page ≤ i ∧ i < 64 * c.page + 64
            then c.coeffs[i - 64 * c.page]? else (bankOf s c.bank).vertical[i]?) ∧
        (bankOf t c.bank).horizontal[i]? =
          (if c.table = .horizontal ∧ 64 * c.page ≤ i ∧ i < 64 * c.page + 64
            then c.coeffs[i - 64 * c.page]? else (bankOf s c.bank).horizontal[i]?)) ∧
      (∀ p, p < 16 →
        (bankOf t c.bank).pages.getLsbD p =
          ((bankOf s c.bank).pages.getLsbD p ||
            (p == (if c.table = .vertical then 0 else 8) + c.page))) ∧
      (bankOf t c.bank).digest.toNat =
        ((((bankOf t c.bank).vertical ++ (bankOf t c.bank).horizontal).map fun x =>
          if x.toInt < 0 then (65536 + x.toInt).toNat else x.toNat).sum) % 65536 ∧
      (bankOf t c.bank).state =
        (if (bankOf t c.bank).pages = BitVec.allOnes 16 then .ready else .loading) ∧
      t.sc.commit = none ∧ t.cp.events = s.cp.events ||| 1#12 <<< 8 ∧
      t =
        (s.setSc
          { s.sc with
            bankA := if c.bank = .bankA then t.sc.bankA else s.sc.bankA
            bankB := if c.bank = .bankB then t.sc.bankB else s.sc.bankB
            commit := none }).setCp { s.cp with events := t.cp.events }

/-! ## The station as a whole -/

/-- A step takes the command at the front of the queue and answers what it does on the state with
the queue's rest; with an empty queue the block idles (DESIGN CHOICE, log entry 2). -/
def Obligations.StepRunsTheFrontCommand : Prop :=
  (∀ (c : Instr) (rest : List Instr) (s : State),
    step (s.setPending (c :: rest)) = exec c (s.setPending rest)) ∧
  (∀ s : State, s.pending = [] → step s = .next s)

/-- Every command answers a next state from every state, and no command touches the queue (that no
command faults is DEDUCED, log entry 38; that the block takes its commands from a queue is DESIGN
CHOICE, log entry 2). -/
def Obligations.EveryCommandAnswersNext : Prop :=
  ∀ (c : Instr) (s : State), ∃ t, exec c s = .next t ∧ t.pending = s.pending

/-- R204, R214: driving the reset pin low stops the station driving the line, and while it is held
no command but its release acts (DESIGN CHOICE, log entry 4). -/
def Obligations.HeldResetPinStopsCommands : Prop :=
  (∀ s : State, Live s →
    exec .resetPinDrivenLow s = .next
      { s with
        pli := { s.pli with attached := false, tx := none, ackDrive := .none }
        cp := { s.cp with resetHeld := true } }) ∧
  (∀ (c : Instr) (s : State), s.cp.resetHeld = true → (∀ n, c ≠ .powerOnReset n) →
    exec c s = .next s)

/-- R204, R214: the release of the reset pin, from any state, and the RESET action bring every block
to its reset values, with the station number read from the straps; the transaction that carries a
RESET shifts out the previous result as it stood. The queue of waiting commands and the count of free
values (DESIGN CHOICE, log entry 10) are the model's own and go on; the reset values of the recorded
outputs within State.afterReset are DESIGN CHOICE, log entry 9. -/
def Obligations.ResetRestoresEveryBlock : Prop :=
  ∀ (s : State) (n : Station) (v : Word32),
    exec (.powerOnReset n) s =
      .next { State.afterReset n with freeCount := s.freeCount, pending := s.pending } ∧
    (Live s →
      ∃ t, exec (.reset v n) s = .next t ∧
        t =
          { State.afterReset n with
            freeCount := s.freeCount, pending := s.pending
            cp := { (State.afterReset n).cp with dataOut := t.cp.dataOut } } ∧
        t.cp.dataOut[0] = s.cp.result.kind ∧
        t.cp.dataOut[1] ++ t.cp.dataOut[2] = s.cp.result.item ∧
        t.cp.dataOut[3] = resultNumber s.cp.result.code ∧
        t.cp.dataOut[4] ++ t.cp.dataOut[5] ++ t.cp.dataOut[6] ++ t.cp.dataOut[7] =
          s.cp.result.value)

/-- R3, R19, R26, R59, R61, R84, R94, R95, R107, R130, R150, R158, R168, R177, R179, R190, R205, R208, R214:
the reset values the rules give. -/
def Obligations.ResetValuesAreTheRules : Prop :=
  ∀ (n : Station) (s : State), s = State.afterReset n →
    s.li.marker = none ∧ s.li.duplicates = 0 ∧
    s.fs.slots.length = 5 ∧ (∀ sl ∈ s.fs.slots, sl.occupant = none ∧ sl.holders = []) ∧
    s.fs.claimCounter = 0 ∧ s.fa.pending = [] ∧ s.fa.lastResult = none ∧
    s.fa.accumulators =
      { d1 := 0, d2 := 0, comb := 0, stillTotal := 0, stillCount := 0, samples := 0 } ∧
    s.cu.membership = .offline ∧ s.cu.heard = [] ∧ s.cu.foundingBar = false ∧
    s.cu.listenCount = 0 ∧ s.cu.snapshotWait = 0 ∧ s.cu.isolationWait = 0 ∧
    s.cu.leaveOwed = false ∧ s.cu.timers = [] ∧ s.cu.heldExpiries = [] ∧ s.cu.owedCloses = [] ∧
    s.cu.agreed.roster = [] ∧ s.cu.agreed.epoch = 0 ∧ s.cu.agreed.openRounds = [] ∧
    s.cu.agreed.lastClosed = none ∧ s.cu.agreed.lastSignature = .none ∧
    s.cu.agreed.cadence = .video ∧
    s.cu.agreed.loop =
      { mode := .auto, t := 64, history := [], trendUp := false, trendDown := false } ∧
    s.cu.agreed.bank = { active := .bankA, digest := 0, pending := none } ∧
    s.cu.completeCount = 0 ∧ s.cu.closedCount = 0 ∧ s.cu.supersededCount = 0 ∧
    s.cu.overtakenCount = 0 ∧
    s.pli.attached = false ∧ s.pli.urgent = [] ∧ s.pli.bulk = [] ∧ s.pli.tx = none ∧
    s.pli.urgentAttempts = 0 ∧ s.pli.bulkAttempts = 0 ∧ s.pli.urgentDiscards = 0 ∧
    s.pli.idleMonitor = false ∧
    s.lb.build = none ∧ s.lb.frames = [] ∧ s.lb.decisions = [] ∧ s.lb.lastBegun = none ∧
    s.lb.lastRequested = none ∧ s.lb.newestBegun = none ∧ s.lb.lastEnded = none ∧
    (∀ d, d = s.hx.up ∨ d = s.hx.down →
      d.credit = 2 ∧ d.pending = none ∧ d.outbound = [] ∧ d.release = 0 ∧ d.letGo = none ∧
      d.setsSent = 0 ∧ d.setsSuperseded = 0 ∧ d.setsLost = 0 ∧ d.slots.length = 2 ∧
      ∀ sl ∈ d.slots, sl.state = .free) ∧
    s.hx.upperSide = none ∧ s.hx.lowerSide = none ∧ s.hx.timer = false ∧
    s.sc.scaling = none ∧ s.sc.outgoing = none ∧ s.sc.commit = none ∧
    (∀ b, (bankOf s b).state = .empty ∧ (bankOf s b).pages = 0 ∧ (bankOf s b).digest = 0 ∧
      (bankOf s b).vertical.length = 512 ∧ (bankOf s b).horizontal.length = 512 ∧
      ∀ x, x ∈ (bankOf s b).vertical ∨ x ∈ (bankOf s b).horizontal → x = 0) ∧
    s.sc.staging = List.replicate 64 0 ∧
    s.op.fb0 = none ∧ s.op.fb1 = none ∧ s.op.emission = none ∧ s.op.lastAnswer = .none ∧
    s.op.lastAsked = none ∧
    s.cp.lock = false ∧ s.cp.digest = 0 ∧ s.cp.station = n ∧ s.cp.events = 0 ∧
    s.cp.enables = 0 ∧ s.cp.result = { kind := 0, item := 0, code := .none, value := 0 } ∧
    attention s = false ∧
    s.cp.ownership.rule = none ∧ s.cp.ownership.coreLow = 0 ∧ s.cp.ownership.coreHigh = 0 ∧
    s.cp.ownership.windowLow = 0 ∧ s.cp.ownership.windowHigh = 0 ∧
    s.cp.ownership.firstRow = 0 ∧ s.cp.ownership.rowCount = 0 ∧
    s.cp.ownership.upper = .none ∧ s.cp.ownership.lower = .none ∧
    (∀ v ∈ totalItems s.cp.totals, v = 0) ∧
    s.cp.config.mode525 = false ∧ s.cp.config.large = false ∧ s.cp.config.ruleCount = 1 ∧
    s.cp.config.voteWindow = 4 ∧ s.cp.config.haloWait = 10 ∧ s.cp.config.stillLimit = 3 ∧
    s.cp.config.combLimit = 24 ∧ s.cp.config.loopGain = 3 ∧ s.cp.config.fillY = 64 ∧
    s.cp.config.fillCb = 512 ∧ s.cp.config.fillCr = 512 ∧
    s.cp.config.rules =
      { limit := 576, owner := 0, kind := .full } ::
        List.replicate 7 { limit := 0, owner := 0, kind := .full }

/-! ## Line Intake and the Field Store (chapter 2) -/

/-- R20, R27, R28, R105, R132: FIELD_BEGIN with no open field, for a slot that is granted: the
lowest-numbered FREE slot without a holder, or with none FREE the CLOSED one without a holder that
was claimed longest ago. Its table has an ABSENT entry for each window field line of the parity.
The claim number is the counter before it rises (DEDUCED, log entry 18), and an overtaken round is
counted at a FILL owner too (DEDUCED, log entry 25). -/
def Obligations.FieldBeginClaimsTheSlotGranted : Prop :=
  ∀ (s : State) (w f : Word16) (rest : List Word16) (i : Nat) (sl : Slot),
    Live s → s.cu.membership.running = true → s.li.marker = none → busKind w = 2 →
    s.fs.slots[i]? = some sl → sl.holders = [] →
    ((sl.occupant = none ∧
        ∀ (j : Nat) (x : Slot), j < i → s.fs.slots[j]? = some x → x.holders ≠ [] ∨ x.occupant ≠ none) ∨
      (∃ o, sl.occupant = some o ∧ o.closed = true ∧
        (∀ (j : Nat) (x : Slot), s.fs.slots[j]? = some x → x.holders = [] → x.occupant ≠ none) ∧
        ∀ (j : Nat) (x : Slot) p, j ≠ i → s.fs.slots[j]? = some x → x.holders = [] → x.occupant = some p →
          p.closed = true →
          (s.fs.claimCounter - 1 - p.claim).toNat < (s.fs.claimCounter - 1 - o.claim).toNat)) →
    ∃ t o, exec (.fieldBegin (w :: f :: rest)) s = .next t ∧
      t.li = { s.li with marker := some { field := f, parity := busParity w, slot := some i } } ∧
      t.fs.slots = s.fs.slots.set i { occupant := some o, holders := [] } ∧
      t.fs.claimCounter = s.fs.claimCounter + 1 ∧
      o.closed = false ∧ o.field = f ∧ o.parity = busParity w ∧ o.claim = s.fs.claimCounter ∧
      o.declared = none ∧
      (∀ l, (o.table.find? fun e => e.line == l) =
        if s.cp.ownership.inWindow (busParity w) l
        then some { line := l, state := .absent, spans := [], samples := none } else none) ∧
      t.fa = s.fa ∧ t.pli = s.pli ∧ t.hx = s.hx ∧ t.sc = s.sc ∧ t.op = s.op ∧ t.cp = s.cp ∧
      (s.cu.membership = .member → newerThan (f - 2) s.cu.agreed.lastClosed = true →
        t.cu = { s.cu with overtakenCount := s.cu.overtakenCount + 1 } ∧
        ∀ e ∈ t.lb.frames, e.frame = f - 2 → e.overtaken = true) ∧
      (s.cu.membership ≠ .member ∨ newerThan (f - 2) s.cu.agreed.lastClosed = false →
        t.cu = s.cu) ∧
      (s.cp.ownership.isFull = true → t.lb.newestBegun = some f)

/-- R20, R32, R105, R132: FIELD_BEGIN with no open field, when no slot is granted: the field is
discarded, and its begin is announced to the Consensus Unit and the Line Builder all the same (an
overtaken round is counted at a FILL owner too: DEDUCED, log entry 25). -/
def Obligations.FieldBeginDiscardsWithoutASlot : Prop :=
  ∀ (s : State) (w f : Word16) (rest : List Word16),
    Live s → s.cu.membership.running = true → s.li.marker = none → busKind w = 2 →
    (∀ sl ∈ s.fs.slots,
      sl.holders ≠ [] ∨ ∃ o, sl.occupant = some o ∧ o.closed = false) →
    ∃ t, exec (.fieldBegin (w :: f :: rest)) s = .next t ∧
      t.li = { s.li with marker := some { field := f, parity := busParity w, slot := none } } ∧
      t.fs = s.fs ∧ t.fa = s.fa ∧ t.pli = s.pli ∧ t.hx = s.hx ∧ t.sc = s.sc ∧ t.op = s.op ∧
      t.cp =
        { s.cp with
          events := s.cp.events ||| 1#12 <<< 7
          totals := { s.cp.totals with fieldDiscards := s.cp.totals.fieldDiscards + 1 } } ∧
      (s.cu.membership = .member → newerThan (f - 2) s.cu.agreed.lastClosed = true →
        t.cu = { s.cu with overtakenCount := s.cu.overtakenCount + 1 } ∧
        ∀ e ∈ t.lb.frames, e.frame = f - 2 → e.overtaken = true) ∧
      (s.cu.membership ≠ .member ∨ newerThan (f - 2) s.cu.agreed.lastClosed = false →
        t.cu = s.cu) ∧
      t.lb = { s.lb with frames := t.lb.frames, newestBegun := t.lb.newestBegun } ∧
      t.lb.frames.map (·.frame) = s.lb.frames.map (·.frame) ∧
      (∀ e ∈ t.lb.frames, e.frame ≠ f - 2 → e ∈ s.lb.frames) ∧
      (s.cp.ownership.isFull = true → t.lb.newestBegun = some f ∧
        (Applies s → decisionFor s.lb (f - 2) = none →
          ∀ e ∈ t.lb.frames, e.frame = f - 2 → e.overtaken = true)) ∧
      (s.cp.ownership.isFull = false → t.lb.newestBegun = s.lb.newestBegun) ∧
      (s.cu.membership ≠ .member ∨ newerThan (f - 2) s.cu.agreed.lastClosed = false →
        s.cp.ownership.isFull = false ∨ ¬Applies s ∨ decisionFor s.lb (f - 2) ≠ none →
        t.lb.frames = s.lb.frames)

/-- R20, R23, R24, R31, R66, R74, R83, R84, R94, R131: the end of an open field with a slot, at its
FIELD_END, which declares a line count, or before the next FIELD_BEGIN, which declares none; with
fewer than 16 analyses pending. What a vote timer starts with as its hand-over is DEDUCED, log entry
17; that it stands last in the list of timers is DESIGN CHOICE, log entry 53. -/
def Obligations.FieldEndClosesTheOpenField : Prop :=
  ∀ (s t : State) (m : OpenField) (i : Nat) (o : Occupant) (d : Option Nat) (w : Word16),
    Live s → s.cu.membership.running = true → s.li.marker = some m → m.slot = some i →
    ((s.fs.slots[i]?).bind (·.occupant)) = some o → s.fa.pending.length < 16 →
    t = endField m d s →
    (∀ rest, busKind w = 3 → d = some (w.toNat % 512) →
      exec (.fieldEnd (w :: m.field :: rest)) s = .next t) ∧
    (∀ f rest, busKind w = 2 → d = none →
      exec (.fieldBegin (w :: f :: rest)) s = exec (.fieldBegin (w :: f :: rest)) t) ∧
    t.li = { s.li with marker := none } ∧
    (slotAt t i).occupant =
      some
        { o with
          closed := true, declared := d
          table := o.table.map fun e => if e.state = .absent then { e with state := .lost } else e } ∧
    (∀ j, j ≠ i → (slotAt t j).occupant = (slotAt s j).occupant) ∧
    (∀ j h, h ∈ (slotAt s j).holders → h ∈ (slotAt t j).holders) ∧
    (∀ g j, (g = m.field ∨ g = m.field - 1 ∨ g = m.field - 2) → lookupField t g = some j →
      Holder.analysis o.claim ∈ (slotAt t j).holders) ∧
    t.fa.lastResult = s.fa.lastResult ∧
    t.fa.pending.map (fun a => (a.field, a.claim)) =
      s.fa.pending.map (fun a => (a.field, a.claim)) ++ [(m.field, some o.claim)] ∧
    (t.fa.pending.getLast?).map (·.held) =
      some
        { current := lookupField t m.field, previous := lookupField t (m.field - 1)
          beforePrevious := lookupField t (m.field - 2) } ∧
    t.cp =
      { s.cp with
        totals :=
          { s.cp.totals with
            lostSeg := s.cp.totals.lostSeg +
              BitVec.ofNat 32 (o.table.filter fun e => e.state == .absent).length
            lostProg := s.cp.totals.lostProg +
              BitVec.ofNat 32 (o.table.filter fun e => e.state == .absent).length } } ∧
    (s.cu.membership = .listening →
      t.cu = { s.cu with listenCount := min 2 (s.cu.listenCount + 1) }) ∧
    (s.cu.membership = .joining → joinQueued s = false →
      t.cu = { s.cu with snapshotWait := min 4 (s.cu.snapshotWait + 1) }) ∧
    (s.cu.membership = .joining → joinQueued s = true → t.cu = s.cu) ∧
    (s.cu.membership = .isolated →
      t.cu = { s.cu with isolationWait := min 4 (s.cu.isolationWait + 1) }) ∧
    (s.cu.membership = .leaving → t.cu = s.cu) ∧
    (s.cu.membership = .member → newerThan m.field s.cu.agreed.lastClosed = true →
      (∀ x ∈ s.cu.timers, x.field ≠ m.field) →
      t.cu = { s.cu with timers := s.cu.timers ++ [{ field := m.field, handed := false }] }) ∧
    (s.cu.membership = .member →
      (newerThan m.field s.cu.agreed.lastClosed = false ∨ ∃ x ∈ s.cu.timers, x.field = m.field) →
      t.cu = s.cu) ∧
    (s.cp.ownership.isFull = true → t.lb.lastEnded = some m.field ∧
      (fieldHeld t m.field = true → newerThan m.field s.lb.lastBegun = true →
        newerThan m.field s.lb.lastRequested = true → s.lb.frames.length < 3 →
        ∃ e ∈ t.lb.frames, e.frame = m.field)) ∧
    (s.cp.ownership.isFull = false → t.lb = s.lb) ∧
    t.pli = s.pli ∧ t.hx = s.hx ∧ t.sc = s.sc ∧ t.op = s.op

/-- R23, R24, R66, R74, R83, R84, R88, R94, R131: the end of a discarded field: no slot, entry or total
changes, and its analysis reads no slot. When the list of analyses is full the analysis does not join
it: its result NODATA is handed over at once. The field end counts in the waits and starts a vote
timer like any other, and at a FULL owner it is the last ended field; it adds no frame. That the timer
starts as handed over exactly when no analysis of its number is on the list, an earlier one of a
repeated number included, is DEDUCED, log entry 17; that it stands last in the list of timers is DESIGN
CHOICE, log entry 53. -/
def Obligations.DiscardedFieldEndsWithoutASlot : Prop :=
  ∀ (s : State) (m : OpenField) (w : Word16) (rest : List Word16),
    Live s → s.cu.membership.running = true → s.li.marker = some m → m.slot = none →
    busKind w = 3 →
    ∃ t, exec (.fieldEnd (w :: m.field :: rest)) s = .next t ∧
      t.li = { s.li with marker := none } ∧ t.fs = s.fs ∧ t.cp = s.cp ∧ t.sc = s.sc ∧
      t.op = s.op ∧
      (s.fa.pending.length < 16 → t.pli = s.pli ∧ t.hx = s.hx ∧
        t.fa.pending.map (fun a => (a.field, a.claim)) =
          s.fa.pending.map (fun a => (a.field, a.claim)) ++ [(m.field, none)] ∧
        t.fa.lastResult = s.fa.lastResult) ∧
      (16 ≤ s.fa.pending.length →
        t.fa = { s.fa with lastResult := some { field := m.field, figures := none } } ∧
        (s.cu.membership ≠ .member ∨ newerThan m.field s.cu.agreed.lastClosed = false →
          t.pli = s.pli ∧ t.hx = s.hx) ∧
        (s.cu.membership = .member → newerThan m.field s.cu.agreed.lastClosed = true →
          m.field ∉ s.cu.heldExpiries → s.pli.urgent.length < 8 →
          (∀ f g u d, Queued.report f g u d ∈ s.pli.urgent → f ≠ m.field) →
          t.pli =
              { s.pli with
                urgent :=
                  s.pli.urgent ++ [.report m.field none s.hx.up.release s.hx.down.release] } ∧
            t.hx =
              { s.hx with
                up := { s.hx.up with release := 0 }
                down := { s.hx.down with release := 0 } })) ∧
      (∀ joins : Bool, joins = decide (s.fa.pending.length < 16) →
        (∀ x ∈ s.cu.timers, x.field ≠ m.field) ∨ joins = true →
        (s.cu.membership = .listening →
          t.cu = { s.cu with listenCount := min 2 (s.cu.listenCount + 1) }) ∧
        (s.cu.membership = .joining → joinQueued s = false →
          t.cu = { s.cu with snapshotWait := min 4 (s.cu.snapshotWait + 1) }) ∧
        (s.cu.membership = .joining → joinQueued s = true → t.cu = s.cu) ∧
        (s.cu.membership = .isolated →
          t.cu = { s.cu with isolationWait := min 4 (s.cu.isolationWait + 1) }) ∧
        (s.cu.membership = .leaving → t.cu = s.cu) ∧
        (s.cu.membership = .member → newerThan m.field s.cu.agreed.lastClosed = false →
          t.cu = s.cu) ∧
        (s.cu.membership = .member → newerThan m.field s.cu.agreed.lastClosed = true →
          joins = true ∨ m.field ∉ s.cu.heldExpiries →
          (∀ x ∈ s.cu.timers, x.field ≠ m.field) →
          t.cu =
            { s.cu with
              timers :=
                s.cu.timers ++
                  [{ field := m.field
                     handed := !(joins || s.fa.pending.any fun a => a.field == m.field) }] }) ∧
        (s.cu.membership = .member → (∃ x ∈ s.cu.timers, x.field = m.field) → t.cu = s.cu)) ∧
      (s.cp.ownership.isFull = true → t.lb = { s.lb with lastEnded := some m.field }) ∧
      (s.cp.ownership.isFull = false → t.lb = s.lb)

/-- R15, R16, R21, R23: what Line Intake disregards. A run of another kind code, a marker with no
field number and every record in OFFLINE and STOPPED change nothing, nor does a FIELD_END that is
not the open field's; a line record outside the open field or of the other parity is counted as
stray, and so is one of fewer than 2 words; one of a discarded field or outside the window is not
counted. That a run of another kind code than the row's changes nothing is DESIGN CHOICE, log entry
43. -/
def Obligations.RecordsNotKeptChangeAtMostTheStrayCount : Prop :=
  ∀ (s : State) (words : List Word16) (w f : Word16) (rest : List Word16), Live s →
    (s.cu.membership.running = false →
      exec (.fieldBegin words) s = .next s ∧ exec (.lineRecord words) s = .next s ∧
      exec (.fieldEnd words) s = .next s) ∧
    (busKind w ≠ 2 → exec (.fieldBegin (w :: rest)) s = .next s) ∧
    (busKind w ≠ 1 → exec (.lineRecord (w :: rest)) s = .next s) ∧
    (busKind w ≠ 3 → exec (.fieldEnd (w :: rest)) s = .next s) ∧
    exec (.fieldBegin [w]) s = .next s ∧ exec (.fieldEnd [w]) s = .next s ∧
    (busKind w = 1 → s.cu.membership.running = true →
      exec (.lineRecord [w]) s =
        .next
          (s.setTotals { s.cp.totals with strayLines := s.cp.totals.strayLines + 1 })) ∧
    ((∀ m, s.li.marker = some m → m.field ≠ f) →
      exec (.fieldEnd (w :: f :: rest)) s = .next s) ∧
    (busKind w = 1 → s.cu.membership.running = true →
      (∀ m, s.li.marker = some m → m.field ≠ f ∨ m.parity ≠ busParity w) →
      exec (.lineRecord (w :: f :: rest)) s =
        .next
          (s.setTotals { s.cp.totals with strayLines := s.cp.totals.strayLines + 1 })) ∧
    (∀ m, s.li.marker = some m → m.field = f → m.parity = busParity w →
      m.slot = none ∨ s.cp.ownership.inWindow m.parity (w.toNat % 512) = false →
      exec (.lineRecord (w :: f :: rest)) s = .next s)

/-- R16, R17, R18, R21, R22: a kept line record writes its entry: its samples in the order Cb, Y,
Cr, Y after the spans, VALID without a span, DROPOUT with its spans in order, and DROPOUT as a whole
under the overflow mark or when it is not well formed. An entry that was not ABSENT counts a
duplicate. No other entry, slot or count changes. -/
def Obligations.KeptLineRecordWritesItsEntry : Prop :=
  ∀ (s : State) (w : Word16) (body : List Word16) (m : OpenField) (i : Nat) (sl : Slot)
    (o : Occupant) (old : LineEntry),
    Live s → s.cu.membership.running = true → busKind w = 1 → s.li.marker = some m →
    m.slot = some i → m.parity = busParity w →
    s.cp.ownership.inWindow m.parity (w.toNat % 512) = true →
    s.fs.slots[i]? = some sl → sl.occupant = some o →
    (o.table.find? fun e => e.line == w.toNat % 512) = some old →
    ∃ t e v, exec (.lineRecord (w :: m.field :: body)) s = .next t ∧
      t =
        (s.setLi
          { s.li with
            duplicates := if old.state = .absent then s.li.duplicates else s.li.duplicates + 1 }).setFs
          { s.fs with
            slots := s.fs.slots.set i
              { sl with
                occupant := some
                  { o with table := o.table.map fun x => if x.line = e.line then e else x } } } ∧
      e.line = w.toNat % 512 ∧ e.samples = some v ∧
      (recordWellFormed w body = true → busOverflow w = false → busSpanCount w = 0 →
        e.state = .valid ∧ e.spans = []) ∧
      (recordWellFormed w body = true → busOverflow w = false → 1 ≤ busSpanCount w →
        e.state = .dropout ∧ e.spans = readSpans (busSpanCount w) body) ∧
      (recordWellFormed w body = false ∨ busOverflow w = true →
        e.state = .dropout ∧ e.spans = [{ start := 0, length := 720 }]) ∧
      (∀ (k : Nat) (x : Nat → Sample), k < 360 → (∀ n, x n = low10 (body.getD (2 * busSpanCount w + 4 * k + n) 0)) →
        v.cb[k]? = some (x 0) ∧ v.y[2 * k]? = some (x 1) ∧ v.cr[k]? = some (x 2) ∧
        v.y[2 * k + 1]? = some (x 3))

/-! ## Waits, hand-overs and timers (chapters 4 and 5) -/

/-- R66, R74, R83: the JOIN at the end of the listen period, with the founding flag set when the
heard set is empty; the JOIN at the end of the SNAPSHOT wait, with the flag set when the founding
bar is clear, which is then cleared; the return to LISTENING at the end of the isolation wait of an
attached station. A request that the queue refuses changes nothing (log entry 39), and neither does a
row that is not due (DEDUCED, log entry 1). -/
def Obligations.WaitsEndWithTheirRequest : Prop :=
  ∀ s : State, Live s →
    (s.cu.membership = .listening → s.cu.listenCount = 2 → joinQueued s = false →
      s.pli.urgent.length < 8 →
      exec .listenPeriodEnd s = .next
        (s.setPli
          { s.pli with
            urgent := s.pli.urgent ++
              [.join s.cp.digest (s.cu.heard.isEmpty) (configWords s.cp.config)] })) ∧
    (s.cu.membership ≠ .listening ∨ s.cu.listenCount ≠ 2 ∨ joinQueued s = true ∨
        8 ≤ s.pli.urgent.length →
      exec .listenPeriodEnd s = .next s) ∧
    (s.cu.membership = .joining → s.cu.snapshotWait = 4 → joinQueued s = false →
      s.pli.urgent.length < 8 →
      exec .snapshotWaitEnd s = .next
        ((s.setCu { s.cu with foundingBar := false }).setPli
          { s.pli with
            urgent := s.pli.urgent ++
              [.join s.cp.digest (!s.cu.foundingBar) (configWords s.cp.config)] })) ∧
    (s.cu.membership ≠ .joining ∨ s.cu.snapshotWait ≠ 4 ∨ joinQueued s = true ∨
        8 ≤ s.pli.urgent.length →
      exec .snapshotWaitEnd s = .next s) ∧
    (s.cu.membership = .isolated → s.cu.isolationWait = 4 → s.pli.attached = true →
      exec .isolationWaitEnd s = .next
        (s.setCu
          { s.cu with
            membership := .listening, heard := [], foundingBar := false, listenCount := 0
            snapshotWait := 0, isolationWait := 0, leaveOwed := false })) ∧
    (s.cu.membership ≠ .isolated ∨ s.cu.isolationWait ≠ 4 ∨ s.pli.attached = false →
      exec .isolationWaitEnd s = .next s)

/-- R31, R84 to R88, R90: the hand-over of the analysis at the head of the list, and its figures. In
MEMBER, for a field newer than the last closed one, it queues the REPORT with the release counts
taken, and after it the CLOSE of a held expiry; elsewhere it queues nothing. In every case the result
becomes the last result, the holds of the analysis are removed and the next analysis is begun, on the
slots held for it. That the samples are read at the hand-over is DESIGN CHOICE, log entry 16; that a
hand-over marks the running timer of its number is DEDUCED, log entry 17; that
the hand-over changes nothing with an empty list is DEDUCED, log entry 1. -/
def Obligations.AnalysisHandoverReportsAndReleases : Prop :=
  FiguresRule ∧
  (∀ s : State, Live s → s.fa.pending = [] → exec .analysisHandover s = .next s) ∧
  ∀ (s : State) (a : Analysis) (rest : List Analysis) (q : Queued),
    Live s → s.fa.pending = a :: rest →
    q = .report a.field (analysisResult s a) s.hx.up.release s.hx.down.release →
    ∃ t, exec .analysisHandover s = .next t ∧
      t.fa.lastResult = some { field := a.field, figures := analysisResult s a } ∧
      t.fa.pending.map (fun x => (x.field, x.claim)) = rest.map (fun x => (x.field, x.claim)) ∧
      (∀ b more, rest = b :: more → b.start = none →
        t.fa.pending = { b with start := some (settleStart t b) } :: more ∧
        t.fa.accumulators =
          { d1 := 0, d2 := 0, comb := 0, stillTotal := 0, stillCount := 0, samples := 0 }) ∧
      (∀ c, a.claim = some c → ∀ sl ∈ t.fs.slots, Holder.analysis c ∉ sl.holders) ∧
      (∀ j, (slotAt t j).occupant = (slotAt s j).occupant) ∧
      (∀ x ∈ t.cu.timers, x.field = a.field → x.handed = true) ∧
      t.cu.agreed = s.cu.agreed ∧ t.cu.membership = s.cu.membership ∧
      t.li = s.li ∧ t.lb = s.lb ∧ t.sc = s.sc ∧ t.op = s.op ∧ t.cp = s.cp ∧
      (s.cu.membership ≠ .member ∨ newerThan a.field s.cu.agreed.lastClosed = false →
        t.pli = s.pli ∧ t.hx = s.hx) ∧
      (s.cu.membership = .member → newerThan a.field s.cu.agreed.lastClosed = true →
        (s.pli.urgent.length < 8 → (∀ x ∈ s.pli.urgent, sameRound q x = false) →
          t.hx =
            { s.hx with
              up := { s.hx.up with release := 0 }, down := { s.hx.down with release := 0 } } ∧
          (a.field ∉ s.cu.heldExpiries →
            t.pli = { s.pli with urgent := s.pli.urgent ++ [q] }) ∧
          (a.field ∈ s.cu.heldExpiries → s.pli.urgent.length < 7 →
            Queued.close a.field ∉ s.pli.urgent →
            t.pli = { s.pli with urgent := s.pli.urgent ++ [q, .close a.field] } ∧
            a.field ∉ t.cu.heldExpiries)) ∧
        (8 ≤ s.pli.urgent.length ∨ (∃ x ∈ s.pli.urgent, sameRound q x = true) →
          t.hx = s.hx ∧ (a.field ∉ s.cu.heldExpiries → t.pli = s.pli)))

/-- R79, R94, R95: the expiry of a vote timer in MEMBER, the requests made again for owed CLOSEs,
oldest round first, and for an owed LEAVE. The owed CLOSEs are held in the order of their rounds: an
expiry, and the requests made again, keep that order among numbers within one half of the numbering.
That a timer keeps whether the result of its number was handed over is DEDUCED, log entry 17. That each
row changes nothing when it is not due is DEDUCED, log entry 1. -/
def Obligations.TimersAndOwedRequests : Prop :=
  (∀ (s : State) (f : FieldNo), Live s → (∀ x ∈ s.cu.timers, x.field ≠ f) →
    exec (.voteTimerExpiry f) s = .next s) ∧
  (∀ (s : State) (f : FieldNo) (x : VoteTimer), Live s → s.cu.membership = .member →
    x ∈ s.cu.timers → x.field = f → (∀ y ∈ s.cu.timers, y.field = f → y = x) →
    ∃ t, exec (.voteTimerExpiry f) s = .next t ∧
      t =
        (s.setPli t.pli).setCu
          { s.cu with
            timers := s.cu.timers.filter fun y => y.field != f
            heldExpiries := t.cu.heldExpiries, owedCloses := t.cu.owedCloses } ∧
      (∀ base, WithinHalf base (f :: s.cu.owedCloses) → OldestFirst s.cu.owedCloses →
        OldestFirst t.cu.owedCloses) ∧
      (x.handed = false →
        f ∈ t.cu.heldExpiries ∧ t.cu.owedCloses = s.cu.owedCloses ∧ t.pli = s.pli) ∧
      (x.handed = true → t.cu.heldExpiries = s.cu.heldExpiries ∧
        (newerThan f s.cu.agreed.lastClosed = false →
          t.cu.owedCloses = s.cu.owedCloses ∧ t.pli = s.pli) ∧
        (newerThan f s.cu.agreed.lastClosed = true →
          (8 ≤ s.pli.urgent.length → f ∈ t.cu.owedCloses ∧ t.pli = s.pli) ∧
          (s.pli.urgent.length < 8 → Queued.close f ∈ s.pli.urgent →
            t.cu.owedCloses = s.cu.owedCloses ∧ t.pli = s.pli) ∧
          (s.pli.urgent.length < 8 → Queued.close f ∉ s.pli.urgent →
            t.cu.owedCloses = s.cu.owedCloses ∧
            t.pli = { s.pli with urgent := s.pli.urgent ++ [.close f] })))) ∧
  (∀ s : State, Live s → s.cu.membership = .member ∨ s.cu.owedCloses = [] →
    ∃ (t : State) (asked : List FieldNo), exec .closeRequeue s = .next t ∧ asked.Sublist s.cu.owedCloses ∧
      t =
        (s.setPli { s.pli with urgent := s.pli.urgent ++ asked.map Queued.close }).setCu
          { s.cu with owedCloses := t.cu.owedCloses } ∧
      (∀ f ∈ asked, newerThan f s.cu.agreed.lastClosed = true) ∧
      (s.cu.owedCloses.Nodup → ∀ f ∈ asked, f ∉ t.cu.owedCloses) ∧
      (∀ base, WithinHalf base s.cu.owedCloses → OldestFirst s.cu.owedCloses →
        OldestFirst asked ∧ OldestFirst t.cu.owedCloses) ∧
      (∀ f ∈ s.cu.owedCloses, newerThan f s.cu.agreed.lastClosed = true →
        Queued.close f ∈ t.pli.urgent ∨ (f ∈ t.cu.owedCloses ∧ 8 ≤ t.pli.urgent.length)) ∧
      (∀ f ∈ t.cu.owedCloses,
        f ∈ s.cu.owedCloses ∧ newerThan f s.cu.agreed.lastClosed = true)) ∧
  (∀ s : State, Live s →
    (s.cu.membership = .leaving → s.cu.leaveOwed = true → s.pli.urgent.length < 8 →
      exec .leaveRequeue s = .next
        ((s.setCu { s.cu with leaveOwed := false }).setPli
          { s.pli with urgent := s.pli.urgent ++ [.leave] })) ∧
    (s.cu.membership ≠ .leaving ∨ s.cu.leaveOwed = false ∨ 8 ≤ s.pli.urgent.length →
      exec .leaveRequeue s = .next s))

/-! ## The line (chapter 3) -/

/-- R16, R37, R39, R41, R42, R43, R44, R69, R83, R127, R154, R188: an idle point. A running station that is detached becomes
attached; one that is attached, may offer and has nothing in transmission offers the head of its
Urgent Queue, or of its Bulk Queue when that is empty, with its station number and epoch, and wins
unless another station drives a lower arbitration value, priority × 8 + station number. What it then
drives are the parts of that parcel, with the check it computes over them: the fields that fill whole
payload words in the order of their lists, and the samples of a HALO in the order of the bus record
(DEDUCED, log entry 48); the words that no rule packs are free values (DESIGN CHOICE, log entry 12). A
loss changes nothing. Attaching and offering at
one idle point is DEDUCED, log entry 15; that a head carried 8 times is not offered is DEDUCED, log
entry 30. -/
def Obligations.IdlePointAttachesAndContends : Prop :=
  ∀ (s : State) (others : Option (Fin 128)), Live s →
    (s.cu.membership.running = false → exec (.idlePoint others) s = .next s) ∧
    (s.cu.membership.running = true → s.pli.attached = false →
      ¬(s.cu.membership = .isolated ∧ s.cu.isolationWait = 4) →
      exec (.idlePoint others) s =
        exec (.idlePoint others) (s.setPli { s.pli with attached := true })) ∧
    (s.cu.membership = .isolated → s.cu.isolationWait = 4 → s.pli.attached = false →
      exec (.idlePoint others) s =
        exec (.idlePoint others)
          ((s.setPli { s.pli with attached := true }).setCu
            { s.cu with
              membership := .listening, heard := [], foundingBar := false, listenCount := 0
              snapshotWait := 0, isolationWait := 0, leaveOwed := false })) ∧
    (s.pli.attached = true → (s.pli.tx ≠ none ∨ s.cu.membership = .isolated) →
      exec (.idlePoint others) s = .next s) ∧
    (s.pli.attached = true → s.pli.tx = none →
      s.cu.membership = .listening ∨ s.cu.membership = .joining ∨ s.cu.membership = .member ∨
        s.cu.membership = .leaving →
      (s.pli.urgent = [] → s.pli.bulk = [] → exec (.idlePoint others) s = .next s) ∧
      (∀ q rest, s.pli.urgent = q :: rest → s.pli.urgentAttempts < 8 →
        ((∀ v, others = some v →
            kindPriority (queuedKind q) * 8 + s.cp.station.val ≤ v.val) →
          exec (.idlePoint others) s = .next
            (s.setPli
              { s.pli with
                tx := some
                  { bulk := false, mark := none
                    parcel :=
                      { sender := s.cp.station, epoch := s.cu.agreed.epoch
                        content := fillContent s.cu.agreed q }
                    sent :=
                      drivenParts
                        { sender := s.cp.station, epoch := s.cu.agreed.epoch
                          content := fillContent s.cu.agreed q } } })) ∧
        ((∃ v, others = some v ∧
            v.val < kindPriority (queuedKind q) * 8 + s.cp.station.val) →
          exec (.idlePoint others) s = .next s)) ∧
      (∀ p rest, s.pli.urgent = [] → s.pli.bulk = p :: rest → s.pli.bulkAttempts < 8 →
        ((∀ v, others = some v → 72 + s.cp.station.val ≤ v.val) →
          exec (.idlePoint others) s = .next
            (s.setPli
              { s.pli with
                tx := some
                  { bulk := true, mark := none
                    parcel :=
                      { sender := s.cp.station, epoch := s.cu.agreed.epoch, content := .halo p }
                    sent :=
                      drivenParts
                        { sender := s.cp.station, epoch := s.cu.agreed.epoch
                          content := .halo p } } })) ∧
        ((∃ v, others = some v ∧ v.val < 72 + s.cp.station.val) →
          exec (.idlePoint others) s = .next s)) ∧
      ((s.pli.urgent ≠ [] ∧ 8 ≤ s.pli.urgentAttempts) ∨
          (s.pli.urgent = [] ∧ 8 ≤ s.pli.bulkAttempts) →
        exec (.idlePoint others) s = .next s)) ∧
    (∀ p : Parcel,
      (drivenParts p).complete = true ∧
      (drivenParts p).priority.toNat = kindPriority (contentKind p.content) ∧
      (drivenParts p).station.toNat = p.sender.val ∧ (drivenParts p).epoch = p.epoch ∧
      (drivenParts p).content = p.content ∧
      (drivenParts p).check = crc16 (checkedBits (drivenParts p)) ∧
      (lengthInRange (contentKind p.content) (contentLength p.content) = true →
        (drivenParts p).length.toNat = contentLength p.content ∧
        (drivenParts p).payload.length = contentLength p.content ∧
        intact (drivenParts p) = true ∧ readingParcel (drivenParts p) = p)) ∧
    (∀ (p : Parcel) (words : List Word16), words = (drivenParts p).payload →
      (∀ f, p.content = .close f → words = [f]) ∧ (p.content = .leave → words = []) ∧
      (∀ d founding ws, p.content = .join d founding ws →
        words.length = 2 + ws.length ∧ words[0]? = some d ∧ words.drop 2 = ws) ∧
      (∀ c v, p.content = .loopSet c v →
        words.length = 2 ∧ words[1]? = some (BitVec.ofNat 16 v)) ∧
      (∀ b d n, p.content = .bankSelect b d n →
        words.length = 3 ∧ words[1]? = some d ∧ words[2]? = some n) ∧
      (∀ f g u d, p.content = .report f g u d → words[0]? = some f) ∧
      (∀ h, p.content = .halo h →
        words.length = 1442 ∧
        ∀ (k : Nat) (b y0 r y1 : Sample), k < 360 → h.samples.cb[k]? = some b →
          h.samples.y[2 * k]? = some y0 → h.samples.cr[k]? = some r →
          h.samples.y[2 * k + 1]? = some y1 →
          (words[4 * k + 2]?).map low10 = some b ∧ (words[4 * k + 3]?).map low10 = some y0 ∧
          (words[4 * k + 4]?).map low10 = some r ∧ (words[4 * k + 5]?).map low10 = some y1))

/-- R38, R52, R57, R81, R82: a detach report and an isolation notice. In LISTENING, JOINING and
MEMBER the station becomes ISOLATED, with its queues flushed, its timers cancelled, its Agreed State
kept and the flag ISOLATED set; in LEAVING it goes on to STOPPED; elsewhere the Consensus Unit is
unchanged. A row that is not due changes nothing (DEDUCED, log entry 1). -/
def Obligations.DetachAndIsolationReports : Prop :=
  ∀ (s : State) (c : Instr), Live s →
    ((c = .idleMonitorExpiry ∧ (s.pli.attached = false ∨ s.pli.idleMonitor = false)) ∨
        (c = .ownTransmissionNotSeen ∧ s.pli.attached = false) ∨
        (c = .isolationNotice ∧ s.pli.urgentDiscards < 2) →
      exec c s = .next s) ∧
    ((c = .idleMonitorExpiry ∧ s.pli.attached = true ∧ s.pli.idleMonitor = true) ∨
        (c = .ownTransmissionNotSeen ∧ s.pli.attached = true) ∨
        (c = .isolationNotice ∧ 2 ≤ s.pli.urgentDiscards) →
      ∃ t, exec c s = .next t ∧ t.cu.agreed = s.cu.agreed ∧
        (c ≠ .isolationNotice → t.pli.attached = false ∧ t.pli.tx = none) ∧
        (s.cu.membership = .listening ∨ s.cu.membership = .joining ∨ s.cu.membership = .member →
          t.cu.membership = .isolated ∧ t.cu.isolationWait = 0 ∧ t.cu.leaveOwed = false ∧
          t.cu.timers = [] ∧ t.cu.heldExpiries = [] ∧ t.cu.owedCloses = [] ∧
          t.pli.urgentDiscards = 0 ∧ t.pli.urgentAttempts = 0 ∧ t.pli.bulkAttempts = 0 ∧
          (t.pli.tx = none → t.pli.urgent = [] ∧ t.pli.bulk = []) ∧
          t.cp = { s.cp with events := s.cp.events ||| 1#12 <<< 3 } ∧
          t.li = s.li ∧ t.fs = s.fs ∧ t.fa = s.fa ∧ t.lb = s.lb ∧ t.op = s.op) ∧
        (s.cu.membership = .leaving →
          t.cu.membership = .stopped ∧ t.pli.attached = false ∧ t.pli.urgent = [] ∧
          t.pli.bulk = [] ∧ t.pli.tx = none ∧ t.li.marker = none ∧ t.lb.build = none ∧
          t.lb.frames = [] ∧ t.op.fb0 = none ∧ t.op.fb1 = none ∧ t.op.emission = none ∧
          t.cp = { s.cp with events := s.cp.events ||| 1#12 <<< 3 }) ∧
        (s.cu.membership = .isolated ∨ s.cu.membership = .offline ∨ s.cu.membership = .stopped →
          t.cu = s.cu ∧ t.cp = s.cp))

/-- R45, R46, R51, R58, R90: what becomes of a station's parcel in transmission that is cut short or
voided. Without a withdrawal mark it stays at the head of its queue, a void counting one attempt; a
marked one is removed, and a REPORT withdrawn by a request returns its release counts. A void of
another station's parcel changes nothing but what the station drove. That a parcel cut short with none
in transmission changes nothing is DEDUCED, log entry 37; the cause kept with the mark is DEDUCED, log
entry 29. -/
def Obligations.CutShortAndVoidAtTheSender : Prop :=
  ∀ (s : State) (r : Reading), Live s →
    (s.pli.tx = none → exec .parcelCutShort s = .next s) ∧
    (∀ x, s.pli.tx = some x → x.mark = none →
      exec .parcelCutShort s = .next (s.setPli { s.pli with tx := none })) ∧
    (s.pli.attached = false →
      exec (.parcelVoid r) s = .next (s.setPli { s.pli with ackDrive := .none })) ∧
    (∀ a, s.pli.attached = true →
      a = (if intact r = false ∨ voidsIntact s (readingParcel r) = true
        then AckDrive.void else AckDrive.recessive) →
      (s.pli.tx = none →
        exec (.parcelVoid r) s = .next (s.setPli { s.pli with ackDrive := a })) ∧
      (∀ x, s.pli.tx = some x → x.mark = none →
        exec (.parcelVoid r) s = .next
          (s.setPli
            { s.pli with
              ackDrive := a, tx := none
              urgentAttempts :=
                if x.bulk then s.pli.urgentAttempts else s.pli.urgentAttempts + 1
              bulkAttempts := if x.bulk then s.pli.bulkAttempts + 1 else s.pli.bulkAttempts }))) ∧
    (∀ x cause c, s.pli.tx = some x → x.mark = some cause →
      (c = .parcelCutShort ∨ (c = .parcelVoid r ∧ s.pli.attached = true)) →
      ∃ t, exec c s = .next t ∧ t = (s.setPli t.pli).setHx t.hx ∧ t.pli.tx = none ∧
        t.pli.attached = s.pli.attached ∧ t.pli.urgentDiscards = s.pli.urgentDiscards ∧
        (x.bulk = true →
          t.pli.bulk = s.pli.bulk.drop 1 ∧ t.pli.bulkAttempts = 0 ∧
          t.pli.urgent = s.pli.urgent ∧ t.pli.urgentAttempts = s.pli.urgentAttempts ∧
          t.hx = s.hx) ∧
        (x.bulk = false →
          t.pli.urgent = s.pli.urgent.drop 1 ∧ t.pli.urgentAttempts = 0 ∧
          t.pli.bulk = s.pli.bulk ∧ t.pli.bulkAttempts = s.pli.bulkAttempts ∧
          (cause = .flushed → t.hx = s.hx) ∧
          (∀ f g up down, cause = .withdrawn →
            s.pli.urgent.head? = some (.report f g up down) →
            t.hx =
              { s.hx with
                up := { s.hx.up with release := min 3 (s.hx.up.release + up) }
                down := { s.hx.down with release := min 3 (s.hx.down.release + down) } })))

/-- R46 to R49: what an attached station drives in the acknowledgement slot of an intact parcel. A
member receiver asserts VOID on a stale or foreign sender, on a JOIN of another configuration, and on
a BANK_SELECT it cannot carry out; a station in LISTENING, JOINING or ISOLATED makes no test. -/
def Obligations.MemberReceiversVoid : Prop :=
  ∀ (s : State) (r : Reading), Live s → s.pli.attached = true → intact r = true →
    ∃ t, exec (.parcelVoid r) s = .next t ∧
      (¬Applies s → t.pli.ackDrive = .recessive) ∧
      (Applies s →
        (∀ d f ws, r.content = .join d f ws →
          (t.pli.ackDrive = .void ↔ ¬SameConfiguration s d ws)) ∧
        ((∀ d f ws, r.content ≠ .join d f ws) → (∀ b d n, r.content ≠ .bankSelect b d n) →
          (t.pli.ackDrive = .void ↔ ¬Known s (readingParcel r).sender r.epoch)) ∧
        (∀ b d n, r.content = .bankSelect (.named b) d n →
          (t.pli.ackDrive = .void ↔
            ¬Known s (readingParcel r).sender r.epoch ∨ (bankOf s b).state ≠ .ready ∨
              (bankOf s b).digest ≠ d ∨
              (∃ g, s.lb.lastBegun = some g ∧ (g = n ∨ newer g n = true)) ∨
              s.cu.agreed.bank.pending ≠ none)))

/-- R51, R52, R75, R80, R90, R155, R189: the discard of a queue's head whose attempts are used up,
and what the block that queued it does. That the head waits at 8 attempts for this row, and that the
count of discards stays at 2, are DEDUCED, log entry 30; that the row changes nothing when it is not
due is DEDUCED, log entry 1. -/
def Obligations.DiscardCountsAndTellsTheOwner : Prop :=
  ∀ s : State, Live s →
    (s.pli.urgentAttempts < 8 → s.pli.bulkAttempts < 8 → exec .parcelDiscard s = .next s) ∧
    (∀ q rest u, 8 ≤ s.pli.urgentAttempts → s.pli.urgent = q :: rest →
      u =
        (s.setPli
          { s.pli with
            urgent := rest, urgentAttempts := 0
            urgentDiscards := min 2 (s.pli.urgentDiscards + 1) }).setCp
          { s.cp with
            events := s.cp.events ||| 1#12 <<< 2
            totals := { s.cp.totals with parcelDiscards := s.cp.totals.parcelDiscards + 1 } } →
      (∀ f, q = .close f → exec .parcelDiscard s = .next u) ∧
      (∀ n, q = .snapshot n → exec .parcelDiscard s = .next u) ∧
      (∀ c ph, q = .force c ph → exec .parcelDiscard s = .next u) ∧
      (∀ c v, q = .loopSet c v → exec .parcelDiscard s = .next u) ∧
      (∀ b d f, q = .bankSelect b d f →
        exec .parcelDiscard s = .next
          (u.setCp { u.cp with events := u.cp.events ||| 1#12 <<< 9 })) ∧
      (∀ f g up down, q = .report f g up down →
        exec .parcelDiscard s = .next
          (u.setHx
            { s.hx with
              up := { s.hx.up with release := min 3 (s.hx.up.release + up) }
              down := { s.hx.down with release := min 3 (s.hx.down.release + down) } })) ∧
      (q = .leave → s.cu.membership = .leaving →
        ∃ t, exec .parcelDiscard s = .next t ∧ t.cu.membership = .stopped ∧
          t.pli.attached = false ∧ t.cp = u.cp ∧ t.cu.agreed = s.cu.agreed) ∧
      (∀ d f ws, q = .join d f ws →
        s.cu.membership = .listening ∨ s.cu.membership = .joining →
        ∃ t, exec .parcelDiscard s = .next t ∧ t.cu.membership = .stopped ∧
          t.pli.attached = false ∧ t.pli.urgent = [] ∧ t.pli.bulk = [] ∧
          t.cp = { u.cp with events := u.cp.events ||| 1#12 <<< 11 } ∧
          t.cu.agreed = s.cu.agreed)) ∧
    (∀ p rest, s.pli.urgentAttempts < 8 → 8 ≤ s.pli.bulkAttempts → s.pli.bulk = p :: rest →
      ∃ t, exec .parcelDiscard s = .next t ∧
        t =
          ((s.setPli { s.pli with bulk := rest, bulkAttempts := 0 }).setCp
            { s.cp with
              events := s.cp.events ||| 1#12 <<< 2
              totals := { s.cp.totals with parcelDiscards := s.cp.totals.parcelDiscards + 1 } }).setHx
            t.hx ∧
        (∀ side r, sideOf s p.addressee = some side → (dirOf s side).outbound = [r] →
          r.frame = p.frame →
          (dirOf t side).setsLost =
            (if r.lossCounted then (dirOf s side).setsLost else (dirOf s side).setsLost + 1) ∧
          (1 < r.remaining →
            (dirOf t side).outbound =
              [{ r with remaining := r.remaining - 1, lossCounted := true }] ∧
            (dirOf t side).credit = (dirOf s side).credit) ∧
          (r.remaining = 1 → (dirOf t side).outbound = [] ∧
            (r.taken = 0 → (dirOf t side).credit = min 2 ((dirOf s side).credit + 1)) ∧
            (1 ≤ r.taken → (dirOf t side).credit = (dirOf s side).credit))) ∧
        (sideOf s p.addressee = none → t.hx = s.hx))

/-! ## Takes (chapters 4 to 6, 8, 9) -/

/-- R46, R50, R62, R65, R72 to R74: a taken parcel at a station that does not apply it. A detached
station takes nothing; a parcel this station voids is not taken (DESIGN CHOICE, log entry 13); a
listening station records its sender and what bars a founding, a joining one the latter alone; an
isolated one nothing. -/
def Obligations.TakesOutsideMembershipAreRecorded : Prop :=
  ∀ (s : State) (p : Parcel), Live s →
    (s.pli.attached = false →
      exec (takeCommand p) s = .next (s.setPli { s.pli with ackDrive := .none })) ∧
    (s.pli.attached = true → voidsIntact s p = true → NotOwn s p →
      exec (takeCommand p) s = .next (s.setPli { s.pli with ackDrive := .void })) ∧
    (∀ bar, s.pli.attached = true → NotOwn s p →
      bar = (match p.content with | .join _ founding _ => founding | _ => true) →
      (s.cu.membership = .listening →
        ∃ heard, exec (takeCommand p) s = .next
            ((s.setPli { s.pli with ackDrive := .recessive }).setCu
              { s.cu with heard := heard, foundingBar := s.cu.foundingBar || bar }) ∧
          ∀ n, n ∈ heard ↔ n ∈ s.cu.heard ∨ n = p.sender) ∧
      (s.cu.membership = .joining →
        (∀ n a, p.content = .snapshot n a → n ≠ s.cp.station ∨ isJoining a n = false) →
        exec (takeCommand p) s = .next
          ((s.setPli { s.pli with ackDrive := .recessive }).setCu
            { s.cu with foundingBar := s.cu.foundingBar || bar })) ∧
      (s.cu.membership = .isolated →
        exec (takeCommand p) s = .next (s.setPli { s.pli with ackDrive := .recessive })))

/-- R50, R119: the take of a FORCE at a station in MEMBER or LEAVING, for every sub-mode, whatever
the record was: nothing but the cadence record changes, beside the line's own completion. -/
def Obligations.TakeForceSetsTheCadence : Prop :=
  ∀ (s : State) (sender : Station) (epoch : Epoch) (code : ForceCode) (phase : Nat) (p : Parcel),
    Live s → s.pli.attached = true → Applies s → Known s sender epoch →
    p = { sender := sender, epoch := epoch, content := .force code phase } →
    ∃ r, exec (.takeForce sender epoch code phase) s = .next
        ((s.setPli (lineAfterTake s p)).setAgreed { s.cu.agreed with cadence := r }) ∧
      (code = .ma → r = .forcedMa) ∧ (code = .bob → r = .forcedBob) ∧
      (code = .film22 → r = .forcedFilm .twoTwo (phase % 2)) ∧
      (code = .film32 → r = .forcedFilm .threeTwo (phase % 5)) ∧
      (code = .release → r = .video) ∧ (∀ n, code = .other n → r = s.cu.agreed.cadence)

/-- R50, R127: the take of a LOOP_SET at a station in MEMBER or LEAVING, for every mode: nothing but
the loop record changes, beside the line's own completion. -/
def Obligations.TakeLoopSetSetsTheLoop : Prop :=
  ∀ (s : State) (sender : Station) (epoch : Epoch) (code : LoopCode) (value : Nat) (p : Parcel),
    Live s → s.pli.attached = true → Applies s → Known s sender epoch →
    p = { sender := sender, epoch := epoch, content := .loopSet code value } →
    ∃ l, exec (.takeLoopSet sender epoch code value) s = .next
        ((s.setPli (lineAfterTake s p)).setAgreed { s.cu.agreed with loop := l }) ∧
      (code = .held →
        l = { s.cu.agreed.loop with mode := .held, t := if 1023 < value then 1023 else value }) ∧
      (code = .off →
        l = { mode := .off, t := 0, history := [], trendUp := false, trendDown := false }) ∧
      (code = .auto → l = { s.cu.agreed.loop with mode := .auto }) ∧
      (∀ n, code = .other n → l = s.cu.agreed.loop)

/-- R48, R50, R186, R188: the take of a BANK_SELECT at a station in MEMBER or LEAVING that does not
void it: the selection becomes pending, or the bank switches at once when the target frame is already
closed, leaving the old bank as the outgoing one; a code that names no bank has no effect. -/
def Obligations.TakeBankSelectSelectsOrSwitches : Prop :=
  ∀ (s : State) (sender : Station) (epoch : Epoch) (code : BankCode) (digest : Digest)
    (target : FieldNo) (p : Parcel),
    Live s → s.pli.attached = true → Applies s → Known s sender epoch →
    (∀ g, s.lb.lastBegun = some g → g ≠ target ∧ newer g target = false) →
    s.cu.agreed.bank.pending = none →
    p = { sender := sender, epoch := epoch, content := .bankSelect code digest target } →
    (∀ n, code = .other n →
      exec (.takeBankSelect sender epoch code digest target) s =
        .next (s.setPli (lineAfterTake s p))) ∧
    (∀ b, code = .named b → (bankOf s b).state = .ready → (bankOf s b).digest = digest →
      (newerThan target s.cu.agreed.lastClosed = true →
        exec (.takeBankSelect sender epoch code digest target) s = .next
          ((s.setPli (lineAfterTake s p)).setAgreed
            { s.cu.agreed with
              bank :=
                { s.cu.agreed.bank with
                  pending := some { bank := b, digest := digest, target := target } } })) ∧
      (newerThan target s.cu.agreed.lastClosed = false →
        exec (.takeBankSelect sender epoch code digest target) s = .next
          (((s.setPli (lineAfterTake s p)).setAgreed
            { s.cu.agreed with bank := { active := b, digest := digest, pending := none } }).setSc
            { s.sc with
              outgoing := some
                { bank := s.cu.agreed.bank.active, digest := s.cu.agreed.bank.digest
                  switchFrame := target } })))

/-- R89, R91, R92, R157: the take of a REPORT at a station in MEMBER or LEAVING that closes no
round: it returns halo credit from a counting neighbour, and is added to its open round, or opens
one, or has no round effect. -/
def Obligations.TakeReportReturnsCreditAndOpensRounds : Prop :=
  ∀ (s : State) (sender : Station) (epoch : Epoch) (n : FieldNo) (figures : Option Figures)
    (up down : Nat) (p : Parcel) (mine : RoundReport),
    Live s → s.pli.attached = true → Applies s → Known s sender epoch →
    p = { sender := sender, epoch := epoch, content := .report n figures up down } →
    mine = { station := sender, figures := figures } →
    (newerThan n s.cu.agreed.lastClosed = false ∨
      (∃ r, openRound s.cu.agreed n = some r ∧
        (hasReport r sender = true ∨
          ∃ x ∈ r.expected, x ≠ sender ∧ hasReport r x = false)) ∨
      (openRound s.cu.agreed n = none ∧
        ((∃ x ∈ s.cu.agreed.openRounds, twoNewer x.field n = true) ∨
          ((∀ x ∈ s.cu.agreed.openRounds, twoNewer n x.field = false) ∧
            ∃ x ∈ activeStations s.cu.agreed.roster, x ≠ sender)))) →
    ∃ t, exec (.takeReport sender epoch n figures up down) s = .next t ∧
      t =
        ((s.setPli (lineAfterTake s p)).setHx
          { s.hx with
            up := { s.hx.up with credit := t.hx.up.credit }
            down := { s.hx.down with credit := t.hx.down.credit } }).setAgreed
          { s.cu.agreed with openRounds := t.cu.agreed.openRounds } ∧
      (neighbourOf s .upper = some sender → neighbourOf s .lower ≠ some sender →
        t.hx.down = s.hx.down ∧
        t.hx.up.credit =
          if neighbourCounts s .upper = true then min 2 (s.hx.up.credit + down)
          else s.hx.up.credit) ∧
      (neighbourOf s .lower = some sender → neighbourOf s .upper ≠ some sender →
        t.hx.up = s.hx.up ∧
        t.hx.down.credit =
          if neighbourCounts s .lower = true then min 2 (s.hx.down.credit + up)
          else s.hx.down.credit) ∧
      (NotNeighbour s sender → t.hx = s.hx) ∧
      (newerThan n s.cu.agreed.lastClosed = false → t.cu.agreed = s.cu.agreed) ∧
      (newerThan n s.cu.agreed.lastClosed = true →
        (∀ r, openRound s.cu.agreed n = some r →
          (hasReport r sender = true → t.cu.agreed = s.cu.agreed) ∧
          (hasReport r sender = false →
            openRound t.cu.agreed n = some { r with reports := r.reports ++ [mine] })) ∧
        (openRound s.cu.agreed n = none →
          ((∃ x ∈ s.cu.agreed.openRounds, twoNewer x.field n = true) →
            t.cu.agreed = s.cu.agreed) ∧
          ((∀ x ∈ s.cu.agreed.openRounds, twoNewer x.field n = false) →
            openRound t.cu.agreed n =
                some
                  { field := n, expected := activeStations s.cu.agreed.roster
                    reports := [mine] } ∧
              ∀ x, x.field ≠ n → (x ∈ t.cu.agreed.openRounds ↔ x ∈ s.cu.agreed.openRounds))))

/-- R93, R97 to R102, R107, R110 to R118, R124 to R126, R186: the take of the REPORT that completes the one open round, when no
entry's missed-round count reaches 3: the round closes COMPLETE. With it, what the steps of a closure
give: the signature, the missed-round counts, the cadence steps and the loop step. -/
def Obligations.TakeReportCompletesTheRound : Prop :=
  SignatureRule ∧ MissedCountRule ∧ NoneStepRule ∧ RoundStepRule ∧ LoopStepRule ∧
  ∀ (s : State) (sender : Station) (epoch : Epoch) (n : FieldNo) (figures : Option Figures)
    (up down : Nat) (p : Parcel) (r full : Round) (sums : Figures) (sig : Signature)
    (step : Cadence × Bool),
    Live s → s.pli.attached = true → Applies s → Known s sender epoch →
    p = { sender := sender, epoch := epoch, content := .report n figures up down } →
    newerThan n s.cu.agreed.lastClosed = true → s.cu.agreed.openRounds = [r] → r.field = n →
    hasReport r sender = false → (∀ x ∈ r.expected, x = sender ∨ hasReport r x = true) →
    full = { r with reports := r.reports ++ [{ station := sender, figures := figures }] } →
    sums = sumReports full.reports → sig = classify s.cp.config full.reports →
    step =
      roundStep s.cp.config sig sums
        (skippedCadence (closureGap s.cu.agreed.lastClosed n) s.cu.agreed.cadence) →
    (∀ e ∈ s.cu.agreed.roster, (missedCount full e).missed < 3) →
    ∃ t, exec (.takeReport sender epoch n figures up down) s = .next t ∧
      t.cu.membership = s.cu.membership ∧
      t.cu.agreed =
        { roster := s.cu.agreed.roster.map (missedCount full)
          epoch := s.cu.agreed.epoch
          openRounds := []
          lastClosed := some n
          lastSignature := sig
          cadence := step.1
          loop := loopStep s.cp.config.loopGain sums s.cu.agreed.loop
          bank := t.cu.agreed.bank } ∧
      (s.cu.agreed.bank.pending = none → t.cu.agreed.bank = s.cu.agreed.bank ∧ t.sc = s.sc) ∧
      (∀ sel, s.cu.agreed.bank.pending = some sel →
        (¬Reaches n sel.target → t.cu.agreed.bank = s.cu.agreed.bank ∧ t.sc = s.sc) ∧
        (Reaches n sel.target →
          t.cu.agreed.bank = { active := sel.bank, digest := sel.digest, pending := none } ∧
          t.sc =
            { s.sc with
              outgoing := some
                { bank := s.cu.agreed.bank.active, digest := s.cu.agreed.bank.digest
                  switchFrame := sel.target } })) ∧
      t.cu.completeCount = s.cu.completeCount + 1 ∧ t.cu.closedCount = s.cu.closedCount ∧
      t.cu.supersededCount = s.cu.supersededCount ∧
      (∀ x ∈ t.cu.timers, newer x.field n = true) ∧
      (∀ f ∈ t.cu.owedCloses, newer f n = true) ∧
      ((lineAfterTake s p).tx = none →
        t.pli =
          { lineAfterTake s p with
            urgent := (lineAfterTake s p).urgent.filter fun q => !isRoundParcel n q
            urgentAttempts := t.pli.urgentAttempts }) ∧
      (step.2 = false → t.cp = s.cp) ∧
      (step.2 = true →
        t.cp =
          { s.cp with
            events := s.cp.events ||| 1#12 <<< 1
            totals :=
              { s.cp.totals with
                temporalSeg := 0, spatialSeg := 0, unrepairedSeg := 0, lostSeg := 0 } }) ∧
      (s.cp.ownership.isFull = true → newerThan n s.lb.lastBegun = true →
        newerThan n s.lb.lastRequested = true → closureGap s.cu.agreed.lastClosed n = 0 →
        s.lb.decisions = [] →
        t.lb.decisions =
          [{ field := n, signature := sig, cadence := step.1
             t := (loopStep s.cp.config.loopGain sums s.cu.agreed.loop).t }])

/-- R96 to R102, R107, R186: the take of a CLOSE at a station in MEMBER or LEAVING: without effect on
a closed round; the one open round of that number closes as CLOSED; with no round open the round is
created and closed with no report, every entry missing it, and entries that reach 3 leave; an older
open round closes first, and a newer one that is not complete stays open. -/
def Obligations.TakeCloseClosesTheRound : Prop :=
  ∀ (s : State) (sender : Station) (epoch : Epoch) (n : FieldNo) (p : Parcel),
    Live s → s.pli.attached = true → Applies s → Known s sender epoch →
    p = { sender := sender, epoch := epoch, content := .close n } →
    (newerThan n s.cu.agreed.lastClosed = false →
      exec (.takeClose sender epoch n) s = .next (s.setPli (lineAfterTake s p))) ∧
    (newerThan n s.cu.agreed.lastClosed = true → s.cu.agreed.openRounds = [] →
      ∃ t, exec (.takeClose sender epoch n) s = .next t ∧
        t.cu.agreed.lastClosed = some n ∧ t.cu.agreed.openRounds = [] ∧
        t.cu.agreed.lastSignature = .none ∧ t.cu.agreed.loop = s.cu.agreed.loop ∧
        t.cu.agreed.cadence =
          noneStep (skippedCadence (closureGap s.cu.agreed.lastClosed n) s.cu.agreed.cadence) ∧
        t.cu.agreed.roster =
          (s.cu.agreed.roster.map fun e => { e with missed := e.missed + 1 }).filter
            (fun e => e.missed < 3) ∧
        t.cu.agreed.epoch =
          (if ∀ e ∈ s.cu.agreed.roster, e.missed + 1 < 3 then s.cu.agreed.epoch
            else s.cu.agreed.epoch + 1) ∧
        Closes s.cp.config
          { field := n, expected := activeStations s.cu.agreed.roster, reports := [] }
          s.cu.agreed t.cu.agreed ∧
        t.cu.closedCount = s.cu.closedCount + 1 ∧ t.cu.completeCount = s.cu.completeCount ∧
        t.cu.supersededCount = s.cu.supersededCount) ∧
    (∀ r, newerThan n s.cu.agreed.lastClosed = true → s.cu.agreed.openRounds = [r] →
      r.field = n →
      ∃ t, exec (.takeClose sender epoch n) s = .next t ∧
        t.cu.agreed.lastClosed = some n ∧ t.cu.agreed.openRounds = [] ∧
        t.cu.agreed.lastSignature = classify s.cp.config r.reports ∧
        Closes s.cp.config r s.cu.agreed t.cu.agreed ∧
        t.cu.agreed.epoch =
          (if ∀ e ∈ s.cu.agreed.roster, (missedCount r e).missed < 3 then s.cu.agreed.epoch
            else s.cu.agreed.epoch + 1) ∧
        t.cu.closedCount = s.cu.closedCount + 1 ∧ t.cu.completeCount = s.cu.completeCount ∧
        t.cu.supersededCount = s.cu.supersededCount) ∧
    (∀ (old r : Round), newerThan n s.cu.agreed.lastClosed = true → s.cu.agreed.openRounds = [old, r] →
      newer n old.field = true → r.field = n →
      (∀ e ∈ s.cu.agreed.roster, (missedCount old e).missed < 3) →
      ∃ (t : State) (mid : AgreedState), exec (.takeClose sender epoch n) s = .next t ∧
        Closes s.cp.config old s.cu.agreed mid ∧ Closes s.cp.config r mid t.cu.agreed ∧
        t.cu.agreed.openRounds = [] ∧
        t.cu.agreed.epoch =
          (if ∀ e ∈ mid.roster, (missedCount r e).missed < 3 then s.cu.agreed.epoch
            else s.cu.agreed.epoch + 1) ∧
        t.cu.closedCount = s.cu.closedCount + 2 ∧ t.cu.completeCount = s.cu.completeCount ∧
        t.cu.supersededCount = s.cu.supersededCount) ∧
    (∀ old : Round, newerThan n s.cu.agreed.lastClosed = true → s.cu.agreed.openRounds = [old] →
      newer n old.field = true →
      ∃ (t : State) (mid : AgreedState) (gap : Round), exec (.takeClose sender epoch n) s = .next t ∧
        gap = ({ field := n, expected := activeStations mid.roster, reports := [] } : Round) ∧
        Closes s.cp.config old s.cu.agreed mid ∧ Closes s.cp.config gap mid t.cu.agreed ∧
        t.cu.agreed.openRounds = [] ∧
        t.cu.agreed.epoch =
          (if (∀ e ∈ s.cu.agreed.roster, (missedCount old e).missed < 3) ∧
              ∀ e ∈ mid.roster, (missedCount gap e).missed < 3
            then s.cu.agreed.epoch else s.cu.agreed.epoch + 1) ∧
        t.cu.closedCount = s.cu.closedCount + 2 ∧ t.cu.completeCount = s.cu.completeCount ∧
        t.cu.supersededCount = s.cu.supersededCount) ∧
    (∀ (later : Round) (rounds : List Round) (r : Round), newerThan n s.cu.agreed.lastClosed = true →
      newer later.field n = true → (∃ x ∈ later.expected, hasReport later x = false) →
      s.cu.agreed.openRounds = rounds ++ [later] →
      (rounds = [r] ∧ r.field = n) ∨
        (rounds = [] ∧
          r =
            ({ field := n, expected := activeStations s.cu.agreed.roster, reports := [] } :
              Round)) →
      (∀ e ∈ s.cu.agreed.roster, (missedCount r e).missed < 3) →
      ∃ t, exec (.takeClose sender epoch n) s = .next t ∧
        Closes s.cp.config r s.cu.agreed t.cu.agreed ∧ t.cu.agreed.openRounds = [later] ∧
        t.cu.agreed.epoch = s.cu.agreed.epoch ∧
        t.cu.closedCount = s.cu.closedCount + 1 ∧ t.cu.completeCount = s.cu.completeCount ∧
        t.cu.supersededCount = s.cu.supersededCount)

/-- R78, R80: the take of a LEAVE at a station in MEMBER or LEAVING: the sender's entry goes and the
epoch advances. The station's own LEAVE sends it to STOPPED; another station's of its own number
isolates it. -/
def Obligations.TakeLeaveRemovesTheEntry : Prop :=
  ∀ (s : State) (sender : Station) (epoch : Epoch) (p : Parcel),
    Live s → s.pli.attached = true → Applies s → Known s sender epoch →
    p = { sender := sender, epoch := epoch, content := .leave } →
    ∃ t, exec (.takeLeave sender epoch) s = .next t ∧
      (∀ e ∈ t.cu.agreed.roster, e.station ≠ sender) ∧
      t.cu.agreed.epoch = s.cu.agreed.epoch + 1 ∧ t.cp.events.getLsbD 0 = true ∧
      (∀ r ∈ t.cu.agreed.openRounds, sender ∉ r.expected) ∧
      (OwnUrgent s p →
        t.cu.membership = .stopped ∧ t.pli.attached = false ∧ t.pli.urgent = [] ∧
        t.pli.bulk = []) ∧
      (NotOwn s p → s.cu.agreed.openRounds = [] →
        t.cu.agreed =
          { s.cu.agreed with
            roster := s.cu.agreed.roster.filter fun e => e.station != sender
            epoch := s.cu.agreed.epoch + 1 } ∧
        (sender ≠ s.cp.station →
          t.cu = { s.cu with agreed := t.cu.agreed } ∧
          t.cp = { s.cp with events := s.cp.events ||| 1#12 <<< 0 } ∧
          t.fs = s.fs ∧ t.li = s.li ∧ t.lb = s.lb ∧ t.op = s.op ∧
          (s.pli.tx = none →
            t.pli.urgent = s.pli.urgent.filter fun q => !isSnapshotTo sender q)) ∧
        (sender = s.cp.station → s.cu.membership = .member → t.cu.membership = .isolated) ∧
        (sender = s.cp.station → s.cu.membership = .leaving → t.cu.membership = .stopped))

/-- R69, R70, R78: the take of a JOIN of the station's own configuration in MEMBER or LEAVING: the
sender's entry is added, or replaced, as JOINING, the epoch advances, and the lowest-numbered ACTIVE
member sends the SNAPSHOT. A JOIN with its own number makes a member JOINING. -/
def Obligations.TakeJoinAddsTheEntry : Prop :=
  ∀ (s : State) (sender : Station) (epoch : Epoch) (digest : Digest) (founding : Bool)
    (words : List Word16) (p : Parcel),
    Live s → s.pli.attached = true → Applies s → SameConfiguration s digest words →
    p = { sender := sender, epoch := epoch, content := .join digest founding words } →
    rosterEntry s.cu.agreed.roster sender = none ∨ s.cu.agreed.openRounds = [] →
    ∃ t, exec (.takeJoin sender epoch digest founding words) s = .next t ∧
      t.cu.agreed =
        { s.cu.agreed with
          roster := t.cu.agreed.roster
          epoch := s.cu.agreed.epoch + 1
          openRounds := t.cu.agreed.openRounds } ∧
      rosterEntry t.cu.agreed.roster sender =
        some { station := sender, standing := .joining, missed := 0 } ∧
      (∀ x, x ≠ sender →
        rosterEntry t.cu.agreed.roster x = rosterEntry s.cu.agreed.roster x) ∧
      t.cu.agreed.openRounds.map (·.field) = s.cu.agreed.openRounds.map (·.field) ∧
      (∀ r ∈ t.cu.agreed.openRounds, sender ∉ r.expected) ∧
      t.cp = { s.cp with events := s.cp.events ||| 1#12 <<< 0 } ∧
      t.fs = s.fs ∧ t.li = s.li ∧ t.lb = s.lb ∧ t.op = s.op ∧
      (sender ≠ s.cp.station → t.cu = { s.cu with agreed := t.cu.agreed }) ∧
      (sender = s.cp.station → s.cu.membership = .member →
        t.cu.membership = .joining ∧ t.cu.snapshotWait = 0 ∧ t.cu.foundingBar = false) ∧
      (sender = s.cp.station → s.cu.membership = .leaving → t.cu.membership = .leaving) ∧
      ((lineAfterTake s p).tx = none → sender ≠ s.cp.station →
        rosterEntry s.cu.agreed.roster sender = none →
        (s.cu.membership = .member →
          (activeStations s.cu.agreed.roster).head? = some s.cp.station →
          (lineAfterTake s p).urgent.length < 8 →
          t.pli.urgent =
            ((lineAfterTake s p).urgent.filter fun q => !isSnapshotTo sender q) ++
              [.snapshot sender]) ∧
        (s.cu.membership = .leaving ∨
            (activeStations s.cu.agreed.roster).head? ≠ some s.cp.station →
          t.pli.urgent = (lineAfterTake s p).urgent))

/-- R67, R68: the take of the station's own JOIN in LISTENING or JOINING: it founds, or is refused
for want of Bank A, or becomes JOINING. -/
def Obligations.OwnJoinDecidesTheNextState : Prop :=
  ∀ (s : State) (sender : Station) (epoch : Epoch) (digest : Digest) (founding : Bool)
    (words : List Word16) (p : Parcel),
    Live s → s.pli.attached = true →
    s.cu.membership = .listening ∨ s.cu.membership = .joining →
    p = { sender := sender, epoch := epoch, content := .join digest founding words } →
    OwnUrgent s p →
    ∃ t, exec (.takeJoin sender epoch digest founding words) s = .next t ∧
      (founding = true → s.cu.foundingBar = false → s.sc.bankA.state = .ready →
        t.cu.membership = .member ∧ t.pli.urgent = s.pli.urgent.drop 1 ∧ t.pli.tx = none ∧
        t.cp = { s.cp with events := s.cp.events ||| 1#12 <<< 0 } ∧
        t.cu.agreed =
          { roster := [{ station := s.cp.station, standing := .active, missed := 0 }]
            epoch := 0, openRounds := [], lastClosed := none, lastSignature := .none
            cadence := .video
            loop := { mode := .auto, t := 64, history := [], trendUp := false, trendDown := false }
            bank := { active := .bankA, digest := s.sc.bankA.digest, pending := none } }) ∧
      (founding = true → s.cu.foundingBar = false → s.sc.bankA.state ≠ .ready →
        t.cu.membership = .stopped ∧ t.pli.attached = false ∧ t.pli.urgent = [] ∧
        t.pli.bulk = [] ∧ t.cu.agreed = s.cu.agreed ∧
        t.cp = { s.cp with events := s.cp.events ||| 1#12 <<< 10 }) ∧
      (founding = false ∨ s.cu.foundingBar = true →
        t =
          (s.setPli (lineAfterTake s p)).setCu
            { s.cu with membership := .joining, snapshotWait := 0, foundingBar := false })

/-- R72, R73: the take of a SNAPSHOT. In MEMBER or LEAVING it makes its addressee's JOINING entry
ACTIVE. A JOINING addressee whose number the carried roster holds as JOINING adopts the carried
state, with the same change, and becomes MEMBER, or with a bank that does not match LEAVING. -/
def Obligations.TakeSnapshotActivatesAndIsAdopted : Prop :=
  ∀ (s : State) (sender joiner : Station) (epoch : Epoch) (carried : AgreedState) (p : Parcel),
    Live s → s.pli.attached = true →
    p = { sender := sender, epoch := epoch, content := .snapshot joiner carried } →
    (Applies s → Known s sender epoch → isJoining s.cu.agreed joiner = false →
      exec (.takeSnapshot sender epoch joiner carried) s =
        .next (s.setPli (lineAfterTake s p))) ∧
    (Applies s → Known s sender epoch → isJoining s.cu.agreed joiner = true →
      ∃ t, exec (.takeSnapshot sender epoch joiner carried) s = .next t ∧
        t.cu.agreed =
          { s.cu.agreed with
            roster := t.cu.agreed.roster, epoch := s.cu.agreed.epoch + 1 } ∧
        rosterEntry t.cu.agreed.roster joiner =
          some { station := joiner, standing := .active, missed := 0 } ∧
        (∀ x, x ≠ joiner →
          rosterEntry t.cu.agreed.roster x = rosterEntry s.cu.agreed.roster x) ∧
        t.cu = { s.cu with agreed := t.cu.agreed } ∧
        t.cp = { s.cp with events := s.cp.events ||| 1#12 <<< 0 } ∧
        t.fs = s.fs ∧ t.li = s.li ∧ t.lb = s.lb ∧ t.op = s.op) ∧
    (s.cu.membership = .joining → joiner = s.cp.station → isJoining carried joiner = true →
      ∃ t, exec (.takeSnapshot sender epoch joiner carried) s = .next t ∧
        t.cu.agreed =
          { carried with roster := t.cu.agreed.roster, epoch := carried.epoch + 1 } ∧
        rosterEntry t.cu.agreed.roster joiner =
          some { station := joiner, standing := .active, missed := 0 } ∧
        (∀ x, x ≠ joiner →
          rosterEntry t.cu.agreed.roster x = rosterEntry carried.roster x) ∧
        (bankMatches s carried.bank.active carried.bank.digest = true →
          (∀ sel, carried.bank.pending = some sel → bankMatches s sel.bank sel.digest = true) →
          t.cu.membership = .member ∧
          t.cp = { s.cp with events := s.cp.events ||| 1#12 <<< 0 }) ∧
        (bankMatches s carried.bank.active carried.bank.digest = false ∨
            (∃ sel, carried.bank.pending = some sel ∧
              bankMatches s sel.bank sel.digest = false) →
          t.cu.membership = .leaving ∧
          t.cp = { s.cp with events := s.cp.events ||| 1#12 <<< 10 ||| 1#12 <<< 0 } ∧
          ((lineAfterTake s p).urgent.length < 8 →
            Queued.leave ∈ t.pli.urgent ∧ t.cu.leaveOwed = false)))

/-- R77, R78: the removal of the entries whose missed-round count has reached 3, as a step of its
own, with no round open. A removal in a row of its own, which finds nothing in any state a run
reaches, is DEDUCED, log entry 26; that the row changes nothing when it is not due is DEDUCED, log
entry 1. -/
def Obligations.MissedRoundRemovalRemovesTheEntries : Prop :=
  ∀ s : State, Live s →
    (¬Applies s ∨ (∀ e ∈ s.cu.agreed.roster, e.missed < 3) →
      exec .missedRoundRemoval s = .next s) ∧
    (Applies s → (∃ e ∈ s.cu.agreed.roster, 3 ≤ e.missed) → s.cu.agreed.openRounds = [] →
      ∃ t, exec .missedRoundRemoval s = .next t ∧
        t.cu.agreed =
          { s.cu.agreed with
            roster := s.cu.agreed.roster.filter fun e => e.missed < 3
            epoch := s.cu.agreed.epoch + 1 } ∧
        t.cp.events.getLsbD 0 = true ∧
        ((∀ e ∈ s.cu.agreed.roster, 3 ≤ e.missed → e.station ≠ s.cp.station) →
          t.cu = { s.cu with agreed := t.cu.agreed } ∧
          t.cp = { s.cp with events := s.cp.events ||| 1#12 <<< 0 }) ∧
        ((∃ e ∈ s.cu.agreed.roster, e.station = s.cp.station) →
          (∀ e ∈ s.cu.agreed.roster, e.station = s.cp.station → 3 ≤ e.missed) →
          (s.cu.membership = .member → t.cu.membership = .isolated) ∧
          (s.cu.membership = .leaving → t.cu.membership = .stopped)))

/-- R154, R155, R158 to R160: the take of a HALO. At its sender it counts against its set; at its
addressee, from a counting neighbour, a frame let go is dropped, one that will not be built here is a
stale drop, and otherwise its line is stored in the slot of its frame, or in the lowest-numbered FREE
slot, or in place of the oldest frame of a slot not IN_USE, which is let go; an IN_USE slot that then
holds every line resolves its side. At every other station it has no effect. -/
def Obligations.TakeHaloCountsAndStores : Prop :=
  ∀ (s : State) (sender : Station) (epoch : Epoch) (h : HaloParcel) (p : Parcel),
    Live s → s.pli.attached = true → Applies s → Known s sender epoch →
    p = { sender := sender, epoch := epoch, content := .halo h } →
    (NotOwn s p → (h.addressee ≠ s.cp.station ∨ NotNeighbour s sender) →
      exec (.takeHalo sender epoch h) s = .next (s.setPli (lineAfterTake s p))) ∧
    (∀ side r, ¬NotOwn s p → h.addressee ≠ s.cp.station → sideOf s h.addressee = some side →
      (dirOf s side).outbound = [r] → r.frame = h.frame → 1 < r.remaining →
      exec (.takeHalo sender epoch h) s = .next
        ((s.setPli (lineAfterTake s p)).setDir side
          { dirOf s side with
            outbound := [{ r with remaining := r.remaining - 1, taken := r.taken + 1 }] })) ∧
    (∀ side r, ¬NotOwn s p → h.addressee ≠ s.cp.station → sideOf s h.addressee = some side →
      (dirOf s side).outbound = [r] → r.frame = h.frame → r.remaining = 1 →
      exec (.takeHalo sender epoch h) s = .next
        ((s.setPli (lineAfterTake s p)).setDir side { dirOf s side with outbound := [] })) ∧
    (∀ side, NotOwn s p → h.addressee = s.cp.station → sideOf s sender = some side →
      neighbourCounts s side = false →
      exec (.takeHalo sender epoch h) s = .next (s.setPli (lineAfterTake s p))) ∧
    (∀ side, NotOwn s p → h.addressee = s.cp.station → sideOf s sender = some side →
      neighbourCounts s side = true →
      (∀ i sl k, (dirOf s side).slots[i]? = some sl → sl.frame = some h.frame →
        (∀ (j : Nat) (x : ReceiveSlot), j < i → (dirOf s side).slots[j]? = some x →
          x.frame ≠ some h.frame) →
        sl.state ≠ .inUse → expectedPlace s.cp.ownership side h.line = some k →
        ∃ st, exec (.takeHalo sender epoch h) s = .next
            ((s.setPli (lineAfterTake s p)).setDir side
              { dirOf s side with
                slots := (dirOf s side).slots.set i
                  { sl with state := st, received := sl.received.set k (some h.samples) } }) ∧
          (st = .complete ↔
            sl.state = .complete ∨
              (sl.state = .filling ∧
                ∀ x ∈ sl.received.set k (some h.samples), x ≠ none))) ∧
      (∀ i sl k (received : List (Option LineSamples)), (dirOf s side).slots[i]? = some sl → sl.frame = some h.frame →
        (∀ (j : Nat) (x : ReceiveSlot), j < i → (dirOf s side).slots[j]? = some x →
          x.frame ≠ some h.frame) →
        sl.state = .inUse → expectedPlace s.cp.ownership side h.line = some k →
        received = sl.received.set k (some h.samples) →
        ∃ t, exec (.takeHalo sender epoch h) s = .next t ∧
          dirOf t side =
            { dirOf s side with
              slots := (dirOf s side).slots.set i { sl with received := received } } ∧
          (∀ other, other ≠ side →
            dirOf t other = dirOf s other ∧ sideRecord t other = sideRecord s other) ∧
          t.hx.timer = s.hx.timer ∧
          ((∀ x ∈ received, x ≠ none) → sideUnresolved s side = true →
            sideRecord t side =
              some
                { lines := some (received.filterMap fun r => r.map HaloLine.neighbour) }) ∧
          ((∃ x ∈ received, x = none) ∨ sideUnresolved s side = false →
            sideRecord t side = sideRecord s side ∧ t.sc = s.sc) ∧
          t.pli = lineAfterTake s p ∧ t.li = s.li ∧ t.fs = s.fs ∧ t.fa = s.fa ∧ t.cu = s.cu ∧
          t.lb = s.lb ∧ t.op = s.op ∧ t.cp = s.cp) ∧
      ((∀ sl ∈ (dirOf s side).slots, sl.frame ≠ some h.frame) →
        (notNewerThan h.frame (dirOf s side).letGo = true →
          exec (.takeHalo sender epoch h) s = .next (s.setPli (lineAfterTake s p))) ∧
        (notNewerThan h.frame (dirOf s side).letGo = false →
          (staleFrame s h.frame = true →
            exec (.takeHalo sender epoch h) s = .next
              ((s.setPli (lineAfterTake s p)).setDir side
                { dirOf s side with
                  release := min 3 ((dirOf s side).release + 1), letGo := some h.frame })) ∧
          (∀ i k sl, staleFrame s h.frame = false → (dirOf s side).slots[i]? = some sl →
            sl.state = .free → sl.frame = none →
            (∀ (j : Nat) (x : ReceiveSlot), j < i → (dirOf s side).slots[j]? = some x →
              x.state ≠ .free) →
            buildFrame s ≠ some h.frame → expectedPlace s.cp.ownership side h.line = some k →
            exec (.takeHalo sender epoch h) s = .next
              ((s.setPli (lineAfterTake s p)).setDir side
                { dirOf s side with
                  slots := (dirOf s side).slots.set i
                    { state := .filling, frame := some h.frame
                      received :=
                        (List.replicate (sideSize side) none).set k (some h.samples) } })) ∧
          (∀ i k sl g, staleFrame s h.frame = false → (dirOf s side).slots[i]? = some sl →
            (∀ x ∈ (dirOf s side).slots, x.state ≠ .free) →
            sl.state ≠ .inUse → sl.frame = some g →
            (∀ (j : Nat) (x : ReceiveSlot), j ≠ i → (dirOf s side).slots[j]? = some x →
              x.state = .inUse ∨ ∃ g', x.frame = some g' ∧ newer g' g = true) →
            buildFrame s ≠ some h.frame → expectedPlace s.cp.ownership side h.line = some k →
            exec (.takeHalo sender epoch h) s = .next
              ((s.setPli (lineAfterTake s p)).setDir side
                { dirOf s side with
                  release := min 3 ((dirOf s side).release + 1)
                  letGo :=
                    if newerThan g (dirOf s side).letGo = true then some g
                    else (dirOf s side).letGo
                  slots := (dirOf s side).slots.set i
                    { state := .filling, frame := some h.frame
                      received :=
                        (List.replicate (sideSize side) none).set k (some h.samples) } })))))

/-! ## Builds, rows and output (chapters 7 to 10) -/

/-- R54, R55, R152, R153: a pending set is offered again: queued whole, with one credit spent, when
there is credit and room for it; else it stays pending. Two pending sets are offered one after the
other, that of the older frame first, the up direction's first when the frames are equal. With no set
pending the row changes nothing (DEDUCED, log entry 1). -/
def Obligations.PendingSetsAreOfferedAgain : Prop :=
  ∀ s : State, Live s →
    (s.hx.up.pending = none → s.hx.down.pending = none → exec .pendingSetOffer s = .next s) ∧
    (∀ side other n set, (side = .upper ∧ other = .lower ∨ side = .lower ∧ other = .upper) →
      (dirOf s side).pending = some set → (dirOf s other).pending = none →
      neighbourOf s side = some n →
      ((dirOf s side).credit = 0 ∨ 16 < s.pli.bulk.length + set.lines.length →
        exec .pendingSetOffer s = .next s) ∧
      (s.cu.membership = .member →
        ∃ t, exec .pendingSetOffer s = .next t ∧ Offered n set side s t)) ∧
    (∀ up down above below first second nFirst nSecond older newest,
      s.hx.up.pending = some up → s.hx.down.pending = some down →
      neighbourOf s .upper = some above → neighbourOf s .lower = some below →
      s.cu.membership = .member →
      (newer up.frame down.frame = true →
        (first, nFirst, older) = (Side.lower, below, down) ∧
          (second, nSecond, newest) = (Side.upper, above, up)) →
      (newer up.frame down.frame = false →
        (first, nFirst, older) = (Side.upper, above, up) ∧
          (second, nSecond, newest) = (Side.lower, below, down)) →
      ∃ mid t, exec .pendingSetOffer s = .next t ∧ Offered nFirst older first s mid ∧
        Offered nSecond newest second mid t)

/-- R121, R122, R131, R134 to R137, R158, R161, R162, R168, R169, R191: the start of a build. The head
of the frame list starts when its field is held, no build is in progress, the next field is settled, a
buffer is FREE and its round condition holds; otherwise it waits. A head whose field is not held leaves
the list and the next is tested (that it leaves at this row is DEDUCED, log entry 40). The start takes
its pairing, its bank and its outgoing bank by their rules, makes the record of each side, marks the
slots that hold its frame IN_USE (for a provisional build too: DEDUCED, log entry 21) and releases
those of older frames. -/
def Obligations.BuildStartBeginsTheBuild : Prop :=
  PairingRule ∧ ProvisionalRule ∧ ChosenBankRule ∧
  (∀ s : State, Live s → s.lb.frames = [] → exec .buildStart s = .next s) ∧
  (∀ (s : State) (e : FrameEntry) (rest : List FrameEntry), Live s → s.lb.frames = e :: rest →
    fieldHeld s e.frame = false →
    exec .buildStart s = exec .buildStart (s.setLb { s.lb with frames := rest })) ∧
  ∀ (s : State) (e : FrameEntry) (rest : List FrameEntry), Live s →
    s.lb.frames = e :: rest → fieldHeld s e.frame = true →
    (s.lb.build ≠ none ∨ (s.op.fb0 ≠ none ∧ s.op.fb1 ≠ none) ∨
        ((∀ l, s.lb.lastEnded = some l → l ≠ e.frame + 1 ∧ newer l (e.frame + 1) = false) ∧
          ∀ g, s.lb.newestBegun = some g → newer g (e.frame + 1) = false) ∨
        (e.overtaken = false ∧ decisionFor s.lb e.frame = none ∧ Applies s) →
      exec .buildStart s = .next s) ∧
    (∀ agreed, s.lb.build = none → s.op.fb0 = none ∨ s.op.fb1 = none →
      ((∃ l, s.lb.lastEnded = some l ∧ (l = e.frame + 1 ∨ newer l (e.frame + 1) = true)) ∨
        ∃ g, s.lb.newestBegun = some g ∧ newer g (e.frame + 1) = true) →
      ((agreed = true ∧ e.overtaken = false ∧ decisionFor s.lb e.frame ≠ none) ∨
        (agreed = false ∧
          (e.overtaken = true ∨
            (decisionFor s.lb e.frame = none ∧
              (s.cu.membership = .listening ∨ s.cu.membership = .joining ∨
                s.cu.membership = .isolated))))) →
      ∃ t b r, exec .buildStart s = .next t ∧ t.lb.build = some b ∧ t.sc.scaling = some r ∧
        b.phase = .lines ∧ b.frame = e.frame ∧ b.agreed = agreed ∧ b.built = 0 ∧ b.repairs = [] ∧
        b.current = findField s e.frame ∧ b.previous = findField s (e.frame - 1) ∧
        b.following = findField s (e.frame + 1) ∧
        b.beforePrevious = findField s (e.frame - 2) ∧
        (∀ d, agreed = true → decisionFor s.lb e.frame = some d →
          b.pairing = pairingOf d.cadence ∧ b.t = d.t ∧ b.signature = d.signature) ∧
        (agreed = false →
          b.pairing = provisionalPairing s.cu.agreed e.frame ∧ b.t = s.cu.agreed.loop.t ∧
          b.signature = .none) ∧
        (∀ f, b.current = some f →
          (b.pairing = .bob → b.effective = .bob) ∧
          (b.pairing = .weavePrev →
            b.effective =
              if (serving (otherParity f.parity) b.previous).isSome then .weavePrev else .bob) ∧
          (b.pairing = .weaveNext →
            b.effective =
              if (serving (otherParity f.parity) b.following).isSome then .weaveNext else .bob) ∧
          (b.pairing = .ma →
            b.effective =
              if (serving (otherParity f.parity) b.previous).isSome ∧
                (serving (otherParity f.parity) b.following).isSome then .ma else .bob)) ∧
        t.lb.frames = rest ∧ t.lb.lastBegun = some e.frame ∧ t.lb.bufferFrame = some e.frame ∧
        t.lb.decisions = s.lb.decisions.filter (fun d => newer d.field e.frame) ∧
        t.lb.lines.length = s.cp.ownership.coreHigh - s.cp.ownership.coreLow ∧
        (∀ l ∈ t.lb.lines, l.samples = none ∧ l.repaired = false) ∧
        (s.op.fb0 = none →
          t.op = { s.op with fb0 := some { state := .building, frame := e.frame, rows := [] } }) ∧
        (s.op.fb0 ≠ none →
          t.op = { s.op with fb1 := some { state := .building, frame := e.frame, rows := [] } }) ∧
        (∀ g j, (g = e.frame - 2 ∨ g = e.frame - 1 ∨ g = e.frame ∨ g = e.frame + 1) →
          lookupField s g = some j → Holder.build ∈ (slotAt t j).holders) ∧
        r.frame = e.frame ∧ r.agreed = agreed ∧ r.phase = .lines ∧ r.rows = 0 ∧
        ((bankOf s (chosenBank s e.frame)).state = .ready →
          r.bank = some (chosenBank s e.frame) ∧
          r.digest = some (bankOf s (chosenBank s e.frame)).digest) ∧
        ((bankOf s (chosenBank s e.frame)).state ≠ .ready → r.bank = none ∧ r.digest = none) ∧
        (∀ side, edgeOf r side =
          if s.cp.ownership.seam side = .pictureEdge ∨
              edgeRows s.cp.config s.cp.ownership side = [] then .none else .waiting) ∧
        t.sc = { s.sc with scaling := some r, outgoing := t.sc.outgoing } ∧
        (s.sc.outgoing = none → t.sc.outgoing = none) ∧
        (∀ o, s.sc.outgoing = some o →
          (Reaches e.frame o.switchFrame → t.sc.outgoing = none) ∧
          (¬Reaches e.frame o.switchFrame → t.sc.outgoing = some o)) ∧
        (∀ side, SlotsBegun e.frame (dirOf s side) (dirOf t side) ∧
          SideBegun s t e.frame agreed side) ∧
        t.hx.timer = true ∧ t.li = s.li ∧ t.fa = s.fa ∧ t.cu = s.cu ∧ t.pli = s.pli ∧
        (agreed = true → t.cp = s.cp) ∧
        (agreed = false →
          t.cp =
            { s.cp with
              events := s.cp.events ||| 1#12 <<< 6
              totals := { s.cp.totals with unagreedFrames := s.cp.totals.unagreedFrames + 1 } }))

/-- R33, R138 to R142, R144, R145, R151 to R153, R170, R175: building the next core line. An own line whose entry
is VALID or REPAIRED is that entry sample for sample, and one that is DROPOUT or LOST is repaired and
written back first; a missing line under BOB between two such entries is the average of the lines
above and below; a woven line is its partner's, and a motion-adaptive one blends four entries; none is
marked repaired where this build filled nothing. The lines that complete a seam's lines form its set,
and the last core line takes the Scaler to its interior rows, or to its edge rows where it has none.
Outside LINES nothing is built (DEDUCED, log entry 1); that a missing line is marked by the lines it
reads, and that a woven line reads no others while its partner is whole, are DEDUCED, log entry 22 and
log entry 23. -/
def Obligations.BuildLineBuildsTheNextLine : Prop :=
  WovenLineRule ∧ IntraLineRule ∧ AdaptiveLineRule ∧ RepairedLineRule ∧ LineFormsSetRule ∧
  LastLineRule ∧
  (∀ s : State, Live s →
    (∀ b, s.lb.build = some b →
      b.phase ≠ .lines ∨ s.cp.ownership.coreHigh - s.cp.ownership.coreLow ≤ b.built) →
    exec .buildLine s = .next s) ∧
  (∀ (s : State) (b : BuildRecord) (f : FoundField) (y : Nat), Live s → s.lb.build = some b →
    b.phase = .lines → b.built < s.cp.ownership.coreHigh - s.cp.ownership.coreLow →
    y = lineInOrder s.cp.ownership b.built → b.current = some f → b.repairs = [] →
    (∀ e v, lineParity y = f.parity → entryAt s f.slot (y / 2) = some e →
      e.state = .valid ∨ e.state = .repaired → e.samples = some v →
      ∃ t b', exec .buildLine s = .next t ∧ t.fs = s.fs ∧ t.cp = s.cp ∧
        t.lb.lines =
          s.lb.lines.set (y - s.cp.ownership.coreLow) { samples := some v, repaired := false } ∧
        t.lb.build = some b' ∧ b'.built = b.built + 1 ∧ b'.frame = b.frame ∧
        (b.built + 1 ≠ 4 → b.built + 1 ≠ 7 →
          b.built + 1 ≠ s.cp.ownership.coreHigh - s.cp.ownership.coreLow →
          t = s.setLb { s.lb with lines := t.lb.lines, build := some { b with built := b.built + 1 } })) ∧
    (∀ e1 e2 v1 v2, lineParity y ≠ f.parity → b.effective = .bob → 1 ≤ y →
      entryAt s f.slot ((y - 1) / 2) = some e1 → entryAt s f.slot ((y + 1) / 2) = some e2 →
      e1.state = .valid ∨ e1.state = .repaired → e2.state = .valid ∨ e2.state = .repaired →
      e1.samples = some v1 → e2.samples = some v2 →
      ∃ t v, exec .buildLine s = .next t ∧ t.fs = s.fs ∧ t.cp = s.cp ∧
        t.lb.lines =
          s.lb.lines.set (y - s.cp.ownership.coreLow) { samples := some v, repaired := false } ∧
        (∀ (x : Nat) (p q : Sample), x < 720 → v1.y[x]? = some p → v2.y[x]? = some q →
          (v.y[x]?).map (·.toNat) = some ((p.toNat + q.toNat) / 2)) ∧
        (∀ (x : Nat) (p q : Sample), x < 360 →
          (v1.cb[x]? = some p → v2.cb[x]? = some q →
            (v.cb[x]?).map (·.toNat) = some ((p.toNat + q.toNat) / 2)) ∧
          (v1.cr[x]? = some p → v2.cr[x]? = some q →
            (v.cr[x]?).map (·.toNat) = some ((p.toNat + q.toNat) / 2)))))

/-- R162, R163, R175: the halo wait timer expires: every UNRESOLVED side resolves from what its slot for
the build's frame holds, NEIGHBOUR where received and CLAMPED elsewhere, and in EDGES the Scaler begins
a side it is told of, or takes it after the one it is writing; which of two sides it is told of first
is a free value (DESIGN CHOICE, log entry 11). With no build, or no timer running, nothing changes (DEDUCED,
log entry 1). -/
def Obligations.HaloWaitExpiryResolvesTheSides : Prop :=
  ∀ s : State, Live s →
    (s.lb.build = none ∨ s.hx.timer = false → exec .haloWaitExpiry s = .next s) ∧
    (∀ b, s.lb.build = some b → s.hx.timer = true →
      ∃ t, exec .haloWaitExpiry s = .next t ∧ t.hx.timer = false ∧
        t.hx.up = s.hx.up ∧ t.hx.down = s.hx.down ∧
        (∀ side, sideUnresolved s side = true →
          (∀ sl, slotHolding b.frame (dirOf s side) = some sl →
            sideRecord t side =
              some
                { lines := some
                    (sl.received.map fun r =>
                      match r with
                      | some v => HaloLine.neighbour v
                      | none => HaloLine.clamped) }) ∧
          (slotHolding b.frame (dirOf s side) = none →
            sideRecord t side =
              some { lines := some (List.replicate (sideSize side) HaloLine.clamped) })) ∧
        (∀ side, sideUnresolved s side = false → sideRecord t side = sideRecord s side) ∧
        ((∀ r, s.sc.scaling = some r → r.phase ≠ .edges) → t.sc = s.sc) ∧
        (∀ r side other, s.sc.scaling = some r → r.phase = .edges → side ≠ other →
          r.queue = [] → edgeOf r side = .waiting → sideUnresolved s side = true →
          (sideUnresolved s other = false → r.current = none →
            t.sc = { s.sc with scaling := some (beginning s side [] r) }) ∧
          (sideUnresolved s other = false → r.current = some other →
            t.sc = { s.sc with scaling := some { r with queue := [side] } }) ∧
          (sideUnresolved s other = true → edgeOf r other = .waiting → r.current = none →
            ∃ first second, first ≠ second ∧
              t.sc = { s.sc with scaling := some (beginning s first [second] r) })) ∧
        t.li = s.li ∧ t.fs = s.fs ∧ t.fa = s.fa ∧ t.cu = s.cu ∧ t.pli = s.pli ∧ t.lb = s.lb ∧
        t.op = s.op ∧ t.cp = s.cp)

/-- R8, R9, R12, R146, R161, R162, R164, R170 to R175, R192: the next row of the build is written into
the buffer BUILDING its frame, FB0 or FB1, with its samples and flags; a clamped row is counted. After
the last interior row the edge rows of a RESOLVED side follow, the upper side's first, and after one
side's rows the other's; without a RESOLVED side the Scaler waits. The last row of all, or of a black
build, ends the build DONE: the buffer becomes COMPLETE, the build and its IN_USE slots are released.
With no row to write nothing changes (DEDUCED, log entry 1); that a CLAMPED or FILL line is computed
when a row reads it is DEDUCED, log entry 24. -/
def Obligations.RowWriteStoresTheRow : Prop :=
  TapLineRule ∧ RowRule ∧ EdgeRowsRule ∧ RowFlagsRule ∧
  (∀ s : State, Live s →
    (∀ r, s.sc.scaling = some r → r.todo = [] ∨ r.phase = .lines) →
    exec .rowWrite s = .next s) ∧
  (∀ (s : State) (r counted : ScalingRecord) (row : Nat) (more : List Nat) (x : Bool) (h : Held),
    Live s → s.sc.scaling = some r → r.todo = row :: more → r.phase ≠ .lines →
    bufferAt s x = some h → h.state = .building → h.frame = r.frame →
    (∀ g, bufferAt s (!x) = some g → g.state ≠ .building) →
    counted = { r with rows := r.rows + 1, todo := more } →
    ∃ t st, exec .rowWrite s = .next t ∧ st = scaledRow s r row ∧ st.row = row ∧
      st.flags.unagreed = !r.agreed ∧ st.flags.black = r.bank.isNone ∧
      (r.bank = none →
        st.samples = flatRow s.cp.config 64 512 512 ∧ st.flags.repaired = false ∧
        st.flags.seamClamped = false) ∧
      (∀ n, r.bank = some n → st.samples = scaleRow s (bankOf s n) row) ∧
      (st.flags.seamClamped = false → t.cp = s.cp) ∧
      (st.flags.seamClamped = true →
        t.cp =
          { s.cp with
            events := s.cp.events ||| 1#12 <<< 5
            totals := { s.cp.totals with clampedRows := s.cp.totals.clampedRows + 1 } }) ∧
      bufferAt t (!x) = bufferAt s (!x) ∧
      t.op = { s.op with fb0 := t.op.fb0, fb1 := t.op.fb1 } ∧
      (more ≠ [] → GoesOn s t x h st counted) ∧
      (more = [] → r.phase = .interior → r.bank = none → EndsDone s t x h st) ∧
      (more = [] → r.phase = .interior → r.bank ≠ none →
        EntersEdges s counted (GoesOn s t x h st) (EndsDone s t x h st)) ∧
      (∀ side other written, more = [] → r.phase = .edges → r.current = some side → side ≠ other →
        written =
          { counted with
            upper := if side = .upper then .written else r.upper
            lower := if side = .lower then .written else r.lower } →
        (r.queue = [other] → edgeOf r other = .waiting →
          GoesOn s t x h st (beginning s other [] written)) ∧
        (r.queue = [] → edgeOf r other = .waiting → GoesOn s t x h st (awaiting written)) ∧
        (r.queue = [] → edgeOf r other ≠ .waiting → EndsDone s t x h st)) ∧
      t.li = s.li ∧ t.fa = s.fa ∧ t.cu = s.cu ∧ t.pli = s.pli)

/-- R133, R153, R156, R161, R190, R193, R194, R196, R197, R201: the answer to an output start with no
build for the frame asked or an older one, and the notice to the Line Builder and to Halo Exchange:
stale sets withdrawn with their credit, a stale pending set dropped, passed slots released. -/
def Obligations.OutputStartAnswersTheFrame : Prop :=
  ∀ (s : State) (k : FieldNo), Live s →
    (s.cu.membership = .offline ∨ s.cu.membership = .stopped →
      exec (.outputStart k) s =
        .next (s.setOp { s.op with lastAnswer := .none, lastAsked := some k })) ∧
    (s.cu.membership.running = true → s.cp.ownership.isFull = false →
      exec (.outputStart k) s = .next
        (s.setOp
          { s.op with
            lastAnswer := .fill, lastAsked := some k
            emission := some
              { requested := k, source := .fill, shown := some k, repeats := false
                next := s.cp.ownership.firstRow } })) ∧
    (s.cu.membership.running = true → s.cp.ownership.isFull = true →
      (∀ x h, bufferAt s x = some h → h.state = .building → newer h.frame k = true) →
      ∃ t a, exec (.outputStart k) s = .next t ∧ t.op.emission = some a ∧
        t.op.lastAsked = some k ∧ a.requested = k ∧ a.next = s.cp.ownership.firstRow ∧
        t.cp = s.cp ∧ t.fs = s.fs ∧ t.li = s.li ∧ t.fa = s.fa ∧ t.cu = s.cu ∧ t.sc = s.sc ∧
        t.lb =
          { s.lb with
            lastRequested := some k
            frames := s.lb.frames.filter fun e => newer e.frame k
            decisions := s.lb.decisions.filter fun d => newer d.field k } ∧
        (∀ side,
          Noticed k (passedFrames k (dirOf s side))
            (fun sl => sl.state != .inUse && sl.frame.any fun f => !newer f k)
            (dirOf s side) (dirOf t side)) ∧
        t.hx = { s.hx with up := t.hx.up, down := t.hx.down } ∧ StaleWithdrawn k s.pli t.pli ∧
        (∀ x, bufferAt s x = none → bufferAt t x = none) ∧
        (∀ x h, bufferAt s x = some h →
          (h.state = .building → bufferAt t x = some h) ∧
          (h.state = .complete → h.frame = k →
            bufferAt t x = some { h with state := .showing }) ∧
          (h.state = .complete → h.frame ≠ k → newer k h.frame = true → bufferAt t x = none) ∧
          (h.state = .complete → h.frame ≠ k → newer k h.frame = false →
            bufferAt t x = some h)) ∧
        (∀ x h, bufferAt s x = some h → h.state = .complete → h.frame = k →
          (∀ g, bufferAt s (!x) = some g → g.state = .complete → g.frame ≠ k) →
          t.op.lastAnswer = .shown ∧ a.source = .buffer x ∧ a.shown = some k ∧
          a.repeats = false ∧
          ∀ g, bufferAt s (!x) = some g → g.state = .showing → bufferAt t (!x) = none) ∧
        ((∀ x h, bufferAt s x = some h → h.state = .complete → h.frame ≠ k) →
          (∀ x h, bufferAt s x = some h → h.state = .showing →
            (∀ g, bufferAt s (!x) = some g → g.state ≠ .showing) →
            bufferAt t x = some h ∧ t.op.lastAnswer = .repeated ∧ a.source = .buffer x ∧
            a.shown = some h.frame ∧ a.repeats = true) ∧
          ((∀ x h, bufferAt s x = some h → h.state ≠ .showing) →
            t.op.lastAnswer = .black ∧ a.source = .black ∧ a.shown = none ∧
            a.repeats = false)))

/-- R133, R146, R153, R156, R161, R193 to R197: the output start that finds a build for its frame, which
is late, or for an older frame, which is passed: the build is abandoned and its buffer freed, its
IN_USE slots are released, then the passed ones; a late one is counted and flagged. The other buffer is
settled and answered from as at any output start: the frame asked when it is COMPLETE there, else the
frame SHOWING there again, else black. -/
def Obligations.OutputStartAbandonsLateAndPassedBuilds : Prop :=
  ∀ (s : State) (k : FieldNo) (x : Bool) (h : Held), Live s → s.cu.membership.running = true →
    s.cp.ownership.isFull = true → bufferAt s x = some h → h.state = .building →
    (∀ g, bufferAt s (!x) = some g → g.state ≠ .building) →
    h.frame = k ∨ newer k h.frame = true →
    ∃ t, exec (.outputStart k) s = .next t ∧ bufferAt t x = none ∧
      t.lb =
        { s.lb with
          build := none, lastRequested := some k
          frames := s.lb.frames.filter fun e => newer e.frame k
          decisions := s.lb.decisions.filter fun d => newer d.field k } ∧
      t.sc = { s.sc with scaling := none } ∧
      (∀ sl ∈ t.fs.slots, Holder.build ∉ sl.holders) ∧
      (∀ j, (slotAt t j).occupant = (slotAt s j).occupant) ∧
      t.op.lastAsked = some k ∧
      (∃ a, t.op.emission = some a ∧ a.requested = k ∧ a.next = s.cp.ownership.firstRow ∧
        (∀ g, bufferAt s (!x) = some g → g.state = .complete → g.frame = k →
          bufferAt t (!x) = some { g with state := .showing } ∧ t.op.lastAnswer = .shown ∧
          a.source = .buffer (!x) ∧ a.shown = some k ∧ a.repeats = false) ∧
        (∀ g, bufferAt s (!x) = some g → g.state = .showing →
          bufferAt t (!x) = some g ∧ t.op.lastAnswer = .repeated ∧ a.source = .buffer (!x) ∧
          a.shown = some g.frame ∧ a.repeats = true) ∧
        ((∀ g, bufferAt s (!x) = some g → g.state = .complete ∧ g.frame ≠ k) →
          t.op.lastAnswer = .black ∧ a.source = .black ∧ a.shown = none ∧ a.repeats = false ∧
          (bufferAt s (!x) = none → bufferAt t (!x) = none) ∧
          ∀ g, bufferAt s (!x) = some g →
            (newer k g.frame = true → bufferAt t (!x) = none) ∧
            (newer k g.frame = false → bufferAt t (!x) = some g))) ∧
      t.hx.upperSide = none ∧ t.hx.lowerSide = none ∧ t.hx.timer = false ∧
      (∀ sl, sl ∈ t.hx.up.slots ∨ sl ∈ t.hx.down.slots → sl.frame ≠ none → sl.state ≠ .inUse) ∧
      (∀ side,
        Noticed k (usedFrames (dirOf s side) ++ passedFrames k (dirOf s side))
          (fun sl => sl.frame.any fun f => sl.state == .inUse || !newer f k)
          (dirOf s side) (dirOf t side)) ∧
      StaleWithdrawn k s.pli t.pli ∧
      t.li = s.li ∧ t.fa = s.fa ∧ t.cu = s.cu ∧
      (h.frame = k →
        t.cp =
          { s.cp with
            events := s.cp.events ||| 1#12 <<< 4
            totals := { s.cp.totals with lateFrames := s.cp.totals.lateFrames + 1 } }) ∧
      (h.frame ≠ k → t.cp = s.cp)

/-- R197, R199: the next row of an emission: its row tag, then its samples in the order Cb, Y, Cr, Y;
after the last owned row the emission is complete. With no emission nothing changes (DEDUCED, log
entry 1). -/
def Obligations.RowEmitSendsTagAndSamples : Prop :=
  (∀ s : State, Live s → s.op.emission = none → exec .rowEmit s = .next s) ∧
  (∀ (s : State) (e : Emission), Live s → s.op.emission = some e →
    ∃ t, exec .rowEmit s = .next t ∧
      t = s.setOp { s.op with lastRow := t.op.lastRow, emission := t.op.emission } ∧
      (e.next + 1 < s.cp.ownership.firstRow + s.cp.ownership.rowCount →
        t.op.emission = some { e with next := e.next + 1 }) ∧
      (s.cp.ownership.firstRow + s.cp.ownership.rowCount ≤ e.next + 1 → t.op.emission = none) ∧
      (e.next < 4096 → (t.op.lastRow[0]?).map (·.toNat) = some e.next) ∧
      t.op.lastRow[1]? = some e.requested ∧
      t.op.lastRow[2]? = some (e.shown.getD 0) ∧
      (e.source = .fill →
        (t.op.lastRow[3]?).map (·.toNat) = some ((if e.shown = none then 0 else 32768) + 16) ∧
        t.op.lastRow.length = 4 + 2 * outputColumns s.cp.config ∧
        ∀ j, j < outputColumns s.cp.config / 2 →
          t.op.lastRow[4 + 4 * j]? = some (BitVec.ofNat 16 (s.cp.config.fillCb % 1024)) ∧
          t.op.lastRow[5 + 4 * j]? = some (BitVec.ofNat 16 (s.cp.config.fillY % 1024)) ∧
          t.op.lastRow[6 + 4 * j]? = some (BitVec.ofNat 16 (s.cp.config.fillCr % 1024)) ∧
          t.op.lastRow[7 + 4 * j]? = some (BitVec.ofNat 16 (s.cp.config.fillY % 1024))) ∧
      (e.source = .black →
        (t.op.lastRow[3]?).map (·.toNat) = some ((if e.shown = none then 0 else 32768) + 32) ∧
        t.op.lastRow.length = 4 + 2 * outputColumns s.cp.config ∧
        ∀ j, j < outputColumns s.cp.config / 2 →
          t.op.lastRow[4 + 4 * j]? = some 512 ∧ t.op.lastRow[5 + 4 * j]? = some 64 ∧
          t.op.lastRow[6 + 4 * j]? = some 512 ∧ t.op.lastRow[7 + 4 * j]? = some 64) ∧
      (∀ i st, e.source = .buffer i → storedRow s i e.next = some st →
        (t.op.lastRow[3]?).map (·.toNat) = some
          ((if e.shown = none then 0 else 32768) + (if st.flags.black then 32 else 0) +
            (if st.flags.repaired then 8 else 0) + (if st.flags.seamClamped then 4 else 0) +
            (if st.flags.unagreed then 2 else 0) + (if e.repeats then 1 else 0)) ∧
        ∀ (j : Nat) (y0 y1 b r : Sample), st.samples.y.length = 2 * st.samples.cb.length →
          st.samples.cr.length = st.samples.cb.length → st.samples.cb[j]? = some b →
          st.samples.cr[j]? = some r → st.samples.y[2 * j]? = some y0 →
          st.samples.y[2 * j + 1]? = some y1 →
          t.op.lastRow[4 + 4 * j]? = some (b.setWidth 16) ∧
          t.op.lastRow[5 + 4 * j]? = some (y0.setWidth 16) ∧
          t.op.lastRow[6 + 4 * j]? = some (r.setWidth 16) ∧
          t.op.lastRow[7 + 4 * j]? = some (y1.setWidth 16)))

/-! ## What every step keeps, and what two stations share -/

/-- R37 to R40, R44, R52, R54, R55, R63, R95, R209, R212: every step keeps the Peer Line Interface
within its sizes, attached only while the station runs and driving only while attached, and then the
parts of its parcel with their check; vote timers and owed CLOSEs in MEMBER alone; and the
configuration locked from the first START on. -/
def Obligations.StepsKeepTheLineSafe : Prop :=
  (∀ s t : State, LineSafe s → LockSafe s → step s = .next t → LineSafe t ∧ LockSafe t) ∧
  (∀ s t : State, TimersSafe s → step s = .next t → TimersSafe t) ∧
  ∀ s t : State, SendSafe s → step s = .next t → SendSafe t

/-- R26, R84, R130, R150, R157, R158: every step keeps the credit and release count of each direction
in their ranges with two receive slots, five field slots, and the lists of the Field Analyser and of
the Line Builder within their sizes. -/
def Obligations.StepsKeepTheStoresSafe : Prop :=
  ∀ s t : State, HaloSafe s → StoreSafe s → step s = .next t → HaloSafe t ∧ StoreSafe t

/-- R177, R179, R180, R181: every step keeps the coefficient tables, the Staging Page and the commit
at their sizes, and a bank READY only once every page of it has been written. -/
def Obligations.StepsKeepTheCoefficientsSafe : Prop :=
  ∀ s t : State, CoefficientSafe s → step s = .next t → CoefficientSafe t

/-- The state after reset meets every invariant. -/
def Obligations.ResetMeetsTheInvariants : Prop :=
  ∀ n : Station, LineSafe (State.afterReset n) ∧ LockSafe (State.afterReset n) ∧
    HaloSafe (State.afterReset n) ∧ StoreSafe (State.afterReset n) ∧
    CoefficientSafe (State.afterReset n) ∧ TimersSafe (State.afterReset n) ∧
    SendSafe (State.afterReset n)

/-- R61, R62, R71, R73: two stations that apply takes, with equal configuration items and equal Agreed
States, hold equal Agreed States after taking the same parcel, whatever it is and however else the
two stations differ; and a JOINING station that adopts the Agreed State carried from a member holds,
after that take, the Agreed State that the member holds. -/
def Obligations.StationsTakeAlike : Prop :=
  ∀ (s t u v : State) (p : Parcel), Live s → Live t → Applies s →
    s.pli.attached = true → t.pli.attached = true →
    voidsIntact s p = false → voidsIntact t p = false →
    exec (takeCommand p) s = .next u → exec (takeCommand p) t = .next v →
    (Applies t → s.cp.config = t.cp.config → s.cu.agreed = t.cu.agreed →
      u.cu.agreed = v.cu.agreed) ∧
    (t.cu.membership = .joining → p.content = .snapshot t.cp.station s.cu.agreed →
      isJoining s.cu.agreed t.cp.station = true → u.cu.agreed = v.cu.agreed)
end

