-- ==== Sys2Proof/Laws/State.lean ====
section
/-! SUPPORT. What each update of State leaves in each of its fields, one lemma for each field of each
update, so that no proof unfolds a record update. -/

namespace Sys2Proof.Machine

@[simp] theorem State.setLi_li (s : State) (v : Intake) : (s.setLi v).li = v := rfl
@[simp] theorem State.setLi_fs (s : State) (v : Intake) : (s.setLi v).fs = s.fs := rfl
@[simp] theorem State.setLi_fa (s : State) (v : Intake) : (s.setLi v).fa = s.fa := rfl
@[simp] theorem State.setLi_cu (s : State) (v : Intake) : (s.setLi v).cu = s.cu := rfl
@[simp] theorem State.setLi_pli (s : State) (v : Intake) : (s.setLi v).pli = s.pli := rfl
@[simp] theorem State.setLi_lb (s : State) (v : Intake) : (s.setLi v).lb = s.lb := rfl
@[simp] theorem State.setLi_hx (s : State) (v : Intake) : (s.setLi v).hx = s.hx := rfl
@[simp] theorem State.setLi_sc (s : State) (v : Intake) : (s.setLi v).sc = s.sc := rfl
@[simp] theorem State.setLi_op (s : State) (v : Intake) : (s.setLi v).op = s.op := rfl
@[simp] theorem State.setLi_cp (s : State) (v : Intake) : (s.setLi v).cp = s.cp := rfl
@[simp] theorem State.setLi_freeCount (s : State) (v : Intake) : (s.setLi v).freeCount = s.freeCount := rfl
@[simp] theorem State.setLi_pending (s : State) (v : Intake) : (s.setLi v).pending = s.pending := rfl

@[simp] theorem State.setFs_li (s : State) (v : FieldStore) : (s.setFs v).li = s.li := rfl
@[simp] theorem State.setFs_fs (s : State) (v : FieldStore) : (s.setFs v).fs = v := rfl
@[simp] theorem State.setFs_fa (s : State) (v : FieldStore) : (s.setFs v).fa = s.fa := rfl
@[simp] theorem State.setFs_cu (s : State) (v : FieldStore) : (s.setFs v).cu = s.cu := rfl
@[simp] theorem State.setFs_pli (s : State) (v : FieldStore) : (s.setFs v).pli = s.pli := rfl
@[simp] theorem State.setFs_lb (s : State) (v : FieldStore) : (s.setFs v).lb = s.lb := rfl
@[simp] theorem State.setFs_hx (s : State) (v : FieldStore) : (s.setFs v).hx = s.hx := rfl
@[simp] theorem State.setFs_sc (s : State) (v : FieldStore) : (s.setFs v).sc = s.sc := rfl
@[simp] theorem State.setFs_op (s : State) (v : FieldStore) : (s.setFs v).op = s.op := rfl
@[simp] theorem State.setFs_cp (s : State) (v : FieldStore) : (s.setFs v).cp = s.cp := rfl
@[simp] theorem State.setFs_freeCount (s : State) (v : FieldStore) : (s.setFs v).freeCount = s.freeCount := rfl
@[simp] theorem State.setFs_pending (s : State) (v : FieldStore) : (s.setFs v).pending = s.pending := rfl

@[simp] theorem State.setFa_li (s : State) (v : Analyser) : (s.setFa v).li = s.li := rfl
@[simp] theorem State.setFa_fs (s : State) (v : Analyser) : (s.setFa v).fs = s.fs := rfl
@[simp] theorem State.setFa_fa (s : State) (v : Analyser) : (s.setFa v).fa = v := rfl
@[simp] theorem State.setFa_cu (s : State) (v : Analyser) : (s.setFa v).cu = s.cu := rfl
@[simp] theorem State.setFa_pli (s : State) (v : Analyser) : (s.setFa v).pli = s.pli := rfl
@[simp] theorem State.setFa_lb (s : State) (v : Analyser) : (s.setFa v).lb = s.lb := rfl
@[simp] theorem State.setFa_hx (s : State) (v : Analyser) : (s.setFa v).hx = s.hx := rfl
@[simp] theorem State.setFa_sc (s : State) (v : Analyser) : (s.setFa v).sc = s.sc := rfl
@[simp] theorem State.setFa_op (s : State) (v : Analyser) : (s.setFa v).op = s.op := rfl
@[simp] theorem State.setFa_cp (s : State) (v : Analyser) : (s.setFa v).cp = s.cp := rfl
@[simp] theorem State.setFa_freeCount (s : State) (v : Analyser) : (s.setFa v).freeCount = s.freeCount := rfl
@[simp] theorem State.setFa_pending (s : State) (v : Analyser) : (s.setFa v).pending = s.pending := rfl

@[simp] theorem State.setCu_li (s : State) (v : Consensus) : (s.setCu v).li = s.li := rfl
@[simp] theorem State.setCu_fs (s : State) (v : Consensus) : (s.setCu v).fs = s.fs := rfl
@[simp] theorem State.setCu_fa (s : State) (v : Consensus) : (s.setCu v).fa = s.fa := rfl
@[simp] theorem State.setCu_cu (s : State) (v : Consensus) : (s.setCu v).cu = v := rfl
@[simp] theorem State.setCu_pli (s : State) (v : Consensus) : (s.setCu v).pli = s.pli := rfl
@[simp] theorem State.setCu_lb (s : State) (v : Consensus) : (s.setCu v).lb = s.lb := rfl
@[simp] theorem State.setCu_hx (s : State) (v : Consensus) : (s.setCu v).hx = s.hx := rfl
@[simp] theorem State.setCu_sc (s : State) (v : Consensus) : (s.setCu v).sc = s.sc := rfl
@[simp] theorem State.setCu_op (s : State) (v : Consensus) : (s.setCu v).op = s.op := rfl
@[simp] theorem State.setCu_cp (s : State) (v : Consensus) : (s.setCu v).cp = s.cp := rfl
@[simp] theorem State.setCu_freeCount (s : State) (v : Consensus) : (s.setCu v).freeCount = s.freeCount := rfl
@[simp] theorem State.setCu_pending (s : State) (v : Consensus) : (s.setCu v).pending = s.pending := rfl

@[simp] theorem State.setPli_li (s : State) (v : LineInterface) : (s.setPli v).li = s.li := rfl
@[simp] theorem State.setPli_fs (s : State) (v : LineInterface) : (s.setPli v).fs = s.fs := rfl
@[simp] theorem State.setPli_fa (s : State) (v : LineInterface) : (s.setPli v).fa = s.fa := rfl
@[simp] theorem State.setPli_cu (s : State) (v : LineInterface) : (s.setPli v).cu = s.cu := rfl
@[simp] theorem State.setPli_pli (s : State) (v : LineInterface) : (s.setPli v).pli = v := rfl
@[simp] theorem State.setPli_lb (s : State) (v : LineInterface) : (s.setPli v).lb = s.lb := rfl
@[simp] theorem State.setPli_hx (s : State) (v : LineInterface) : (s.setPli v).hx = s.hx := rfl
@[simp] theorem State.setPli_sc (s : State) (v : LineInterface) : (s.setPli v).sc = s.sc := rfl
@[simp] theorem State.setPli_op (s : State) (v : LineInterface) : (s.setPli v).op = s.op := rfl
@[simp] theorem State.setPli_cp (s : State) (v : LineInterface) : (s.setPli v).cp = s.cp := rfl
@[simp] theorem State.setPli_freeCount (s : State) (v : LineInterface) : (s.setPli v).freeCount = s.freeCount := rfl
@[simp] theorem State.setPli_pending (s : State) (v : LineInterface) : (s.setPli v).pending = s.pending := rfl

@[simp] theorem State.setLb_li (s : State) (v : Builder) : (s.setLb v).li = s.li := rfl
@[simp] theorem State.setLb_fs (s : State) (v : Builder) : (s.setLb v).fs = s.fs := rfl
@[simp] theorem State.setLb_fa (s : State) (v : Builder) : (s.setLb v).fa = s.fa := rfl
@[simp] theorem State.setLb_cu (s : State) (v : Builder) : (s.setLb v).cu = s.cu := rfl
@[simp] theorem State.setLb_pli (s : State) (v : Builder) : (s.setLb v).pli = s.pli := rfl
@[simp] theorem State.setLb_lb (s : State) (v : Builder) : (s.setLb v).lb = v := rfl
@[simp] theorem State.setLb_hx (s : State) (v : Builder) : (s.setLb v).hx = s.hx := rfl
@[simp] theorem State.setLb_sc (s : State) (v : Builder) : (s.setLb v).sc = s.sc := rfl
@[simp] theorem State.setLb_op (s : State) (v : Builder) : (s.setLb v).op = s.op := rfl
@[simp] theorem State.setLb_cp (s : State) (v : Builder) : (s.setLb v).cp = s.cp := rfl
@[simp] theorem State.setLb_freeCount (s : State) (v : Builder) : (s.setLb v).freeCount = s.freeCount := rfl
@[simp] theorem State.setLb_pending (s : State) (v : Builder) : (s.setLb v).pending = s.pending := rfl

@[simp] theorem State.setHx_li (s : State) (v : Halo) : (s.setHx v).li = s.li := rfl
@[simp] theorem State.setHx_fs (s : State) (v : Halo) : (s.setHx v).fs = s.fs := rfl
@[simp] theorem State.setHx_fa (s : State) (v : Halo) : (s.setHx v).fa = s.fa := rfl
@[simp] theorem State.setHx_cu (s : State) (v : Halo) : (s.setHx v).cu = s.cu := rfl
@[simp] theorem State.setHx_pli (s : State) (v : Halo) : (s.setHx v).pli = s.pli := rfl
@[simp] theorem State.setHx_lb (s : State) (v : Halo) : (s.setHx v).lb = s.lb := rfl
@[simp] theorem State.setHx_hx (s : State) (v : Halo) : (s.setHx v).hx = v := rfl
@[simp] theorem State.setHx_sc (s : State) (v : Halo) : (s.setHx v).sc = s.sc := rfl
@[simp] theorem State.setHx_op (s : State) (v : Halo) : (s.setHx v).op = s.op := rfl
@[simp] theorem State.setHx_cp (s : State) (v : Halo) : (s.setHx v).cp = s.cp := rfl
@[simp] theorem State.setHx_freeCount (s : State) (v : Halo) : (s.setHx v).freeCount = s.freeCount := rfl
@[simp] theorem State.setHx_pending (s : State) (v : Halo) : (s.setHx v).pending = s.pending := rfl

@[simp] theorem State.setSc_li (s : State) (v : Scaler) : (s.setSc v).li = s.li := rfl
@[simp] theorem State.setSc_fs (s : State) (v : Scaler) : (s.setSc v).fs = s.fs := rfl
@[simp] theorem State.setSc_fa (s : State) (v : Scaler) : (s.setSc v).fa = s.fa := rfl
@[simp] theorem State.setSc_cu (s : State) (v : Scaler) : (s.setSc v).cu = s.cu := rfl
@[simp] theorem State.setSc_pli (s : State) (v : Scaler) : (s.setSc v).pli = s.pli := rfl
@[simp] theorem State.setSc_lb (s : State) (v : Scaler) : (s.setSc v).lb = s.lb := rfl
@[simp] theorem State.setSc_hx (s : State) (v : Scaler) : (s.setSc v).hx = s.hx := rfl
@[simp] theorem State.setSc_sc (s : State) (v : Scaler) : (s.setSc v).sc = v := rfl
@[simp] theorem State.setSc_op (s : State) (v : Scaler) : (s.setSc v).op = s.op := rfl
@[simp] theorem State.setSc_cp (s : State) (v : Scaler) : (s.setSc v).cp = s.cp := rfl
@[simp] theorem State.setSc_freeCount (s : State) (v : Scaler) : (s.setSc v).freeCount = s.freeCount := rfl
@[simp] theorem State.setSc_pending (s : State) (v : Scaler) : (s.setSc v).pending = s.pending := rfl

@[simp] theorem State.setOp_li (s : State) (v : OutputPort) : (s.setOp v).li = s.li := rfl
@[simp] theorem State.setOp_fs (s : State) (v : OutputPort) : (s.setOp v).fs = s.fs := rfl
@[simp] theorem State.setOp_fa (s : State) (v : OutputPort) : (s.setOp v).fa = s.fa := rfl
@[simp] theorem State.setOp_cu (s : State) (v : OutputPort) : (s.setOp v).cu = s.cu := rfl
@[simp] theorem State.setOp_pli (s : State) (v : OutputPort) : (s.setOp v).pli = s.pli := rfl
@[simp] theorem State.setOp_lb (s : State) (v : OutputPort) : (s.setOp v).lb = s.lb := rfl
@[simp] theorem State.setOp_hx (s : State) (v : OutputPort) : (s.setOp v).hx = s.hx := rfl
@[simp] theorem State.setOp_sc (s : State) (v : OutputPort) : (s.setOp v).sc = s.sc := rfl
@[simp] theorem State.setOp_op (s : State) (v : OutputPort) : (s.setOp v).op = v := rfl
@[simp] theorem State.setOp_cp (s : State) (v : OutputPort) : (s.setOp v).cp = s.cp := rfl
@[simp] theorem State.setOp_freeCount (s : State) (v : OutputPort) : (s.setOp v).freeCount = s.freeCount := rfl
@[simp] theorem State.setOp_pending (s : State) (v : OutputPort) : (s.setOp v).pending = s.pending := rfl

@[simp] theorem State.setCp_li (s : State) (v : ControlPort) : (s.setCp v).li = s.li := rfl
@[simp] theorem State.setCp_fs (s : State) (v : ControlPort) : (s.setCp v).fs = s.fs := rfl
@[simp] theorem State.setCp_fa (s : State) (v : ControlPort) : (s.setCp v).fa = s.fa := rfl
@[simp] theorem State.setCp_cu (s : State) (v : ControlPort) : (s.setCp v).cu = s.cu := rfl
@[simp] theorem State.setCp_pli (s : State) (v : ControlPort) : (s.setCp v).pli = s.pli := rfl
@[simp] theorem State.setCp_lb (s : State) (v : ControlPort) : (s.setCp v).lb = s.lb := rfl
@[simp] theorem State.setCp_hx (s : State) (v : ControlPort) : (s.setCp v).hx = s.hx := rfl
@[simp] theorem State.setCp_sc (s : State) (v : ControlPort) : (s.setCp v).sc = s.sc := rfl
@[simp] theorem State.setCp_op (s : State) (v : ControlPort) : (s.setCp v).op = s.op := rfl
@[simp] theorem State.setCp_cp (s : State) (v : ControlPort) : (s.setCp v).cp = v := rfl
@[simp] theorem State.setCp_freeCount (s : State) (v : ControlPort) : (s.setCp v).freeCount = s.freeCount := rfl
@[simp] theorem State.setCp_pending (s : State) (v : ControlPort) : (s.setCp v).pending = s.pending := rfl

@[simp] theorem State.setPending_li (s : State) (v : List Instr) : (s.setPending v).li = s.li := rfl
@[simp] theorem State.setPending_fs (s : State) (v : List Instr) : (s.setPending v).fs = s.fs := rfl
@[simp] theorem State.setPending_fa (s : State) (v : List Instr) : (s.setPending v).fa = s.fa := rfl
@[simp] theorem State.setPending_cu (s : State) (v : List Instr) : (s.setPending v).cu = s.cu := rfl
@[simp] theorem State.setPending_pli (s : State) (v : List Instr) : (s.setPending v).pli = s.pli := rfl
@[simp] theorem State.setPending_lb (s : State) (v : List Instr) : (s.setPending v).lb = s.lb := rfl
@[simp] theorem State.setPending_hx (s : State) (v : List Instr) : (s.setPending v).hx = s.hx := rfl
@[simp] theorem State.setPending_sc (s : State) (v : List Instr) : (s.setPending v).sc = s.sc := rfl
@[simp] theorem State.setPending_op (s : State) (v : List Instr) : (s.setPending v).op = s.op := rfl
@[simp] theorem State.setPending_cp (s : State) (v : List Instr) : (s.setPending v).cp = s.cp := rfl
@[simp] theorem State.setPending_freeCount (s : State) (v : List Instr) : (s.setPending v).freeCount = s.freeCount := rfl
@[simp] theorem State.setPending_pending (s : State) (v : List Instr) : (s.setPending v).pending = v := rfl

@[simp] theorem State.drawn_li (s : State) : s.drawn.li = s.li := rfl
@[simp] theorem State.drawn_fs (s : State) : s.drawn.fs = s.fs := rfl
@[simp] theorem State.drawn_fa (s : State) : s.drawn.fa = s.fa := rfl
@[simp] theorem State.drawn_cu (s : State) : s.drawn.cu = s.cu := rfl
@[simp] theorem State.drawn_pli (s : State) : s.drawn.pli = s.pli := rfl
@[simp] theorem State.drawn_lb (s : State) : s.drawn.lb = s.lb := rfl
@[simp] theorem State.drawn_hx (s : State) : s.drawn.hx = s.hx := rfl
@[simp] theorem State.drawn_sc (s : State) : s.drawn.sc = s.sc := rfl
@[simp] theorem State.drawn_op (s : State) : s.drawn.op = s.op := rfl
@[simp] theorem State.drawn_cp (s : State) : s.drawn.cp = s.cp := rfl
@[simp] theorem State.drawn_freeCount (s : State) : s.drawn.freeCount = s.freeCount + 1 := rfl
@[simp] theorem State.drawn_pending (s : State) : s.drawn.pending = s.pending := rfl

end Sys2Proof.Machine
end

