-- ==== Sys2Proof/Laws/Exec.lean ====
section
/-! SUPPORT. What the shared frame of a meaning answers, and what the shared operations of the queues,
of transactions and of takes bring, case by case. -/

namespace Sys2Proof.Machine

/-! ## A command's answer -/

theorem live_next {f : State → State} {s : State} (h : Live s) :
    live f s = .next ((f s).setPending s.pending) := by
  unfold Live at h
  simp [live, h]

theorem live_held {f : State → State} {s : State} (h : s.cp.resetHeld = true) :
    live f s = .next s := by
  simp [live, h, State.setPending]

/-! ## Transactions (R204, R205) -/

theorem transact_refuse {kind : Byte} {item : Word16} {carry : State → Reply} {s : State}
    {code : ResultCode} (h : carry (shiftOut s) = refuse code (shiftOut s)) :
    Answered (transact kind item carry s) kind item code 0 ∧
      Transacted s (transact kind item carry s) := by
  simp only [transact, h, refuse]
  exact ⟨rfl, rfl⟩

theorem transact_accept {kind : Byte} {item : Word16} {carry : State → Reply} {s u : State}
    (h : carry (shiftOut s) = accept u) :
    Answered (transact kind item carry s) kind item .ok 0 ∧
      Transacted u (transact kind item carry s) := by
  simp only [transact, h, accept]
  exact ⟨rfl, rfl⟩

theorem answered_refused {item : Word16} {carry : State → Reply} {s : State} {code : ResultCode}
    (h : Live s) (hc : carry (shiftOut s) = refuse code (shiftOut s)) :
    ∃ t, live (action item carry) s = .next t ∧ Answered t 3 item code 0 ∧ Transacted s t := by
  refine ⟨_, live_next h, ?_⟩
  simp only [action, transact, hc, refuse]
  exact ⟨rfl, rfl⟩

theorem answered_accepted {item : Word16} {carry : State → Reply} {s u : State} (h : Live s)
    (hc : carry (shiftOut s) = accept u) (hp : u.pending = s.pending) :
    ∃ t, live (action item carry) s = .next t ∧ Answered t 3 item .ok 0 ∧ Transacted u t := by
  refine ⟨_, live_next h, ?_⟩
  simp only [action, transact, hc, accept, ← hp]
  exact ⟨rfl, rfl⟩

theorem transacted_shiftOut {u t : State} (h : Transacted (shiftOut u) t) : Transacted u t := by
  unfold Transacted at *
  rw [h]
  rfl

/-! ## The queues (R54, R55) -/

theorem urgentAnswer_accepted {q : Queued} {s : State} (h : urgentAnswer q s = .accepted) :
    s.pli.urgent.length < 8 ∧ s.pli.urgent.any (sameRound q) = false ∧
      refusesQueueing s.cu.membership = false := by
  unfold urgentAnswer Config.urgentCapacity at h
  split at h
  · cases h
  · split at h
    · cases h
    · split at h
      · cases h
      · simp_all

theorem requestUrgent_fits {q : Queued} {s : State} (h : s.pli.urgent.length ≤ 8) :
    (requestUrgent q s).pli.urgent.length ≤ 8 := by
  unfold requestUrgent
  split
  · next ha =>
    have := (urgentAnswer_accepted ha).1
    simp [pushUrgent]
    omega
  · exact h

theorem bulkAccepts_fits {ps : List HaloParcel} {s : State} (h : bulkAccepts ps s = true) :
    (pushBulk ps s).pli.bulk.length ≤ 16 := by
  have hl : s.pli.bulk.length + ps.length ≤ 16 := by
    simp only [bulkAccepts, Bool.and_eq_true, decide_eq_true_eq] at h
    exact h.1
  simpa [pushBulk] using hl

/-- R56: a withdrawal never lengthens the Urgent Queue, and leaves the attach state, the discard
count and whether a parcel is in transmission. -/
theorem withdrawnUrgent_keeps (hit : Queued → Bool) (p : LineInterface) :
    (withdrawnUrgent hit p).urgent.length ≤ p.urgent.length ∧
      (withdrawnUrgent hit p).bulk = p.bulk ∧ (withdrawnUrgent hit p).attached = p.attached ∧
      (withdrawnUrgent hit p).tx.isSome = p.tx.isSome ∧
      (withdrawnUrgent hit p).urgentDiscards = p.urgentDiscards := by
  unfold withdrawnUrgent
  have hle (rest : List Queued) := List.length_filter_le (fun x => !hit x) rest
  split
  · simp
  · next q rest hq =>
    have := hle rest
    split <;> split <;> simp [markTx, hq] <;> omega

/-- R56: the same for the Bulk Queue. -/
theorem withdrawnBulk_keeps (hit : HaloParcel → Bool) (p : LineInterface) :
    (withdrawnBulk hit p).bulk.length ≤ p.bulk.length ∧
      (withdrawnBulk hit p).urgent = p.urgent ∧ (withdrawnBulk hit p).attached = p.attached ∧
      (withdrawnBulk hit p).tx.isSome = p.tx.isSome ∧
      (withdrawnBulk hit p).urgentDiscards = p.urgentDiscards := by
  unfold withdrawnBulk
  have hle (rest : List HaloParcel) := List.length_filter_le (fun x => !hit x) rest
  split
  · simp
  · next q rest hq =>
    have := hle rest
    split <;> split <;> simp [markTx, hq] <;> omega

/-! ## Takes (R46 to R50) -/

theorem takeParcel_detached {p : Parcel} {effect : Bool → State → State} {s : State}
    (h : s.pli.attached = false) : takeParcel p effect s = s.drive .none := by
  simp [takeParcel, h]

theorem takeParcel_voided {p : Parcel} {effect : Bool → State → State} {s : State}
    (h : s.pli.attached = true) (hv : voidsIntact s p = true) :
    takeParcel p effect s = if isOwn s p then voidSend (s.drive .void) else s.drive .void := by
  simp [takeParcel, h, hv]

theorem takeParcel_taken {p : Parcel} {effect : Bool → State → State} {s : State}
    (h : s.pli.attached = true) (hv : voidsIntact s p = false) :
    takeParcel p effect s = effect (isOwn s p)
      (if isOwn s p then completeSend (s.drive .recessive) else s.drive .recessive) := by
  simp [takeParcel, h, hv]

/-- R46, R50: the Peer Line Interface that a take's effect starts from. -/
theorem takeParcel_start (p : Parcel) (s : State) :
    (if isOwn s p then completeSend (s.drive .recessive) else s.drive .recessive) =
      s.setPli (lineAfterTake s p) := by
  unfold isOwn lineAfterTake completeSend State.drive
  cases h : s.pli.tx with
  | none => simp [State.setPli]
  | some x =>
    by_cases hx : x.parcel = p
    · cases hb : x.bulk <;> simp [State.setPli, h, hx, hb, dropSent]
    · simp [State.setPli, h, hx]

theorem isOwn_of_notOwn {s : State} {p : Parcel} (h : NotOwn s p) : isOwn s p = false := by
  unfold isOwn
  cases hx : s.pli.tx with
  | none => rfl
  | some x => simpa using h x hx

theorem isOwn_of_ownUrgent {s : State} {p : Parcel} (h : OwnUrgent s p) : isOwn s p = true := by
  obtain ⟨x, hx, hp, _⟩ := h
  simp [isOwn, hx, hp]

theorem applies_iff (s : State) : s.cu.membership.applies = true ↔ Applies s := by
  unfold Applies Membership.applies
  cases s.cu.membership <;> simp

/-! ## Release counts and credit (R90, R150, R157) -/

theorem addRelease_safe {n : Nat} {d : Direction} (h : DirectionSafe d) :
    DirectionSafe (addRelease n d) := by
  refine ⟨h.creditFits, ?_, h.twoSlots⟩
  simp [addRelease]

theorem returnCounts_safe {q : Queued} {s : State} (h : HaloSafe s) : HaloSafe (returnCounts q s) := by
  unfold returnCounts
  split
  · exact ⟨addRelease_safe h.upSafe, addRelease_safe h.downSafe⟩
  · exact h

theorem noteRelease_safe {f : FieldNo} {d : Direction} (h : DirectionSafe d) :
    DirectionSafe (noteRelease f d) := by
  refine ⟨h.creditFits, ?_, h.twoSlots⟩
  simp [noteRelease, addRelease]

theorem raiseCredit_safe {n : Nat} {d : Direction} (h : DirectionSafe d) :
    DirectionSafe (raiseCredit n d) := by
  refine ⟨?_, h.releaseFits, h.twoSlots⟩
  simp [raiseCredit]

/-- R161: what counting the releases of a run of slots does: the frames released, in slot order, are
counted up to 3 and may become the let-go frame; nothing else changes. -/
theorem noteReleases_does (pick : ReceiveSlot → FieldNo → Bool) (released : ReceiveSlot → Option FieldNo)
    (h : ∀ sl, released sl = sl.frame.filter (pick sl)) (slots : List ReceiveSlot) :
    ∀ d : Direction,
      (noteReleases pick slots d).letGo =
          (slots.filterMap released).foldl
            (fun l f => if newerThan f l = true then some f else l) d.letGo ∧
        (slots.filterMap released = [] → (noteReleases pick slots d).release = d.release) ∧
        (slots.filterMap released ≠ [] →
          (noteReleases pick slots d).release =
            min 3 (d.release + (slots.filterMap released).length)) ∧
        (noteReleases pick slots d).credit = d.credit ∧
        (noteReleases pick slots d).pending = d.pending ∧
        (noteReleases pick slots d).outbound = d.outbound ∧
        (noteReleases pick slots d).slots = d.slots ∧
        (noteReleases pick slots d).setsSent = d.setsSent ∧
        (noteReleases pick slots d).setsSuperseded = d.setsSuperseded ∧
        (noteReleases pick slots d).setsLost = d.setsLost := by
  induction slots with
  | nil =>
    intro d
    simp [noteReleases]
  | cons sl rest ih =>
    intro d
    have hs := h sl
    cases hf : sl.frame with
    | none =>
      have hr : released sl = none := by
        rw [hs, hf]
        rfl
      have e : noteReleases pick (sl :: rest) d = noteReleases pick rest d := by
        simp [noteReleases, hf]
      rw [e]
      simpa [hr] using ih d
    | some f =>
      by_cases hp : pick sl f = true
      · have hr : released sl = some f := by
          rw [hs, hf]
          simp [Option.filter, hp]
        have e : noteReleases pick (sl :: rest) d = noteReleases pick rest (noteRelease f d) := by
          simp [noteReleases, hf, hp]
        rw [e]
        obtain ⟨hl, h0, h1, others⟩ := ih (noteRelease f d)
        refine ⟨?_, ?_, ?_, ?_⟩
        · rw [hl]
          simp [hr, noteRelease]
        · simp [hr]
        · intro _
          by_cases hn : rest.filterMap released = []
          · rw [h0 hn]
            simp [hr, hn, noteRelease, addRelease]
          · rw [h1 hn]
            simp [hr, noteRelease, addRelease]
            omega
        · simpa [noteRelease, addRelease] using others
      · have hr : released sl = none := by
          rw [hs, hf]
          simp [Option.filter, hp]
        have e : noteReleases pick (sl :: rest) d = noteReleases pick rest d := by
          simp [noteReleases, hf, hp]
        rw [e]
        simpa [hr] using ih d

/-- R161: what releasing the slots picked does: the frames they hold are let go, those slots are
emptied, and nothing else changes. -/
theorem releaseSlots_does (pick : ReceiveSlot → FieldNo → Bool) (d : Direction) :
    OnlySlots d (releaseSlots pick d) ∧
      LetGo (d.slots.filterMap fun sl => sl.frame.filter (pick sl)) d (releaseSlots pick d) ∧
      (releaseSlots pick d).slots =
        d.slots.map fun sl => if slotPicked pick sl = true then emptied sl else sl := by
  obtain ⟨hl, h0, h1, hc, hp, ho, _, hs, hu, hx⟩ :=
    noteReleases_does pick (fun sl => sl.frame.filter (pick sl)) (fun _ => rfl) d.slots d
  refine ⟨?_, ⟨h0, h1, hl⟩, ?_⟩
  · cases d
    simp_all [OnlySlots, releaseSlots]
  · rfl

/-! ## The two points of a bank switch (R186) -/

theorem closureReaches_iff {a : AgreedState} {n : FieldNo} (h : a.lastClosed = some n)
    (p : PendingSelection) : closureReaches a p = true ↔ Reaches n p.target := by
  simp [closureReaches, h, Reaches]

theorem takeReaches_iff (a : AgreedState) (p : PendingSelection) :
    takeReaches a p = true ↔ newerThan p.target a.lastClosed = false := by
  simp [takeReaches]

/-! ## Direction records at their reset values (R165, R166) -/

theorem clearedDirection_atRest (side : Side) (d : Direction) :
    AtRest (sideSize side) d (clearedDirection side d) := rfl

theorem atRest_safe {lines : Nat} {d d' : Direction} (h : AtRest lines d d') : DirectionSafe d' := by
  rw [AtRest] at h
  subst h
  exact ⟨Nat.le_refl 2, Nat.zero_le 3, rfl⟩

theorem restDirections_safe (s : State) : HaloSafe (restDirections s) :=
  ⟨atRest_safe (clearedDirection_atRest .upper s.hx.up),
    atRest_safe (clearedDirection_atRest .lower s.hx.down)⟩

/-! ## What a station drives (R39, R40, R44) -/

theorem drivenParts_checked (p : Parcel) :
    (drivenParts p).check = crc16 (checkedBits (drivenParts p)) := by
  simp only [drivenParts, checkedBits]

theorem readingParcel_drivenParts (p : Parcel) : readingParcel (drivenParts p) = p := by
  have h : BitVec.toNat (BitVec.ofNat 3 p.sender.val) = p.sender.val :=
    Nat.mod_eq_of_lt p.sender.isLt
  cases p
  simp_all [readingParcel, drivenParts, uncheckedParts]

theorem contentWords_length (c : Content) : (contentWords c).length = contentLength c := by
  simp [contentWords]

theorem low10_sampleUnder (above : Word16) (v : Sample) : low10 (sampleUnder above v) = v := by
  apply BitVec.eq_of_getLsbD_eq
  intro i hi
  change ((above.extractLsb' 10 6 ++ v : BitVec (6 + 10)).setWidth 10).getLsbD i = _
  rw [BitVec.getLsbD_setWidth, BitVec.getLsbD_append]
  simp [hi]

theorem busSample_at (v : LineSamples) (k : Nat) :
    busSample v (4 * k) = v.cb.getD k 0 ∧ busSample v (4 * k + 1) = v.y.getD (2 * k) 0 ∧
      busSample v (4 * k + 2) = v.cr.getD k 0 ∧ busSample v (4 * k + 3) = v.y.getD (2 * k + 1) 0 := by
  have h0 : 4 * k % 2 = 0 ∧ 4 * k / 4 = k := by omega
  have h1 : (4 * k + 1) % 2 = 1 ∧ (4 * k + 1) / 2 = 2 * k := by omega
  have h2 : (4 * k + 2) % 2 = 0 ∧ (4 * k + 2) % 4 = 2 ∧ (4 * k + 2) / 4 = k := by omega
  have h3 : (4 * k + 3) % 2 = 1 ∧ (4 * k + 3) / 2 = 2 * k + 1 := by omega
  refine ⟨?_, ?_, ?_, ?_⟩
  · simp [busSample, h0]
  · simp [busSample, h1]
  · simp [busSample, h2]
  · simp [busSample, h3]

theorem contentWords_get (c : Content) (i : Nat) (h : i < contentLength c) :
    (contentWords c)[i]? = some (contentWord c i) := by
  simp [contentWords, h]

theorem markTx_sent {cause : MarkCause} {p : LineInterface}
    (h : ∀ x, p.tx = some x → x.sent = drivenParts x.parcel) :
    ∀ x, (markTx cause p).tx = some x → x.sent = drivenParts x.parcel := by
  intro x hx
  cases ht : p.tx with
  | none => simp [markTx, ht] at hx
  | some y =>
    simp only [markTx, ht, Option.map_some, Option.some.injEq] at hx
    subst hx
    exact h y ht

end Sys2Proof.Machine
end

