-- ==== Sys2Proof/Laws/Frames.lean ====
section
/-! SUPPORT. What each shared operation leaves unchanged, 
one lemma per operation, part 1 of 3: the banks, the builder, the buffers, the scaler and the output. -/

set_option linter.unusedSimpArgs false

namespace Sys2Proof.Machine

theorem keeps_foldl {α β γ : Type} (get : α → γ) (f : α → β → α)
    (h : ∀ a b, get (f a b) = get a) : ∀ (l : List β) (a : α), get (l.foldl f a) = get a
  | [], _ => rfl
  | b :: l, a => by rw [List.foldl_cons, keeps_foldl get f h l, h]

@[simp] theorem State.raise_frame (s : State) (e : Event) :
    (s.raise e).li = s.li ∧ (s.raise e).fs = s.fs ∧ (s.raise e).fa = s.fa ∧
    (s.raise e).cu = s.cu ∧ (s.raise e).pli = s.pli ∧ (s.raise e).lb = s.lb ∧
    (s.raise e).hx = s.hx ∧ (s.raise e).sc = s.sc ∧ (s.raise e).op = s.op ∧
    (s.raise e).freeCount = s.freeCount ∧ (s.raise e).pending = s.pending ∧
    (s.raise e).cp.config = s.cp.config ∧ (s.raise e).cp.lock = s.cp.lock ∧
    (s.raise e).cp.digest = s.cp.digest ∧ (s.raise e).cp.station = s.cp.station ∧
    (s.raise e).cp.ownership = s.cp.ownership ∧ (s.raise e).cp.result = s.cp.result ∧
    (s.raise e).cp.dataOut = s.cp.dataOut ∧ (s.raise e).cp.enables = s.cp.enables ∧
    (s.raise e).cp.totals = s.cp.totals ∧ (s.raise e).cp.resetHeld = s.cp.resetHeld := by
  refine ⟨?_, ?_, ?_, ?_, ?_, ?_, ?_, ?_, ?_, ?_, ?_, ?_, ?_, ?_, ?_, ?_, ?_, ?_, ?_, ?_, ?_⟩ <;> rfl

@[simp] theorem State.setTotals_frame (s : State) (t : Totals) :
    (s.setTotals t).li = s.li ∧ (s.setTotals t).fs = s.fs ∧ (s.setTotals t).fa = s.fa ∧
    (s.setTotals t).cu = s.cu ∧ (s.setTotals t).pli = s.pli ∧ (s.setTotals t).lb = s.lb ∧
    (s.setTotals t).hx = s.hx ∧ (s.setTotals t).sc = s.sc ∧ (s.setTotals t).op = s.op ∧
    (s.setTotals t).freeCount = s.freeCount ∧ (s.setTotals t).pending = s.pending ∧
    (s.setTotals t).cp.config = s.cp.config ∧ (s.setTotals t).cp.lock = s.cp.lock ∧
    (s.setTotals t).cp.digest = s.cp.digest ∧ (s.setTotals t).cp.station = s.cp.station ∧
    (s.setTotals t).cp.ownership = s.cp.ownership ∧ (s.setTotals t).cp.result = s.cp.result ∧
    (s.setTotals t).cp.dataOut = s.cp.dataOut ∧ (s.setTotals t).cp.events = s.cp.events ∧
    (s.setTotals t).cp.enables = s.cp.enables ∧
    (s.setTotals t).cp.resetHeld = s.cp.resetHeld := by
  refine ⟨?_, ?_, ?_, ?_, ?_, ?_, ?_, ?_, ?_, ?_, ?_, ?_, ?_, ?_, ?_, ?_, ?_, ?_, ?_, ?_, ?_⟩ <;> rfl

@[simp] theorem State.raiseEditPoint_frame (s : State) :
    (s.raiseEditPoint).li = s.li ∧ (s.raiseEditPoint).fs = s.fs ∧ (s.raiseEditPoint).fa = s.fa ∧
    (s.raiseEditPoint).cu = s.cu ∧ (s.raiseEditPoint).pli = s.pli ∧
    (s.raiseEditPoint).lb = s.lb ∧ (s.raiseEditPoint).hx = s.hx ∧ (s.raiseEditPoint).sc = s.sc ∧
    (s.raiseEditPoint).op = s.op ∧ (s.raiseEditPoint).freeCount = s.freeCount ∧
    (s.raiseEditPoint).pending = s.pending ∧ (s.raiseEditPoint).cp.config = s.cp.config ∧
    (s.raiseEditPoint).cp.lock = s.cp.lock ∧ (s.raiseEditPoint).cp.digest = s.cp.digest ∧
    (s.raiseEditPoint).cp.station = s.cp.station ∧
    (s.raiseEditPoint).cp.ownership = s.cp.ownership ∧
    (s.raiseEditPoint).cp.result = s.cp.result ∧ (s.raiseEditPoint).cp.dataOut = s.cp.dataOut ∧
    (s.raiseEditPoint).cp.enables = s.cp.enables ∧
    (s.raiseEditPoint).cp.resetHeld = s.cp.resetHeld := by
  refine ⟨?_, ?_, ?_, ?_, ?_, ?_, ?_, ?_, ?_, ?_, ?_, ?_, ?_, ?_, ?_, ?_, ?_, ?_, ?_, ?_⟩ <;> rfl

@[simp] theorem State.setMembership_frame (s : State) (m : Membership) :
    (s.setMembership m).li = s.li ∧ (s.setMembership m).fs = s.fs ∧
    (s.setMembership m).fa = s.fa ∧ (s.setMembership m).pli = s.pli ∧
    (s.setMembership m).lb = s.lb ∧ (s.setMembership m).hx = s.hx ∧
    (s.setMembership m).sc = s.sc ∧ (s.setMembership m).op = s.op ∧
    (s.setMembership m).cp = s.cp ∧ (s.setMembership m).freeCount = s.freeCount ∧
    (s.setMembership m).pending = s.pending ∧ (s.setMembership m).cu.agreed = s.cu.agreed ∧
    (s.setMembership m).cu.heard = s.cu.heard ∧
    (s.setMembership m).cu.foundingBar = s.cu.foundingBar ∧
    (s.setMembership m).cu.listenCount = s.cu.listenCount ∧
    (s.setMembership m).cu.timers = s.cu.timers ∧
    (s.setMembership m).cu.heldExpiries = s.cu.heldExpiries ∧
    (s.setMembership m).cu.owedCloses = s.cu.owedCloses := by
  refine ⟨?_, ?_, ?_, ?_, ?_, ?_, ?_, ?_, ?_, ?_, ?_, ?_, ?_, ?_, ?_, ?_, ?_, ?_⟩ <;> rfl

@[simp] theorem State.setAgreed_frame (s : State) (a : AgreedState) :
    (s.setAgreed a).li = s.li ∧ (s.setAgreed a).fs = s.fs ∧ (s.setAgreed a).fa = s.fa ∧
    (s.setAgreed a).pli = s.pli ∧ (s.setAgreed a).lb = s.lb ∧ (s.setAgreed a).hx = s.hx ∧
    (s.setAgreed a).sc = s.sc ∧ (s.setAgreed a).op = s.op ∧ (s.setAgreed a).cp = s.cp ∧
    (s.setAgreed a).freeCount = s.freeCount ∧ (s.setAgreed a).pending = s.pending ∧
    (s.setAgreed a).cu.membership = s.cu.membership ∧ (s.setAgreed a).cu.heard = s.cu.heard ∧
    (s.setAgreed a).cu.foundingBar = s.cu.foundingBar ∧
    (s.setAgreed a).cu.listenCount = s.cu.listenCount ∧ (s.setAgreed a).cu.timers = s.cu.timers ∧
    (s.setAgreed a).cu.heldExpiries = s.cu.heldExpiries ∧
    (s.setAgreed a).cu.owedCloses = s.cu.owedCloses := by
  refine ⟨?_, ?_, ?_, ?_, ?_, ?_, ?_, ?_, ?_, ?_, ?_, ?_, ?_, ?_, ?_, ?_, ?_, ?_⟩ <;> rfl

@[simp] theorem State.setSlots_frame (s : State) (v : List Slot) :
    (s.setSlots v).li = s.li ∧ (s.setSlots v).fa = s.fa ∧ (s.setSlots v).cu = s.cu ∧
    (s.setSlots v).pli = s.pli ∧ (s.setSlots v).lb = s.lb ∧ (s.setSlots v).hx = s.hx ∧
    (s.setSlots v).sc = s.sc ∧ (s.setSlots v).op = s.op ∧ (s.setSlots v).cp = s.cp ∧
    (s.setSlots v).freeCount = s.freeCount ∧ (s.setSlots v).pending = s.pending := by
  refine ⟨?_, ?_, ?_, ?_, ?_, ?_, ?_, ?_, ?_, ?_, ?_⟩ <;> rfl

@[simp] theorem State.setSlot_frame (s : State) (i : Nat) (v : Slot) :
    (s.setSlot i v).li = s.li ∧ (s.setSlot i v).fa = s.fa ∧ (s.setSlot i v).cu = s.cu ∧
    (s.setSlot i v).pli = s.pli ∧ (s.setSlot i v).lb = s.lb ∧ (s.setSlot i v).hx = s.hx ∧
    (s.setSlot i v).sc = s.sc ∧ (s.setSlot i v).op = s.op ∧ (s.setSlot i v).cp = s.cp ∧
    (s.setSlot i v).freeCount = s.freeCount ∧ (s.setSlot i v).pending = s.pending := by
  refine ⟨?_, ?_, ?_, ?_, ?_, ?_, ?_, ?_, ?_, ?_, ?_⟩ <;> rfl

@[simp] theorem State.updateOccupant_frame (s : State) (i : Nat) (f : Occupant → Occupant) :
    (s.updateOccupant i f).li = s.li ∧ (s.updateOccupant i f).fa = s.fa ∧
    (s.updateOccupant i f).cu = s.cu ∧ (s.updateOccupant i f).pli = s.pli ∧
    (s.updateOccupant i f).lb = s.lb ∧ (s.updateOccupant i f).hx = s.hx ∧
    (s.updateOccupant i f).sc = s.sc ∧ (s.updateOccupant i f).op = s.op ∧
    (s.updateOccupant i f).cp = s.cp ∧ (s.updateOccupant i f).freeCount = s.freeCount ∧
    (s.updateOccupant i f).pending = s.pending := by
  refine ⟨?_, ?_, ?_, ?_, ?_, ?_, ?_, ?_, ?_, ?_, ?_⟩ <;> rfl

@[simp] theorem claimSlot_frame (s : State) (i : Nat) (f : FieldNo) (p : Parity) :
    (claimSlot s i f p).li = s.li ∧ (claimSlot s i f p).fa = s.fa ∧
    (claimSlot s i f p).cu = s.cu ∧ (claimSlot s i f p).pli = s.pli ∧
    (claimSlot s i f p).lb = s.lb ∧ (claimSlot s i f p).hx = s.hx ∧
    (claimSlot s i f p).sc = s.sc ∧ (claimSlot s i f p).op = s.op ∧
    (claimSlot s i f p).cp = s.cp ∧ (claimSlot s i f p).freeCount = s.freeCount ∧
    (claimSlot s i f p).pending = s.pending := by
  refine ⟨?_, ?_, ?_, ?_, ?_, ?_, ?_, ?_, ?_, ?_, ?_⟩ <;> rfl

@[simp] theorem addHolder_frame (s : State) (h : Holder) (i : Nat) :
    (addHolder h s i).li = s.li ∧ (addHolder h s i).fa = s.fa ∧ (addHolder h s i).cu = s.cu ∧
    (addHolder h s i).pli = s.pli ∧ (addHolder h s i).lb = s.lb ∧ (addHolder h s i).hx = s.hx ∧
    (addHolder h s i).sc = s.sc ∧ (addHolder h s i).op = s.op ∧ (addHolder h s i).cp = s.cp ∧
    (addHolder h s i).freeCount = s.freeCount ∧ (addHolder h s i).pending = s.pending := by
  refine ⟨?_, ?_, ?_, ?_, ?_, ?_, ?_, ?_, ?_, ?_, ?_⟩ <;> (unfold addHolder; (repeat' split) <;> simp)

@[simp] theorem dropHolder_frame (s : State) (h : Holder) :
    (dropHolder h s).li = s.li ∧ (dropHolder h s).fa = s.fa ∧ (dropHolder h s).cu = s.cu ∧
    (dropHolder h s).pli = s.pli ∧ (dropHolder h s).lb = s.lb ∧ (dropHolder h s).hx = s.hx ∧
    (dropHolder h s).sc = s.sc ∧ (dropHolder h s).op = s.op ∧ (dropHolder h s).cp = s.cp ∧
    (dropHolder h s).freeCount = s.freeCount ∧ (dropHolder h s).pending = s.pending := by
  refine ⟨?_, ?_, ?_, ?_, ?_, ?_, ?_, ?_, ?_, ?_, ?_⟩ <;> rfl

@[simp] theorem holdFields_frame (s : State) (h : Holder) (fs : List FieldNo) :
    (holdFields h s fs).li = s.li ∧ (holdFields h s fs).fa = s.fa ∧
    (holdFields h s fs).cu = s.cu ∧ (holdFields h s fs).pli = s.pli ∧
    (holdFields h s fs).lb = s.lb ∧ (holdFields h s fs).hx = s.hx ∧
    (holdFields h s fs).sc = s.sc ∧ (holdFields h s fs).op = s.op ∧
    (holdFields h s fs).cp = s.cp ∧ (holdFields h s fs).freeCount = s.freeCount ∧
    (holdFields h s fs).pending = s.pending := by
  exact ⟨by (unfold holdFields; exact keeps_foldl (fun t : State => t.li) _ (by intros; simp) _ _),
    by (unfold holdFields; exact keeps_foldl (fun t : State => t.fa) _ (by intros; simp) _ _),
    by (unfold holdFields; exact keeps_foldl (fun t : State => t.cu) _ (by intros; simp) _ _),
    by (unfold holdFields; exact keeps_foldl (fun t : State => t.pli) _ (by intros; simp) _ _),
    by (unfold holdFields; exact keeps_foldl (fun t : State => t.lb) _ (by intros; simp) _ _),
    by (unfold holdFields; exact keeps_foldl (fun t : State => t.hx) _ (by intros; simp) _ _),
    by (unfold holdFields; exact keeps_foldl (fun t : State => t.sc) _ (by intros; simp) _ _),
    by (unfold holdFields; exact keeps_foldl (fun t : State => t.op) _ (by intros; simp) _ _),
    by (unfold holdFields; exact keeps_foldl (fun t : State => t.cp) _ (by intros; simp) _ _),
    by (unfold holdFields; exact keeps_foldl (fun t : State => t.freeCount) _ (by intros; simp) _ _),
    by (unfold holdFields; exact keeps_foldl (fun t : State => t.pending) _ (by intros; simp) _ _)⟩

@[simp] theorem freeUnheld_frame (s : State) :
    (freeUnheld s).li = s.li ∧ (freeUnheld s).fa = s.fa ∧ (freeUnheld s).cu = s.cu ∧
    (freeUnheld s).pli = s.pli ∧ (freeUnheld s).lb = s.lb ∧ (freeUnheld s).hx = s.hx ∧
    (freeUnheld s).sc = s.sc ∧ (freeUnheld s).op = s.op ∧ (freeUnheld s).cp = s.cp ∧
    (freeUnheld s).freeCount = s.freeCount ∧ (freeUnheld s).pending = s.pending := by
  refine ⟨?_, ?_, ?_, ?_, ?_, ?_, ?_, ?_, ?_, ?_, ?_⟩ <;> rfl

@[simp] theorem dropOpenField_frame (s : State) :
    (dropOpenField s).fa = s.fa ∧ (dropOpenField s).cu = s.cu ∧ (dropOpenField s).pli = s.pli ∧
    (dropOpenField s).lb = s.lb ∧ (dropOpenField s).hx = s.hx ∧ (dropOpenField s).sc = s.sc ∧
    (dropOpenField s).op = s.op ∧ (dropOpenField s).cp = s.cp ∧
    (dropOpenField s).freeCount = s.freeCount ∧ (dropOpenField s).pending = s.pending := by
  refine ⟨?_, ?_, ?_, ?_, ?_, ?_, ?_, ?_, ?_, ?_⟩ <;> (unfold dropOpenField; (repeat' split) <;> simp)

@[simp] theorem returnCounts_frame (s : State) (q : Queued) :
    (returnCounts q s).li = s.li ∧ (returnCounts q s).fs = s.fs ∧ (returnCounts q s).fa = s.fa ∧
    (returnCounts q s).cu = s.cu ∧ (returnCounts q s).pli = s.pli ∧
    (returnCounts q s).lb = s.lb ∧ (returnCounts q s).sc = s.sc ∧ (returnCounts q s).op = s.op ∧
    (returnCounts q s).cp = s.cp ∧ (returnCounts q s).freeCount = s.freeCount ∧
    (returnCounts q s).pending = s.pending ∧ (returnCounts q s).hx.upperSide = s.hx.upperSide ∧
    (returnCounts q s).hx.lowerSide = s.hx.lowerSide ∧
    (returnCounts q s).hx.timer = s.hx.timer := by
  refine ⟨?_, ?_, ?_, ?_, ?_, ?_, ?_, ?_, ?_, ?_, ?_, ?_, ?_, ?_⟩ <;> (unfold returnCounts; (repeat' split) <;> simp)

@[simp] theorem pushUrgent_frame (s : State) (q : Queued) :
    (pushUrgent q s).li = s.li ∧ (pushUrgent q s).fs = s.fs ∧ (pushUrgent q s).fa = s.fa ∧
    (pushUrgent q s).cu = s.cu ∧ (pushUrgent q s).lb = s.lb ∧ (pushUrgent q s).hx = s.hx ∧
    (pushUrgent q s).sc = s.sc ∧ (pushUrgent q s).op = s.op ∧ (pushUrgent q s).cp = s.cp ∧
    (pushUrgent q s).freeCount = s.freeCount ∧ (pushUrgent q s).pending = s.pending ∧
    (pushUrgent q s).pli.attached = s.pli.attached ∧ (pushUrgent q s).pli.bulk = s.pli.bulk ∧
    (pushUrgent q s).pli.urgentAttempts = s.pli.urgentAttempts ∧
    (pushUrgent q s).pli.urgentDiscards = s.pli.urgentDiscards ∧
    (pushUrgent q s).pli.tx = s.pli.tx ∧
    (pushUrgent q s).pli.idleMonitor = s.pli.idleMonitor := by
  refine ⟨?_, ?_, ?_, ?_, ?_, ?_, ?_, ?_, ?_, ?_, ?_, ?_, ?_, ?_, ?_, ?_, ?_⟩ <;> rfl

@[simp] theorem requestUrgent_frame (s : State) (q : Queued) :
    (requestUrgent q s).li = s.li ∧ (requestUrgent q s).fs = s.fs ∧
    (requestUrgent q s).fa = s.fa ∧ (requestUrgent q s).cu = s.cu ∧
    (requestUrgent q s).lb = s.lb ∧ (requestUrgent q s).hx = s.hx ∧
    (requestUrgent q s).sc = s.sc ∧ (requestUrgent q s).op = s.op ∧
    (requestUrgent q s).cp = s.cp ∧ (requestUrgent q s).freeCount = s.freeCount ∧
    (requestUrgent q s).pending = s.pending ∧ (requestUrgent q s).pli.attached = s.pli.attached ∧
    (requestUrgent q s).pli.bulk = s.pli.bulk ∧
    (requestUrgent q s).pli.urgentAttempts = s.pli.urgentAttempts ∧
    (requestUrgent q s).pli.urgentDiscards = s.pli.urgentDiscards ∧
    (requestUrgent q s).pli.tx = s.pli.tx ∧
    (requestUrgent q s).pli.idleMonitor = s.pli.idleMonitor := by
  refine ⟨?_, ?_, ?_, ?_, ?_, ?_, ?_, ?_, ?_, ?_, ?_, ?_, ?_, ?_, ?_, ?_, ?_⟩ <;> (unfold requestUrgent; (repeat' split) <;> simp)

@[simp] theorem pushBulk_frame (s : State) (ps : List HaloParcel) :
    (pushBulk ps s).li = s.li ∧ (pushBulk ps s).fs = s.fs ∧ (pushBulk ps s).fa = s.fa ∧
    (pushBulk ps s).cu = s.cu ∧ (pushBulk ps s).lb = s.lb ∧ (pushBulk ps s).hx = s.hx ∧
    (pushBulk ps s).sc = s.sc ∧ (pushBulk ps s).op = s.op ∧ (pushBulk ps s).cp = s.cp ∧
    (pushBulk ps s).freeCount = s.freeCount ∧ (pushBulk ps s).pending = s.pending ∧
    (pushBulk ps s).pli.attached = s.pli.attached ∧ (pushBulk ps s).pli.urgent = s.pli.urgent ∧
    (pushBulk ps s).pli.urgentAttempts = s.pli.urgentAttempts ∧
    (pushBulk ps s).pli.urgentDiscards = s.pli.urgentDiscards ∧
    (pushBulk ps s).pli.tx = s.pli.tx ∧ (pushBulk ps s).pli.idleMonitor = s.pli.idleMonitor := by
  refine ⟨?_, ?_, ?_, ?_, ?_, ?_, ?_, ?_, ?_, ?_, ?_, ?_, ?_, ?_, ?_, ?_, ?_⟩ <;> rfl

@[simp] theorem contend_frame (s : State) (o : Option (Fin 128)) :
    (contend o s).li = s.li ∧ (contend o s).fs = s.fs ∧ (contend o s).fa = s.fa ∧
    (contend o s).cu = s.cu ∧ (contend o s).lb = s.lb ∧ (contend o s).hx = s.hx ∧
    (contend o s).sc = s.sc ∧ (contend o s).op = s.op ∧ (contend o s).cp = s.cp ∧
    (contend o s).freeCount = s.freeCount ∧ (contend o s).pending = s.pending ∧
    (contend o s).pli.attached = s.pli.attached ∧ (contend o s).pli.urgent = s.pli.urgent ∧
    (contend o s).pli.bulk = s.pli.bulk ∧
    (contend o s).pli.urgentAttempts = s.pli.urgentAttempts ∧
    (contend o s).pli.urgentDiscards = s.pli.urgentDiscards ∧
    (contend o s).pli.idleMonitor = s.pli.idleMonitor := by
  refine ⟨?_, ?_, ?_, ?_, ?_, ?_, ?_, ?_, ?_, ?_, ?_, ?_, ?_, ?_, ?_, ?_, ?_⟩ <;> (unfold contend; (repeat' split) <;> simp)

/-- R56: a selective withdrawal leaves all of the interface but its queue, its count and the mark. -/
@[simp] theorem withdrawnUrgent_frame (hit : Queued → Bool) (p : LineInterface) :
    (withdrawnUrgent hit p).attached = p.attached ∧ (withdrawnUrgent hit p).bulk = p.bulk ∧
    (withdrawnUrgent hit p).bulkAttempts = p.bulkAttempts ∧
    (withdrawnUrgent hit p).urgentDiscards = p.urgentDiscards ∧
    (withdrawnUrgent hit p).idleMonitor = p.idleMonitor ∧
    (withdrawnUrgent hit p).ackDrive = p.ackDrive ∧
    (withdrawnUrgent hit p).tx.isSome = p.tx.isSome := by
  refine ⟨?_, ?_, ?_, ?_, ?_, ?_, ?_⟩ <;>
    (unfold withdrawnUrgent; repeat' split) <;> simp [markTx, Option.isSome_map]

/-- R56: the same for the Bulk Queue. -/
@[simp] theorem withdrawnBulk_frame (hit : HaloParcel → Bool) (p : LineInterface) :
    (withdrawnBulk hit p).attached = p.attached ∧ (withdrawnBulk hit p).urgent = p.urgent ∧
    (withdrawnBulk hit p).urgentAttempts = p.urgentAttempts ∧
    (withdrawnBulk hit p).urgentDiscards = p.urgentDiscards ∧
    (withdrawnBulk hit p).idleMonitor = p.idleMonitor ∧
    (withdrawnBulk hit p).ackDrive = p.ackDrive ∧
    (withdrawnBulk hit p).tx.isSome = p.tx.isSome := by
  refine ⟨?_, ?_, ?_, ?_, ?_, ?_, ?_⟩ <;>
    (unfold withdrawnBulk; repeat' split) <;> simp [markTx, Option.isSome_map]

/-- R56: what a selective withdrawal does to the interface. -/
@[simp] theorem withdrawUrgent_pli (s : State) (hit : Queued → Bool) :
    (withdrawUrgent hit s).pli = withdrawnUrgent hit s.pli := by
  unfold withdrawUrgent
  rw [keeps_foldl (fun t : State => t.pli) _ (by intros; simp)]
  rfl

@[simp] theorem withdrawBulk_pli (s : State) (hit : HaloParcel → Bool) :
    (withdrawBulk hit s).pli = withdrawnBulk hit s.pli := rfl

@[simp] theorem withdrawUrgent_frame (s : State) (hit : Queued → Bool) :
    (withdrawUrgent hit s).li = s.li ∧ (withdrawUrgent hit s).fs = s.fs ∧
    (withdrawUrgent hit s).fa = s.fa ∧ (withdrawUrgent hit s).cu = s.cu ∧
    (withdrawUrgent hit s).lb = s.lb ∧ (withdrawUrgent hit s).sc = s.sc ∧
    (withdrawUrgent hit s).op = s.op ∧ (withdrawUrgent hit s).cp = s.cp ∧
    (withdrawUrgent hit s).freeCount = s.freeCount ∧ (withdrawUrgent hit s).pending = s.pending ∧
    (withdrawUrgent hit s).pli.attached = s.pli.attached ∧
    (withdrawUrgent hit s).pli.bulk = s.pli.bulk ∧
    (withdrawUrgent hit s).pli.urgentDiscards = s.pli.urgentDiscards ∧
    (withdrawUrgent hit s).pli.idleMonitor = s.pli.idleMonitor ∧
    (withdrawUrgent hit s).pli.tx.isSome = s.pli.tx.isSome ∧
    (withdrawUrgent hit s).hx.upperSide = s.hx.upperSide ∧
    (withdrawUrgent hit s).hx.lowerSide = s.hx.lowerSide ∧
    (withdrawUrgent hit s).hx.timer = s.hx.timer := by
  exact ⟨by (unfold withdrawUrgent; rw [keeps_foldl (fun t : State => t.li) _ (by intros; simp)]; simp),
    by (unfold withdrawUrgent; rw [keeps_foldl (fun t : State => t.fs) _ (by intros; simp)]; simp),
    by (unfold withdrawUrgent; rw [keeps_foldl (fun t : State => t.fa) _ (by intros; simp)]; simp),
    by (unfold withdrawUrgent; rw [keeps_foldl (fun t : State => t.cu) _ (by intros; simp)]; simp),
    by (unfold withdrawUrgent; rw [keeps_foldl (fun t : State => t.lb) _ (by intros; simp)]; simp),
    by (unfold withdrawUrgent; rw [keeps_foldl (fun t : State => t.sc) _ (by intros; simp)]; simp),
    by (unfold withdrawUrgent; rw [keeps_foldl (fun t : State => t.op) _ (by intros; simp)]; simp),
    by (unfold withdrawUrgent; rw [keeps_foldl (fun t : State => t.cp) _ (by intros; simp)]; simp),
    by (unfold withdrawUrgent; rw [keeps_foldl (fun t : State => t.freeCount) _ (by intros; simp)]; simp),
    by (unfold withdrawUrgent; rw [keeps_foldl (fun t : State => t.pending) _ (by intros; simp)]; simp),
    by (unfold withdrawUrgent; rw [keeps_foldl (fun t : State => t.pli.attached) _ (by intros; simp)]; simp),
    by (unfold withdrawUrgent; rw [keeps_foldl (fun t : State => t.pli.bulk) _ (by intros; simp)]; simp),
    by (unfold withdrawUrgent; rw [keeps_foldl (fun t : State => t.pli.urgentDiscards) _ (by intros; simp)]; simp),
    by (unfold withdrawUrgent; rw [keeps_foldl (fun t : State => t.pli.idleMonitor) _ (by intros; simp)]; simp),
    by (unfold withdrawUrgent; rw [keeps_foldl (fun t : State => t.pli.tx.isSome) _ (by intros; simp)]; simp),
    by (unfold withdrawUrgent; rw [keeps_foldl (fun t : State => t.hx.upperSide) _ (by intros; simp)]; simp),
    by (unfold withdrawUrgent; rw [keeps_foldl (fun t : State => t.hx.lowerSide) _ (by intros; simp)]; simp),
    by (unfold withdrawUrgent; rw [keeps_foldl (fun t : State => t.hx.timer) _ (by intros; simp)]; simp)⟩

@[simp] theorem withdrawBulk_frame (s : State) (hit : HaloParcel → Bool) :
    (withdrawBulk hit s).li = s.li ∧ (withdrawBulk hit s).fs = s.fs ∧
    (withdrawBulk hit s).fa = s.fa ∧ (withdrawBulk hit s).cu = s.cu ∧
    (withdrawBulk hit s).lb = s.lb ∧ (withdrawBulk hit s).hx = s.hx ∧
    (withdrawBulk hit s).sc = s.sc ∧ (withdrawBulk hit s).op = s.op ∧
    (withdrawBulk hit s).cp = s.cp ∧ (withdrawBulk hit s).freeCount = s.freeCount ∧
    (withdrawBulk hit s).pending = s.pending ∧
    (withdrawBulk hit s).pli.attached = s.pli.attached ∧
    (withdrawBulk hit s).pli.urgent = s.pli.urgent ∧
    (withdrawBulk hit s).pli.urgentAttempts = s.pli.urgentAttempts ∧
    (withdrawBulk hit s).pli.urgentDiscards = s.pli.urgentDiscards ∧
    (withdrawBulk hit s).pli.idleMonitor = s.pli.idleMonitor ∧
    (withdrawBulk hit s).pli.tx.isSome = s.pli.tx.isSome := by
  refine ⟨?_, ?_, ?_, ?_, ?_, ?_, ?_, ?_, ?_, ?_, ?_, ?_, ?_, ?_, ?_, ?_, ?_⟩ <;> simp [withdrawBulk]

@[simp] theorem State.drive_frame (s : State) (a : AckDrive) :
    (s.drive a).li = s.li ∧ (s.drive a).fs = s.fs ∧ (s.drive a).fa = s.fa ∧
    (s.drive a).cu = s.cu ∧ (s.drive a).lb = s.lb ∧ (s.drive a).hx = s.hx ∧
    (s.drive a).sc = s.sc ∧ (s.drive a).op = s.op ∧ (s.drive a).cp = s.cp ∧
    (s.drive a).freeCount = s.freeCount ∧ (s.drive a).pending = s.pending ∧
    (s.drive a).pli.attached = s.pli.attached ∧ (s.drive a).pli.urgent = s.pli.urgent ∧
    (s.drive a).pli.bulk = s.pli.bulk ∧ (s.drive a).pli.urgentAttempts = s.pli.urgentAttempts ∧
    (s.drive a).pli.urgentDiscards = s.pli.urgentDiscards ∧ (s.drive a).pli.tx = s.pli.tx ∧
    (s.drive a).pli.idleMonitor = s.pli.idleMonitor ∧
    (s.drive a).pli.tx.isSome = s.pli.tx.isSome := by
  refine ⟨?_, ?_, ?_, ?_, ?_, ?_, ?_, ?_, ?_, ?_, ?_, ?_, ?_, ?_, ?_, ?_, ?_, ?_, ?_⟩ <;> rfl

/-- R50, R58: removing the parcel sent leaves the rest of the interface. -/
@[simp] theorem dropSent_frame (t : Transmission) (p : LineInterface) :
    (dropSent t p).attached = p.attached ∧ (dropSent t p).idleMonitor = p.idleMonitor ∧
    (dropSent t p).urgentDiscards = p.urgentDiscards ∧ (dropSent t p).ackDrive = p.ackDrive ∧
    (dropSent t p).tx = none := by
  refine ⟨?_, ?_, ?_, ?_, ?_⟩ <;> (unfold dropSent; split) <;> rfl

/-- R51: counting an attempt leaves the queues. -/
@[simp] theorem countAttempt_frame (t : Transmission) (p : LineInterface) :
    (countAttempt t p).attached = p.attached ∧ (countAttempt t p).idleMonitor = p.idleMonitor ∧
    (countAttempt t p).urgentDiscards = p.urgentDiscards ∧
    (countAttempt t p).ackDrive = p.ackDrive ∧ (countAttempt t p).urgent = p.urgent ∧
    (countAttempt t p).bulk = p.bulk ∧ (countAttempt t p).tx = none := by
  refine ⟨?_, ?_, ?_, ?_, ?_, ?_, ?_⟩ <;> (unfold countAttempt; split) <;> rfl

/-- R57: a flush's mark leaves all but the parcel in transmission. -/
@[simp] theorem markFlushed_frame (p : LineInterface) :
    (markFlushed p).attached = p.attached ∧ (markFlushed p).idleMonitor = p.idleMonitor ∧
    (markFlushed p).urgentDiscards = p.urgentDiscards ∧ (markFlushed p).ackDrive = p.ackDrive ∧
    (markFlushed p).urgent = p.urgent ∧ (markFlushed p).bulk = p.bulk ∧
    (markFlushed p).tx.isSome = p.tx.isSome := by
  refine ⟨?_, ?_, ?_, ?_, ?_, ?_, ?_⟩ <;> simp [markFlushed]

@[simp] theorem flush_frame (s : State) :
    (flush s).li = s.li ∧ (flush s).fs = s.fs ∧ (flush s).fa = s.fa ∧ (flush s).cu = s.cu ∧
    (flush s).lb = s.lb ∧ (flush s).hx = s.hx ∧ (flush s).sc = s.sc ∧ (flush s).op = s.op ∧
    (flush s).cp = s.cp ∧ (flush s).freeCount = s.freeCount ∧ (flush s).pending = s.pending ∧
    (flush s).pli.attached = s.pli.attached ∧ (flush s).pli.idleMonitor = s.pli.idleMonitor ∧
    (flush s).pli.tx.isSome = s.pli.tx.isSome := by
  refine ⟨?_, ?_, ?_, ?_, ?_, ?_, ?_, ?_, ?_, ?_, ?_, ?_, ?_, ?_⟩ <;> simp [flush]

@[simp] theorem completeSend_frame (s : State) :
    (completeSend s).li = s.li ∧ (completeSend s).fs = s.fs ∧ (completeSend s).fa = s.fa ∧
    (completeSend s).cu = s.cu ∧ (completeSend s).lb = s.lb ∧ (completeSend s).hx = s.hx ∧
    (completeSend s).sc = s.sc ∧ (completeSend s).op = s.op ∧ (completeSend s).cp = s.cp ∧
    (completeSend s).freeCount = s.freeCount ∧ (completeSend s).pending = s.pending ∧
    (completeSend s).pli.attached = s.pli.attached ∧
    (completeSend s).pli.idleMonitor = s.pli.idleMonitor := by
  refine ⟨?_, ?_, ?_, ?_, ?_, ?_, ?_, ?_, ?_, ?_, ?_, ?_, ?_⟩ <;> (unfold completeSend; (repeat' split) <;> simp)

@[simp] theorem removeMarked_frame (s : State) (t : Transmission) (c : MarkCause) :
    (removeMarked t c s).li = s.li ∧ (removeMarked t c s).fs = s.fs ∧
    (removeMarked t c s).fa = s.fa ∧ (removeMarked t c s).cu = s.cu ∧
    (removeMarked t c s).lb = s.lb ∧ (removeMarked t c s).sc = s.sc ∧
    (removeMarked t c s).op = s.op ∧ (removeMarked t c s).cp = s.cp ∧
    (removeMarked t c s).freeCount = s.freeCount ∧ (removeMarked t c s).pending = s.pending ∧
    (removeMarked t c s).pli.attached = s.pli.attached ∧
    (removeMarked t c s).pli.urgentDiscards = s.pli.urgentDiscards ∧
    (removeMarked t c s).pli.idleMonitor = s.pli.idleMonitor ∧
    (removeMarked t c s).hx.upperSide = s.hx.upperSide ∧
    (removeMarked t c s).hx.lowerSide = s.hx.lowerSide ∧
    (removeMarked t c s).hx.timer = s.hx.timer := by
  refine ⟨?_, ?_, ?_, ?_, ?_, ?_, ?_, ?_, ?_, ?_, ?_, ?_, ?_, ?_, ?_, ?_⟩ <;> (unfold removeMarked; (repeat' split) <;> simp)

@[simp] theorem voidSend_frame (s : State) :
    (voidSend s).li = s.li ∧ (voidSend s).fs = s.fs ∧ (voidSend s).fa = s.fa ∧
    (voidSend s).cu = s.cu ∧ (voidSend s).lb = s.lb ∧ (voidSend s).sc = s.sc ∧
    (voidSend s).op = s.op ∧ (voidSend s).cp = s.cp ∧ (voidSend s).freeCount = s.freeCount ∧
    (voidSend s).pending = s.pending ∧ (voidSend s).pli.attached = s.pli.attached ∧
    (voidSend s).pli.urgentDiscards = s.pli.urgentDiscards ∧
    (voidSend s).pli.idleMonitor = s.pli.idleMonitor ∧
    (voidSend s).hx.upperSide = s.hx.upperSide ∧ (voidSend s).hx.lowerSide = s.hx.lowerSide ∧
    (voidSend s).hx.timer = s.hx.timer := by
  refine ⟨?_, ?_, ?_, ?_, ?_, ?_, ?_, ?_, ?_, ?_, ?_, ?_, ?_, ?_, ?_, ?_⟩ <;> (unfold voidSend; (repeat' split) <;> simp)

@[simp] theorem cutShort_frame (s : State) :
    (cutShort s).li = s.li ∧ (cutShort s).fs = s.fs ∧ (cutShort s).fa = s.fa ∧
    (cutShort s).cu = s.cu ∧ (cutShort s).lb = s.lb ∧ (cutShort s).sc = s.sc ∧
    (cutShort s).op = s.op ∧ (cutShort s).cp = s.cp ∧ (cutShort s).freeCount = s.freeCount ∧
    (cutShort s).pending = s.pending ∧ (cutShort s).pli.attached = s.pli.attached ∧
    (cutShort s).pli.urgentDiscards = s.pli.urgentDiscards ∧
    (cutShort s).pli.idleMonitor = s.pli.idleMonitor ∧
    (cutShort s).hx.upperSide = s.hx.upperSide ∧ (cutShort s).hx.lowerSide = s.hx.lowerSide ∧
    (cutShort s).hx.timer = s.hx.timer := by
  refine ⟨?_, ?_, ?_, ?_, ?_, ?_, ?_, ?_, ?_, ?_, ?_, ?_, ?_, ?_, ?_, ?_⟩ <;> (unfold cutShort; (repeat' split) <;> simp)

@[simp] theorem attach_frame (s : State) :
    (attach s).li = s.li ∧ (attach s).fs = s.fs ∧ (attach s).fa = s.fa ∧ (attach s).cu = s.cu ∧
    (attach s).lb = s.lb ∧ (attach s).hx = s.hx ∧ (attach s).sc = s.sc ∧ (attach s).op = s.op ∧
    (attach s).cp = s.cp ∧ (attach s).freeCount = s.freeCount ∧ (attach s).pending = s.pending ∧
    (attach s).pli.urgent = s.pli.urgent ∧ (attach s).pli.bulk = s.pli.bulk ∧
    (attach s).pli.urgentAttempts = s.pli.urgentAttempts ∧
    (attach s).pli.urgentDiscards = s.pli.urgentDiscards ∧ (attach s).pli.tx = s.pli.tx ∧
    (attach s).pli.idleMonitor = s.pli.idleMonitor ∧
    (attach s).pli.tx.isSome = s.pli.tx.isSome := by
  refine ⟨?_, ?_, ?_, ?_, ?_, ?_, ?_, ?_, ?_, ?_, ?_, ?_, ?_, ?_, ?_, ?_, ?_, ?_⟩ <;> rfl

@[simp] theorem detach_frame (s : State) :
    (detach s).li = s.li ∧ (detach s).fs = s.fs ∧ (detach s).fa = s.fa ∧ (detach s).cu = s.cu ∧
    (detach s).lb = s.lb ∧ (detach s).sc = s.sc ∧ (detach s).op = s.op ∧ (detach s).cp = s.cp ∧
    (detach s).freeCount = s.freeCount ∧ (detach s).pending = s.pending ∧
    (detach s).pli.urgentDiscards = s.pli.urgentDiscards ∧
    (detach s).pli.idleMonitor = s.pli.idleMonitor ∧ (detach s).hx.upperSide = s.hx.upperSide ∧
    (detach s).hx.lowerSide = s.hx.lowerSide ∧ (detach s).hx.timer = s.hx.timer := by
  refine ⟨?_, ?_, ?_, ?_, ?_, ?_, ?_, ?_, ?_, ?_, ?_, ?_, ?_, ?_, ?_⟩ <;> simp [detach]

@[simp] theorem stopLine_frame (s : State) :
    (stopLine s).li = s.li ∧ (stopLine s).fs = s.fs ∧ (stopLine s).fa = s.fa ∧
    (stopLine s).cu = s.cu ∧ (stopLine s).lb = s.lb ∧ (stopLine s).sc = s.sc ∧
    (stopLine s).op = s.op ∧ (stopLine s).cp = s.cp ∧ (stopLine s).freeCount = s.freeCount ∧
    (stopLine s).pending = s.pending ∧ (stopLine s).hx.upperSide = s.hx.upperSide ∧
    (stopLine s).hx.lowerSide = s.hx.lowerSide ∧ (stopLine s).hx.timer = s.hx.timer := by
  refine ⟨?_, ?_, ?_, ?_, ?_, ?_, ?_, ?_, ?_, ?_, ?_, ?_, ?_⟩ <;> simp [stopLine]

@[simp] theorem State.setBank_frame (s : State) (n : BankName) (v : Bank) :
    (s.setBank n v).li = s.li ∧ (s.setBank n v).fs = s.fs ∧ (s.setBank n v).fa = s.fa ∧
    (s.setBank n v).cu = s.cu ∧ (s.setBank n v).pli = s.pli ∧ (s.setBank n v).lb = s.lb ∧
    (s.setBank n v).hx = s.hx ∧ (s.setBank n v).op = s.op ∧ (s.setBank n v).cp = s.cp ∧
    (s.setBank n v).freeCount = s.freeCount ∧ (s.setBank n v).pending = s.pending ∧
    (s.setBank n v).sc.scaling = s.sc.scaling ∧ (s.setBank n v).sc.outgoing = s.sc.outgoing ∧
    (s.setBank n v).sc.staging = s.sc.staging ∧ (s.setBank n v).sc.commit = s.sc.commit := by
  refine ⟨?_, ?_, ?_, ?_, ?_, ?_, ?_, ?_, ?_, ?_, ?_, ?_, ?_, ?_, ?_⟩ <;> (unfold State.setBank; (repeat' split) <;> simp)

@[simp] theorem startScaling_frame (s : State) (n : FieldNo) (a : Bool) :
    (startScaling n a s).li = s.li ∧ (startScaling n a s).fs = s.fs ∧
    (startScaling n a s).fa = s.fa ∧ (startScaling n a s).cu = s.cu ∧
    (startScaling n a s).pli = s.pli ∧ (startScaling n a s).lb = s.lb ∧
    (startScaling n a s).hx = s.hx ∧ (startScaling n a s).op = s.op ∧
    (startScaling n a s).cp = s.cp ∧ (startScaling n a s).freeCount = s.freeCount ∧
    (startScaling n a s).pending = s.pending ∧ (startScaling n a s).sc.bankA = s.sc.bankA ∧
    (startScaling n a s).sc.bankB = s.sc.bankB ∧ (startScaling n a s).sc.staging = s.sc.staging ∧
    (startScaling n a s).sc.commit = s.sc.commit := by
  refine ⟨?_, ?_, ?_, ?_, ?_, ?_, ?_, ?_, ?_, ?_, ?_, ?_, ?_, ?_, ?_⟩ <;> rfl

@[simp] theorem toldResolved_frame (s : State) (side : Side) :
    (toldResolved side s).li = s.li ∧ (toldResolved side s).fs = s.fs ∧
    (toldResolved side s).fa = s.fa ∧ (toldResolved side s).cu = s.cu ∧
    (toldResolved side s).pli = s.pli ∧ (toldResolved side s).lb = s.lb ∧
    (toldResolved side s).hx = s.hx ∧ (toldResolved side s).op = s.op ∧
    (toldResolved side s).cp = s.cp ∧ (toldResolved side s).freeCount = s.freeCount ∧
    (toldResolved side s).pending = s.pending ∧
    (toldResolved side s).sc.outgoing = s.sc.outgoing ∧
    (toldResolved side s).sc.bankA = s.sc.bankA ∧ (toldResolved side s).sc.bankB = s.sc.bankB ∧
    (toldResolved side s).sc.staging = s.sc.staging ∧
    (toldResolved side s).sc.commit = s.sc.commit := by
  refine ⟨?_, ?_, ?_, ?_, ?_, ?_, ?_, ?_, ?_, ?_, ?_, ?_, ?_, ?_, ?_, ?_⟩ <;> (unfold toldResolved; (repeat' split) <;> simp)

@[simp] theorem State.setDir_frame (s : State) (side : Side) (d : Direction) :
    (s.setDir side d).li = s.li ∧ (s.setDir side d).fs = s.fs ∧ (s.setDir side d).fa = s.fa ∧
    (s.setDir side d).cu = s.cu ∧ (s.setDir side d).pli = s.pli ∧ (s.setDir side d).lb = s.lb ∧
    (s.setDir side d).sc = s.sc ∧ (s.setDir side d).op = s.op ∧ (s.setDir side d).cp = s.cp ∧
    (s.setDir side d).freeCount = s.freeCount ∧ (s.setDir side d).pending = s.pending ∧
    (s.setDir side d).hx.upperSide = s.hx.upperSide ∧
    (s.setDir side d).hx.lowerSide = s.hx.lowerSide ∧
    (s.setDir side d).hx.timer = s.hx.timer := by
  refine ⟨?_, ?_, ?_, ?_, ?_, ?_, ?_, ?_, ?_, ?_, ?_, ?_, ?_, ?_⟩ <;> (unfold State.setDir; (repeat' split) <;> simp)

@[simp] theorem bothDirections_frame (s : State) (f : Direction → Direction) :
    (bothDirections f s).li = s.li ∧ (bothDirections f s).fs = s.fs ∧
    (bothDirections f s).fa = s.fa ∧ (bothDirections f s).cu = s.cu ∧
    (bothDirections f s).pli = s.pli ∧ (bothDirections f s).lb = s.lb ∧
    (bothDirections f s).sc = s.sc ∧ (bothDirections f s).op = s.op ∧
    (bothDirections f s).cp = s.cp ∧ (bothDirections f s).freeCount = s.freeCount ∧
    (bothDirections f s).pending = s.pending ∧
    (bothDirections f s).hx.upperSide = s.hx.upperSide ∧
    (bothDirections f s).hx.lowerSide = s.hx.lowerSide ∧
    (bothDirections f s).hx.timer = s.hx.timer := by
  refine ⟨?_, ?_, ?_, ?_, ?_, ?_, ?_, ?_, ?_, ?_, ?_, ?_, ?_, ?_⟩ <;> rfl

@[simp] theorem State.setSide_frame (s : State) (side : Side) (r : Option SideRecord) :
    (s.setSide side r).li = s.li ∧ (s.setSide side r).fs = s.fs ∧ (s.setSide side r).fa = s.fa ∧
    (s.setSide side r).cu = s.cu ∧ (s.setSide side r).pli = s.pli ∧
    (s.setSide side r).lb = s.lb ∧ (s.setSide side r).sc = s.sc ∧ (s.setSide side r).op = s.op ∧
    (s.setSide side r).cp = s.cp ∧ (s.setSide side r).freeCount = s.freeCount ∧
    (s.setSide side r).pending = s.pending ∧ (s.setSide side r).hx.up = s.hx.up ∧
    (s.setSide side r).hx.down = s.hx.down ∧ (s.setSide side r).hx.timer = s.hx.timer := by
  refine ⟨?_, ?_, ?_, ?_, ?_, ?_, ?_, ?_, ?_, ?_, ?_, ?_, ?_, ?_⟩ <;> (unfold State.setSide; (repeat' split) <;> simp)

@[simp] theorem resolveSide_frame (s : State) (side : Side) (ls : List HaloLine) :
    (resolveSide side ls s).li = s.li ∧ (resolveSide side ls s).fs = s.fs ∧
    (resolveSide side ls s).fa = s.fa ∧ (resolveSide side ls s).cu = s.cu ∧
    (resolveSide side ls s).pli = s.pli ∧ (resolveSide side ls s).lb = s.lb ∧
    (resolveSide side ls s).op = s.op ∧ (resolveSide side ls s).cp = s.cp ∧
    (resolveSide side ls s).freeCount = s.freeCount ∧
    (resolveSide side ls s).pending = s.pending ∧ (resolveSide side ls s).hx.up = s.hx.up ∧
    (resolveSide side ls s).hx.down = s.hx.down ∧ (resolveSide side ls s).hx.timer = s.hx.timer ∧
    (resolveSide side ls s).sc.outgoing = s.sc.outgoing ∧
    (resolveSide side ls s).sc.bankA = s.sc.bankA ∧
    (resolveSide side ls s).sc.bankB = s.sc.bankB ∧
    (resolveSide side ls s).sc.staging = s.sc.staging ∧
    (resolveSide side ls s).sc.commit = s.sc.commit := by
  refine ⟨?_, ?_, ?_, ?_, ?_, ?_, ?_, ?_, ?_, ?_, ?_, ?_, ?_, ?_, ?_, ?_, ?_, ?_⟩ <;> simp [resolveSide]

@[simp] theorem expireSide_frame (s : State) (f : FieldNo) (side : Side) :
    (expireSide f s side).li = s.li ∧ (expireSide f s side).fs = s.fs ∧
    (expireSide f s side).fa = s.fa ∧ (expireSide f s side).cu = s.cu ∧
    (expireSide f s side).pli = s.pli ∧ (expireSide f s side).lb = s.lb ∧
    (expireSide f s side).op = s.op ∧ (expireSide f s side).cp = s.cp ∧
    (expireSide f s side).freeCount = s.freeCount ∧ (expireSide f s side).pending = s.pending ∧
    (expireSide f s side).hx.up = s.hx.up ∧ (expireSide f s side).hx.down = s.hx.down ∧
    (expireSide f s side).hx.timer = s.hx.timer ∧
    (expireSide f s side).sc.outgoing = s.sc.outgoing ∧
    (expireSide f s side).sc.bankA = s.sc.bankA ∧ (expireSide f s side).sc.bankB = s.sc.bankB ∧
    (expireSide f s side).sc.staging = s.sc.staging ∧
    (expireSide f s side).sc.commit = s.sc.commit := by
  refine ⟨?_, ?_, ?_, ?_, ?_, ?_, ?_, ?_, ?_, ?_, ?_, ?_, ?_, ?_, ?_, ?_, ?_, ?_⟩ <;> (unfold expireSide; (repeat' split) <;> simp)

@[simp] theorem resetDirection_frame (s : State) (side : Side) :
    (resetDirection s side).li = s.li ∧ (resetDirection s side).fs = s.fs ∧
    (resetDirection s side).fa = s.fa ∧ (resetDirection s side).cu = s.cu ∧
    (resetDirection s side).lb = s.lb ∧ (resetDirection s side).op = s.op ∧
    (resetDirection s side).cp = s.cp ∧ (resetDirection s side).freeCount = s.freeCount ∧
    (resetDirection s side).pending = s.pending ∧
    (resetDirection s side).pli.attached = s.pli.attached ∧
    (resetDirection s side).pli.urgent = s.pli.urgent ∧
    (resetDirection s side).pli.urgentAttempts = s.pli.urgentAttempts ∧
    (resetDirection s side).pli.urgentDiscards = s.pli.urgentDiscards ∧
    (resetDirection s side).pli.idleMonitor = s.pli.idleMonitor ∧
    (resetDirection s side).pli.tx.isSome = s.pli.tx.isSome ∧
    (resetDirection s side).hx.timer = s.hx.timer ∧
    (resetDirection s side).sc.outgoing = s.sc.outgoing ∧
    (resetDirection s side).sc.bankA = s.sc.bankA ∧
    (resetDirection s side).sc.bankB = s.sc.bankB ∧
    (resetDirection s side).sc.staging = s.sc.staging ∧
    (resetDirection s side).sc.commit = s.sc.commit := by
  refine ⟨?_, ?_, ?_, ?_, ?_, ?_, ?_, ?_, ?_, ?_, ?_, ?_, ?_, ?_, ?_, ?_, ?_, ?_, ?_, ?_, ?_⟩ <;> (unfold resetDirection; repeat' (first | rfl | split) <;> simp_all [resetDirection])

@[simp] theorem offerSet_frame (s : State) (side : Side) (set : HaloSet) :
    (offerSet side set s).li = s.li ∧ (offerSet side set s).fs = s.fs ∧
    (offerSet side set s).fa = s.fa ∧ (offerSet side set s).cu = s.cu ∧
    (offerSet side set s).lb = s.lb ∧ (offerSet side set s).sc = s.sc ∧
    (offerSet side set s).op = s.op ∧ (offerSet side set s).cp = s.cp ∧
    (offerSet side set s).freeCount = s.freeCount ∧ (offerSet side set s).pending = s.pending ∧
    (offerSet side set s).pli.attached = s.pli.attached ∧
    (offerSet side set s).pli.urgent = s.pli.urgent ∧
    (offerSet side set s).pli.urgentAttempts = s.pli.urgentAttempts ∧
    (offerSet side set s).pli.urgentDiscards = s.pli.urgentDiscards ∧
    (offerSet side set s).pli.tx = s.pli.tx ∧
    (offerSet side set s).pli.idleMonitor = s.pli.idleMonitor ∧
    (offerSet side set s).pli.tx.isSome = s.pli.tx.isSome ∧
    (offerSet side set s).hx.upperSide = s.hx.upperSide ∧
    (offerSet side set s).hx.lowerSide = s.hx.lowerSide ∧
    (offerSet side set s).hx.timer = s.hx.timer := by
  refine ⟨?_, ?_, ?_, ?_, ?_, ?_, ?_, ?_, ?_, ?_, ?_, ?_, ?_, ?_, ?_, ?_, ?_, ?_, ?_, ?_⟩ <;> (unfold offerSet; repeat' (first | rfl | split) <;> simp_all [offerSet])

@[simp] theorem offerNew_frame (s : State) (side : Side) (set : HaloSet) :
    (offerNew side set s).li = s.li ∧ (offerNew side set s).fs = s.fs ∧
    (offerNew side set s).fa = s.fa ∧ (offerNew side set s).cu = s.cu ∧
    (offerNew side set s).lb = s.lb ∧ (offerNew side set s).sc = s.sc ∧
    (offerNew side set s).op = s.op ∧ (offerNew side set s).cp = s.cp ∧
    (offerNew side set s).freeCount = s.freeCount ∧ (offerNew side set s).pending = s.pending ∧
    (offerNew side set s).pli.attached = s.pli.attached ∧
    (offerNew side set s).pli.urgent = s.pli.urgent ∧
    (offerNew side set s).pli.urgentAttempts = s.pli.urgentAttempts ∧
    (offerNew side set s).pli.urgentDiscards = s.pli.urgentDiscards ∧
    (offerNew side set s).pli.tx = s.pli.tx ∧
    (offerNew side set s).pli.idleMonitor = s.pli.idleMonitor ∧
    (offerNew side set s).pli.tx.isSome = s.pli.tx.isSome ∧
    (offerNew side set s).hx.upperSide = s.hx.upperSide ∧
    (offerNew side set s).hx.lowerSide = s.hx.lowerSide ∧
    (offerNew side set s).hx.timer = s.hx.timer := by
  refine ⟨?_, ?_, ?_, ?_, ?_, ?_, ?_, ?_, ?_, ?_, ?_, ?_, ?_, ?_, ?_, ?_, ?_, ?_, ?_, ?_⟩ <;> simp [offerNew]

@[simp] theorem formSet_frame (s : State) (side : Side) :
    (formSet side s).li = s.li ∧ (formSet side s).fs = s.fs ∧ (formSet side s).fa = s.fa ∧
    (formSet side s).cu = s.cu ∧ (formSet side s).lb = s.lb ∧ (formSet side s).sc = s.sc ∧
    (formSet side s).op = s.op ∧ (formSet side s).cp = s.cp ∧
    (formSet side s).freeCount = s.freeCount ∧ (formSet side s).pending = s.pending ∧
    (formSet side s).pli.attached = s.pli.attached ∧ (formSet side s).pli.urgent = s.pli.urgent ∧
    (formSet side s).pli.urgentAttempts = s.pli.urgentAttempts ∧
    (formSet side s).pli.urgentDiscards = s.pli.urgentDiscards ∧
    (formSet side s).pli.tx = s.pli.tx ∧ (formSet side s).pli.idleMonitor = s.pli.idleMonitor ∧
    (formSet side s).pli.tx.isSome = s.pli.tx.isSome ∧
    (formSet side s).hx.upperSide = s.hx.upperSide ∧
    (formSet side s).hx.lowerSide = s.hx.lowerSide ∧ (formSet side s).hx.timer = s.hx.timer := by
  refine ⟨?_, ?_, ?_, ?_, ?_, ?_, ?_, ?_, ?_, ?_, ?_, ?_, ?_, ?_, ?_, ?_, ?_, ?_, ?_, ?_⟩ <;> (unfold formSet; (repeat' split) <;> simp)

@[simp] theorem offerPending_frame (s : State) (side : Side) :
    (offerPending s side).li = s.li ∧ (offerPending s side).fs = s.fs ∧
    (offerPending s side).fa = s.fa ∧ (offerPending s side).cu = s.cu ∧
    (offerPending s side).lb = s.lb ∧ (offerPending s side).sc = s.sc ∧
    (offerPending s side).op = s.op ∧ (offerPending s side).cp = s.cp ∧
    (offerPending s side).freeCount = s.freeCount ∧ (offerPending s side).pending = s.pending ∧
    (offerPending s side).pli.attached = s.pli.attached ∧
    (offerPending s side).pli.urgent = s.pli.urgent ∧
    (offerPending s side).pli.urgentAttempts = s.pli.urgentAttempts ∧
    (offerPending s side).pli.urgentDiscards = s.pli.urgentDiscards ∧
    (offerPending s side).pli.tx = s.pli.tx ∧
    (offerPending s side).pli.idleMonitor = s.pli.idleMonitor ∧
    (offerPending s side).pli.tx.isSome = s.pli.tx.isSome ∧
    (offerPending s side).hx.upperSide = s.hx.upperSide ∧
    (offerPending s side).hx.lowerSide = s.hx.lowerSide ∧
    (offerPending s side).hx.timer = s.hx.timer := by
  refine ⟨?_, ?_, ?_, ?_, ?_, ?_, ?_, ?_, ?_, ?_, ?_, ?_, ?_, ?_, ?_, ?_, ?_, ?_, ?_, ?_⟩ <;> (unfold offerPending; (repeat' split) <;> simp)

@[simp] theorem ownHaloTaken_frame (s : State) (p : HaloParcel) :
    (ownHaloTaken p s).li = s.li ∧ (ownHaloTaken p s).fs = s.fs ∧ (ownHaloTaken p s).fa = s.fa ∧
    (ownHaloTaken p s).cu = s.cu ∧ (ownHaloTaken p s).pli = s.pli ∧
    (ownHaloTaken p s).lb = s.lb ∧ (ownHaloTaken p s).sc = s.sc ∧ (ownHaloTaken p s).op = s.op ∧
    (ownHaloTaken p s).cp = s.cp ∧ (ownHaloTaken p s).freeCount = s.freeCount ∧
    (ownHaloTaken p s).pending = s.pending ∧ (ownHaloTaken p s).hx.upperSide = s.hx.upperSide ∧
    (ownHaloTaken p s).hx.lowerSide = s.hx.lowerSide ∧
    (ownHaloTaken p s).hx.timer = s.hx.timer := by
  refine ⟨?_, ?_, ?_, ?_, ?_, ?_, ?_, ?_, ?_, ?_, ?_, ?_, ?_, ?_⟩ <;> (unfold ownHaloTaken; (repeat' split) <;> simp)

@[simp] theorem ownHaloLost_frame (s : State) (p : HaloParcel) :
    (ownHaloLost p s).li = s.li ∧ (ownHaloLost p s).fs = s.fs ∧ (ownHaloLost p s).fa = s.fa ∧
    (ownHaloLost p s).cu = s.cu ∧ (ownHaloLost p s).pli = s.pli ∧ (ownHaloLost p s).lb = s.lb ∧
    (ownHaloLost p s).sc = s.sc ∧ (ownHaloLost p s).op = s.op ∧ (ownHaloLost p s).cp = s.cp ∧
    (ownHaloLost p s).freeCount = s.freeCount ∧ (ownHaloLost p s).pending = s.pending ∧
    (ownHaloLost p s).hx.upperSide = s.hx.upperSide ∧
    (ownHaloLost p s).hx.lowerSide = s.hx.lowerSide ∧
    (ownHaloLost p s).hx.timer = s.hx.timer := by
  refine ⟨?_, ?_, ?_, ?_, ?_, ?_, ?_, ?_, ?_, ?_, ?_, ?_, ?_, ?_⟩ <;> (unfold ownHaloLost; (repeat' split) <;> simp)

@[simp] theorem haloOutputNotice_frame (s : State) (k : FieldNo) :
    (haloOutputNotice k s).li = s.li ∧ (haloOutputNotice k s).fs = s.fs ∧
    (haloOutputNotice k s).fa = s.fa ∧ (haloOutputNotice k s).cu = s.cu ∧
    (haloOutputNotice k s).lb = s.lb ∧ (haloOutputNotice k s).sc = s.sc ∧
    (haloOutputNotice k s).op = s.op ∧ (haloOutputNotice k s).cp = s.cp ∧
    (haloOutputNotice k s).freeCount = s.freeCount ∧ (haloOutputNotice k s).pending = s.pending ∧
    (haloOutputNotice k s).pli.attached = s.pli.attached ∧
    (haloOutputNotice k s).pli.urgent = s.pli.urgent ∧
    (haloOutputNotice k s).pli.urgentAttempts = s.pli.urgentAttempts ∧
    (haloOutputNotice k s).pli.urgentDiscards = s.pli.urgentDiscards ∧
    (haloOutputNotice k s).pli.idleMonitor = s.pli.idleMonitor ∧
    (haloOutputNotice k s).pli.tx.isSome = s.pli.tx.isSome ∧
    (haloOutputNotice k s).hx.upperSide = s.hx.upperSide ∧
    (haloOutputNotice k s).hx.lowerSide = s.hx.lowerSide ∧
    (haloOutputNotice k s).hx.timer = s.hx.timer := by
  refine ⟨?_, ?_, ?_, ?_, ?_, ?_, ?_, ?_, ?_, ?_, ?_, ?_, ?_, ?_, ?_, ?_, ?_, ?_, ?_⟩ <;> simp [haloOutputNotice]

@[simp] theorem returnCredit_frame (s : State) (n : Station) (u : Nat) (d : Nat) :
    (returnCredit n u d s).li = s.li ∧ (returnCredit n u d s).fs = s.fs ∧
    (returnCredit n u d s).fa = s.fa ∧ (returnCredit n u d s).cu = s.cu ∧
    (returnCredit n u d s).pli = s.pli ∧ (returnCredit n u d s).lb = s.lb ∧
    (returnCredit n u d s).sc = s.sc ∧ (returnCredit n u d s).op = s.op ∧
    (returnCredit n u d s).cp = s.cp ∧ (returnCredit n u d s).freeCount = s.freeCount ∧
    (returnCredit n u d s).pending = s.pending ∧
    (returnCredit n u d s).hx.upperSide = s.hx.upperSide ∧
    (returnCredit n u d s).hx.lowerSide = s.hx.lowerSide ∧
    (returnCredit n u d s).hx.timer = s.hx.timer := by
  refine ⟨?_, ?_, ?_, ?_, ?_, ?_, ?_, ?_, ?_, ?_, ?_, ?_, ?_, ?_⟩ <;> (unfold returnCredit; (repeat' split) <;> simp)

@[simp] theorem resolveIfFull_frame (s : State) (side : Side) (i : Nat) :
    (resolveIfFull side i s).li = s.li ∧ (resolveIfFull side i s).fs = s.fs ∧
    (resolveIfFull side i s).fa = s.fa ∧ (resolveIfFull side i s).cu = s.cu ∧
    (resolveIfFull side i s).pli = s.pli ∧ (resolveIfFull side i s).lb = s.lb ∧
    (resolveIfFull side i s).op = s.op ∧ (resolveIfFull side i s).cp = s.cp ∧
    (resolveIfFull side i s).freeCount = s.freeCount ∧
    (resolveIfFull side i s).pending = s.pending ∧ (resolveIfFull side i s).hx.up = s.hx.up ∧
    (resolveIfFull side i s).hx.down = s.hx.down ∧
    (resolveIfFull side i s).hx.timer = s.hx.timer ∧
    (resolveIfFull side i s).sc.outgoing = s.sc.outgoing ∧
    (resolveIfFull side i s).sc.bankA = s.sc.bankA ∧
    (resolveIfFull side i s).sc.bankB = s.sc.bankB ∧
    (resolveIfFull side i s).sc.staging = s.sc.staging ∧
    (resolveIfFull side i s).sc.commit = s.sc.commit := by
  refine ⟨?_, ?_, ?_, ?_, ?_, ?_, ?_, ?_, ?_, ?_, ?_, ?_, ?_, ?_, ?_, ?_, ?_, ?_⟩ <;> (unfold resolveIfFull; (repeat' split) <;> simp)

@[simp] theorem placeHalo_frame (s : State) (side : Side) (i : Nat) (p : HaloParcel) :
    (placeHalo side i p s).li = s.li ∧ (placeHalo side i p s).fs = s.fs ∧
    (placeHalo side i p s).fa = s.fa ∧ (placeHalo side i p s).cu = s.cu ∧
    (placeHalo side i p s).pli = s.pli ∧ (placeHalo side i p s).lb = s.lb ∧
    (placeHalo side i p s).op = s.op ∧ (placeHalo side i p s).cp = s.cp ∧
    (placeHalo side i p s).freeCount = s.freeCount ∧ (placeHalo side i p s).pending = s.pending ∧
    (placeHalo side i p s).hx.timer = s.hx.timer ∧
    (placeHalo side i p s).sc.outgoing = s.sc.outgoing ∧
    (placeHalo side i p s).sc.bankA = s.sc.bankA ∧ (placeHalo side i p s).sc.bankB = s.sc.bankB ∧
    (placeHalo side i p s).sc.staging = s.sc.staging ∧
    (placeHalo side i p s).sc.commit = s.sc.commit := by
  refine ⟨?_, ?_, ?_, ?_, ?_, ?_, ?_, ?_, ?_, ?_, ?_, ?_, ?_, ?_, ?_, ?_⟩ <;> simp [placeHalo]

@[simp] theorem receiveHalo_frame (s : State) (n : Station) (p : HaloParcel) :
    (receiveHalo n p s).li = s.li ∧ (receiveHalo n p s).fs = s.fs ∧
    (receiveHalo n p s).fa = s.fa ∧ (receiveHalo n p s).cu = s.cu ∧
    (receiveHalo n p s).pli = s.pli ∧ (receiveHalo n p s).lb = s.lb ∧
    (receiveHalo n p s).op = s.op ∧ (receiveHalo n p s).cp = s.cp ∧
    (receiveHalo n p s).freeCount = s.freeCount ∧ (receiveHalo n p s).pending = s.pending ∧
    (receiveHalo n p s).hx.timer = s.hx.timer ∧ (receiveHalo n p s).sc.outgoing = s.sc.outgoing ∧
    (receiveHalo n p s).sc.bankA = s.sc.bankA ∧ (receiveHalo n p s).sc.bankB = s.sc.bankB ∧
    (receiveHalo n p s).sc.staging = s.sc.staging ∧
    (receiveHalo n p s).sc.commit = s.sc.commit := by
  refine ⟨?_, ?_, ?_, ?_, ?_, ?_, ?_, ?_, ?_, ?_, ?_, ?_, ?_, ?_, ?_, ?_⟩ <;> (unfold receiveHalo; (repeat' split) <;> simp)

@[simp] theorem startHalo_frame (s : State) (f : FieldNo) (a : Bool) :
    (startHalo f a s).li = s.li ∧ (startHalo f a s).fs = s.fs ∧ (startHalo f a s).fa = s.fa ∧
    (startHalo f a s).cu = s.cu ∧ (startHalo f a s).pli = s.pli ∧ (startHalo f a s).lb = s.lb ∧
    (startHalo f a s).sc = s.sc ∧ (startHalo f a s).op = s.op ∧ (startHalo f a s).cp = s.cp ∧
    (startHalo f a s).freeCount = s.freeCount ∧ (startHalo f a s).pending = s.pending := by
  refine ⟨?_, ?_, ?_, ?_, ?_, ?_, ?_, ?_, ?_, ?_, ?_⟩ <;> rfl

@[simp] theorem endHalo_frame (s : State) :
    (endHalo s).li = s.li ∧ (endHalo s).fs = s.fs ∧ (endHalo s).fa = s.fa ∧
    (endHalo s).cu = s.cu ∧ (endHalo s).pli = s.pli ∧ (endHalo s).lb = s.lb ∧
    (endHalo s).sc = s.sc ∧ (endHalo s).op = s.op ∧ (endHalo s).cp = s.cp ∧
    (endHalo s).freeCount = s.freeCount ∧ (endHalo s).pending = s.pending := by
  refine ⟨?_, ?_, ?_, ?_, ?_, ?_, ?_, ?_, ?_, ?_, ?_⟩ <;> rfl

@[simp] theorem grantBuffer_frame (s : State) (n : FieldNo) :
    (grantBuffer n s).li = s.li ∧ (grantBuffer n s).fs = s.fs ∧ (grantBuffer n s).fa = s.fa ∧
    (grantBuffer n s).cu = s.cu ∧ (grantBuffer n s).pli = s.pli ∧ (grantBuffer n s).lb = s.lb ∧
    (grantBuffer n s).hx = s.hx ∧ (grantBuffer n s).sc = s.sc ∧ (grantBuffer n s).cp = s.cp ∧
    (grantBuffer n s).freeCount = s.freeCount ∧ (grantBuffer n s).pending = s.pending ∧
    (grantBuffer n s).op.emission = s.op.emission ∧
    (grantBuffer n s).op.lastAnswer = s.op.lastAnswer ∧
    (grantBuffer n s).op.lastAsked = s.op.lastAsked ∧
    (grantBuffer n s).op.lastRow = s.op.lastRow := by
  refine ⟨?_, ?_, ?_, ?_, ?_, ?_, ?_, ?_, ?_, ?_, ?_, ?_, ?_, ?_, ?_⟩ <;> (unfold grantBuffer; (repeat' split) <;> simp)

@[simp] theorem bothBuffers_frame (s : State) (f : Option Held → Option Held) :
    (bothBuffers f s).li = s.li ∧ (bothBuffers f s).fs = s.fs ∧ (bothBuffers f s).fa = s.fa ∧
    (bothBuffers f s).cu = s.cu ∧ (bothBuffers f s).pli = s.pli ∧ (bothBuffers f s).lb = s.lb ∧
    (bothBuffers f s).hx = s.hx ∧ (bothBuffers f s).sc = s.sc ∧ (bothBuffers f s).cp = s.cp ∧
    (bothBuffers f s).freeCount = s.freeCount ∧ (bothBuffers f s).pending = s.pending ∧
    (bothBuffers f s).op.emission = s.op.emission ∧
    (bothBuffers f s).op.lastAnswer = s.op.lastAnswer ∧
    (bothBuffers f s).op.lastAsked = s.op.lastAsked ∧
    (bothBuffers f s).op.lastRow = s.op.lastRow := by
  refine ⟨?_, ?_, ?_, ?_, ?_, ?_, ?_, ?_, ?_, ?_, ?_, ?_, ?_, ?_, ?_⟩ <;> rfl

@[simp] theorem storeRow_frame (s : State) (n : FieldNo) (r : StoredRow) :
    (storeRow n r s).li = s.li ∧ (storeRow n r s).fs = s.fs ∧ (storeRow n r s).fa = s.fa ∧
    (storeRow n r s).cu = s.cu ∧ (storeRow n r s).pli = s.pli ∧ (storeRow n r s).lb = s.lb ∧
    (storeRow n r s).hx = s.hx ∧ (storeRow n r s).sc = s.sc ∧ (storeRow n r s).cp = s.cp ∧
    (storeRow n r s).freeCount = s.freeCount ∧ (storeRow n r s).pending = s.pending ∧
    (storeRow n r s).op.emission = s.op.emission ∧
    (storeRow n r s).op.lastAnswer = s.op.lastAnswer ∧
    (storeRow n r s).op.lastAsked = s.op.lastAsked ∧
    (storeRow n r s).op.lastRow = s.op.lastRow := by
  refine ⟨?_, ?_, ?_, ?_, ?_, ?_, ?_, ?_, ?_, ?_, ?_, ?_, ?_, ?_, ?_⟩ <;> rfl

@[simp] theorem completeBuffer_frame (s : State) (n : FieldNo) :
    (completeBuffer n s).li = s.li ∧ (completeBuffer n s).fs = s.fs ∧
    (completeBuffer n s).fa = s.fa ∧ (completeBuffer n s).cu = s.cu ∧
    (completeBuffer n s).pli = s.pli ∧ (completeBuffer n s).lb = s.lb ∧
    (completeBuffer n s).hx = s.hx ∧ (completeBuffer n s).sc = s.sc ∧
    (completeBuffer n s).cp = s.cp ∧ (completeBuffer n s).freeCount = s.freeCount ∧
    (completeBuffer n s).pending = s.pending ∧ (completeBuffer n s).op.emission = s.op.emission ∧
    (completeBuffer n s).op.lastAnswer = s.op.lastAnswer ∧
    (completeBuffer n s).op.lastAsked = s.op.lastAsked ∧
    (completeBuffer n s).op.lastRow = s.op.lastRow := by
  refine ⟨?_, ?_, ?_, ?_, ?_, ?_, ?_, ?_, ?_, ?_, ?_, ?_, ?_, ?_, ?_⟩ <;> rfl

@[simp] theorem freeBuilding_frame (s : State) (n : FieldNo) :
    (freeBuilding n s).li = s.li ∧ (freeBuilding n s).fs = s.fs ∧ (freeBuilding n s).fa = s.fa ∧
    (freeBuilding n s).cu = s.cu ∧ (freeBuilding n s).pli = s.pli ∧
    (freeBuilding n s).lb = s.lb ∧ (freeBuilding n s).hx = s.hx ∧ (freeBuilding n s).sc = s.sc ∧
    (freeBuilding n s).cp = s.cp ∧ (freeBuilding n s).freeCount = s.freeCount ∧
    (freeBuilding n s).pending = s.pending ∧ (freeBuilding n s).op.emission = s.op.emission ∧
    (freeBuilding n s).op.lastAnswer = s.op.lastAnswer ∧
    (freeBuilding n s).op.lastAsked = s.op.lastAsked ∧
    (freeBuilding n s).op.lastRow = s.op.lastRow := by
  refine ⟨?_, ?_, ?_, ?_, ?_, ?_, ?_, ?_, ?_, ?_, ?_, ?_, ?_, ?_, ?_⟩ <;> rfl

@[simp] theorem emitRow_frame (s : State) :
    (emitRow s).li = s.li ∧ (emitRow s).fs = s.fs ∧ (emitRow s).fa = s.fa ∧
    (emitRow s).cu = s.cu ∧ (emitRow s).pli = s.pli ∧ (emitRow s).lb = s.lb ∧
    (emitRow s).hx = s.hx ∧ (emitRow s).sc = s.sc ∧ (emitRow s).cp = s.cp ∧
    (emitRow s).freeCount = s.freeCount ∧ (emitRow s).pending = s.pending ∧
    (emitRow s).op.fb0 = s.op.fb0 ∧ (emitRow s).op.fb1 = s.op.fb1 ∧
    (emitRow s).op.lastAnswer = s.op.lastAnswer ∧ (emitRow s).op.lastAsked = s.op.lastAsked := by
  refine ⟨?_, ?_, ?_, ?_, ?_, ?_, ?_, ?_, ?_, ?_, ?_, ?_, ?_, ?_, ?_⟩ <;> (unfold emitRow; (repeat' split) <;> simp)

@[simp] theorem overtakenNotice_frame (s : State) (n : FieldNo) :
    (overtakenNotice n s).li = s.li ∧ (overtakenNotice n s).fs = s.fs ∧
    (overtakenNotice n s).fa = s.fa ∧ (overtakenNotice n s).cu = s.cu ∧
    (overtakenNotice n s).pli = s.pli ∧ (overtakenNotice n s).hx = s.hx ∧
    (overtakenNotice n s).sc = s.sc ∧ (overtakenNotice n s).op = s.op ∧
    (overtakenNotice n s).cp = s.cp ∧ (overtakenNotice n s).freeCount = s.freeCount ∧
    (overtakenNotice n s).pending = s.pending ∧ (overtakenNotice n s).lb.build = s.lb.build ∧
    (overtakenNotice n s).lb.decisions = s.lb.decisions ∧
    (overtakenNotice n s).lb.newestBegun = s.lb.newestBegun ∧
    (overtakenNotice n s).lb.lastEnded = s.lb.lastEnded ∧
    (overtakenNotice n s).lb.lastBegun = s.lb.lastBegun ∧
    (overtakenNotice n s).lb.lastRequested = s.lb.lastRequested := by
  refine ⟨?_, ?_, ?_, ?_, ?_, ?_, ?_, ?_, ?_, ?_, ?_, ?_, ?_, ?_, ?_, ?_, ?_⟩ <;> rfl

@[simp] theorem selfOvertaken_frame (s : State) (g : FieldNo) :
    (selfOvertaken g s).li = s.li ∧ (selfOvertaken g s).fs = s.fs ∧
    (selfOvertaken g s).fa = s.fa ∧ (selfOvertaken g s).cu = s.cu ∧
    (selfOvertaken g s).pli = s.pli ∧ (selfOvertaken g s).hx = s.hx ∧
    (selfOvertaken g s).sc = s.sc ∧ (selfOvertaken g s).op = s.op ∧
    (selfOvertaken g s).cp = s.cp ∧ (selfOvertaken g s).freeCount = s.freeCount ∧
    (selfOvertaken g s).pending = s.pending ∧ (selfOvertaken g s).lb.build = s.lb.build ∧
    (selfOvertaken g s).lb.decisions = s.lb.decisions ∧
    (selfOvertaken g s).lb.newestBegun = s.lb.newestBegun ∧
    (selfOvertaken g s).lb.lastEnded = s.lb.lastEnded ∧
    (selfOvertaken g s).lb.lastBegun = s.lb.lastBegun ∧
    (selfOvertaken g s).lb.lastRequested = s.lb.lastRequested := by
  refine ⟨?_, ?_, ?_, ?_, ?_, ?_, ?_, ?_, ?_, ?_, ?_, ?_, ?_, ?_, ?_, ?_, ?_⟩ <;> (unfold selfOvertaken; (repeat' split) <;> simp)

@[simp] theorem builderBegin_frame (s : State) (g : FieldNo) :
    (builderBegin g s).li = s.li ∧ (builderBegin g s).fs = s.fs ∧ (builderBegin g s).fa = s.fa ∧
    (builderBegin g s).cu = s.cu ∧ (builderBegin g s).pli = s.pli ∧
    (builderBegin g s).hx = s.hx ∧ (builderBegin g s).sc = s.sc ∧ (builderBegin g s).op = s.op ∧
    (builderBegin g s).cp = s.cp ∧ (builderBegin g s).freeCount = s.freeCount ∧
    (builderBegin g s).pending = s.pending ∧ (builderBegin g s).lb.build = s.lb.build ∧
    (builderBegin g s).lb.decisions = s.lb.decisions ∧
    (builderBegin g s).lb.lastEnded = s.lb.lastEnded ∧
    (builderBegin g s).lb.lastBegun = s.lb.lastBegun ∧
    (builderBegin g s).lb.lastRequested = s.lb.lastRequested := by
  refine ⟨?_, ?_, ?_, ?_, ?_, ?_, ?_, ?_, ?_, ?_, ?_, ?_, ?_, ?_, ?_, ?_⟩ <;> (unfold builderBegin; (repeat' split) <;> simp)

@[simp] theorem builderEnd_frame (s : State) (f : FieldNo) (slot : Option Nat) :
    (builderEnd f slot s).li = s.li ∧ (builderEnd f slot s).fs = s.fs ∧ (builderEnd f slot s).fa = s.fa ∧
    (builderEnd f slot s).cu = s.cu ∧ (builderEnd f slot s).pli = s.pli ∧ (builderEnd f slot s).hx = s.hx ∧
    (builderEnd f slot s).sc = s.sc ∧ (builderEnd f slot s).op = s.op ∧ (builderEnd f slot s).cp = s.cp ∧
    (builderEnd f slot s).freeCount = s.freeCount ∧ (builderEnd f slot s).pending = s.pending ∧
    (builderEnd f slot s).lb.build = s.lb.build ∧ (builderEnd f slot s).lb.decisions = s.lb.decisions ∧
    (builderEnd f slot s).lb.newestBegun = s.lb.newestBegun ∧
    (builderEnd f slot s).lb.lastBegun = s.lb.lastBegun ∧
    (builderEnd f slot s).lb.lastRequested = s.lb.lastRequested := by
  refine ⟨?_, ?_, ?_, ?_, ?_, ?_, ?_, ?_, ?_, ?_, ?_, ?_, ?_, ?_, ?_, ?_⟩ <;> (unfold builderEnd; (repeat' split) <;> simp)

@[simp] theorem placeDecision_frame (s : State) (d : DecisionRecord) :
    (placeDecision d s).li = s.li ∧ (placeDecision d s).fs = s.fs ∧
    (placeDecision d s).fa = s.fa ∧ (placeDecision d s).cu = s.cu ∧
    (placeDecision d s).pli = s.pli ∧ (placeDecision d s).hx = s.hx ∧
    (placeDecision d s).sc = s.sc ∧ (placeDecision d s).op = s.op ∧
    (placeDecision d s).cp = s.cp ∧ (placeDecision d s).freeCount = s.freeCount ∧
    (placeDecision d s).pending = s.pending ∧ (placeDecision d s).lb.build = s.lb.build ∧
    (placeDecision d s).lb.frames = s.lb.frames ∧
    (placeDecision d s).lb.newestBegun = s.lb.newestBegun ∧
    (placeDecision d s).lb.lastEnded = s.lb.lastEnded ∧
    (placeDecision d s).lb.lastBegun = s.lb.lastBegun ∧
    (placeDecision d s).lb.lastRequested = s.lb.lastRequested := by
  refine ⟨?_, ?_, ?_, ?_, ?_, ?_, ?_, ?_, ?_, ?_, ?_, ?_, ?_, ?_, ?_, ?_, ?_⟩ <;> (unfold placeDecision; (repeat' split) <;> simp)

@[simp] theorem builderOutputNotice_frame (s : State) (k : FieldNo) :
    (builderOutputNotice k s).li = s.li ∧ (builderOutputNotice k s).fs = s.fs ∧
    (builderOutputNotice k s).fa = s.fa ∧ (builderOutputNotice k s).cu = s.cu ∧
    (builderOutputNotice k s).pli = s.pli ∧ (builderOutputNotice k s).hx = s.hx ∧
    (builderOutputNotice k s).sc = s.sc ∧ (builderOutputNotice k s).op = s.op ∧
    (builderOutputNotice k s).cp = s.cp ∧ (builderOutputNotice k s).freeCount = s.freeCount ∧
    (builderOutputNotice k s).pending = s.pending ∧
    (builderOutputNotice k s).lb.build = s.lb.build ∧
    (builderOutputNotice k s).lb.newestBegun = s.lb.newestBegun ∧
    (builderOutputNotice k s).lb.lastEnded = s.lb.lastEnded ∧
    (builderOutputNotice k s).lb.lastBegun = s.lb.lastBegun := by
  refine ⟨?_, ?_, ?_, ?_, ?_, ?_, ?_, ?_, ?_, ?_, ?_, ?_, ?_, ?_, ?_⟩ <;> rfl

@[simp] theorem countUnagreed_frame (s : State) :
    (countUnagreed s).li = s.li ∧ (countUnagreed s).fs = s.fs ∧ (countUnagreed s).fa = s.fa ∧
    (countUnagreed s).cu = s.cu ∧ (countUnagreed s).pli = s.pli ∧ (countUnagreed s).lb = s.lb ∧
    (countUnagreed s).hx = s.hx ∧ (countUnagreed s).sc = s.sc ∧ (countUnagreed s).op = s.op ∧
    (countUnagreed s).freeCount = s.freeCount ∧ (countUnagreed s).pending = s.pending ∧
    (countUnagreed s).cp.config = s.cp.config ∧ (countUnagreed s).cp.lock = s.cp.lock ∧
    (countUnagreed s).cp.digest = s.cp.digest ∧ (countUnagreed s).cp.station = s.cp.station ∧
    (countUnagreed s).cp.ownership = s.cp.ownership ∧ (countUnagreed s).cp.result = s.cp.result ∧
    (countUnagreed s).cp.dataOut = s.cp.dataOut ∧ (countUnagreed s).cp.enables = s.cp.enables ∧
    (countUnagreed s).cp.resetHeld = s.cp.resetHeld := by
  refine ⟨?_, ?_, ?_, ?_, ?_, ?_, ?_, ?_, ?_, ?_, ?_, ?_, ?_, ?_, ?_, ?_, ?_, ?_, ?_, ?_⟩ <;> rfl

@[simp] theorem startBuild_frame (s : State) (n : FieldNo) (a : Bool) (rest : List FrameEntry) :
    (startBuild n a rest s).li = s.li ∧ (startBuild n a rest s).fa = s.fa ∧
    (startBuild n a rest s).cu = s.cu ∧ (startBuild n a rest s).pli = s.pli ∧
    (startBuild n a rest s).freeCount = s.freeCount ∧
    (startBuild n a rest s).pending = s.pending ∧
    (startBuild n a rest s).lb.newestBegun = s.lb.newestBegun ∧
    (startBuild n a rest s).lb.lastEnded = s.lb.lastEnded ∧
    (startBuild n a rest s).lb.lastRequested = s.lb.lastRequested ∧
    (startBuild n a rest s).sc.bankA = s.sc.bankA ∧
    (startBuild n a rest s).sc.bankB = s.sc.bankB ∧
    (startBuild n a rest s).sc.staging = s.sc.staging ∧
    (startBuild n a rest s).sc.commit = s.sc.commit ∧
    (startBuild n a rest s).op.emission = s.op.emission ∧
    (startBuild n a rest s).op.lastAnswer = s.op.lastAnswer ∧
    (startBuild n a rest s).op.lastAsked = s.op.lastAsked ∧
    (startBuild n a rest s).op.lastRow = s.op.lastRow ∧
    (startBuild n a rest s).cp.config = s.cp.config ∧
    (startBuild n a rest s).cp.lock = s.cp.lock ∧
    (startBuild n a rest s).cp.digest = s.cp.digest ∧
    (startBuild n a rest s).cp.station = s.cp.station ∧
    (startBuild n a rest s).cp.ownership = s.cp.ownership ∧
    (startBuild n a rest s).cp.result = s.cp.result ∧
    (startBuild n a rest s).cp.dataOut = s.cp.dataOut ∧
    (startBuild n a rest s).cp.enables = s.cp.enables ∧
    (startBuild n a rest s).cp.resetHeld = s.cp.resetHeld := by
  refine ⟨?_, ?_, ?_, ?_, ?_, ?_, ?_, ?_, ?_, ?_, ?_, ?_, ?_, ?_, ?_, ?_, ?_, ?_, ?_, ?_, ?_, ?_, ?_, ?_, ?_, ?_⟩ <;> (unfold startBuild; repeat' (first | rfl | split) <;> simp_all [startBuild])

@[simp] theorem putLine_frame (s : State) (y : Nat) (l : CoreLine) :
    (putLine y l s).li = s.li ∧ (putLine y l s).fs = s.fs ∧ (putLine y l s).fa = s.fa ∧
    (putLine y l s).cu = s.cu ∧ (putLine y l s).pli = s.pli ∧ (putLine y l s).hx = s.hx ∧
    (putLine y l s).sc = s.sc ∧ (putLine y l s).op = s.op ∧ (putLine y l s).cp = s.cp ∧
    (putLine y l s).freeCount = s.freeCount ∧ (putLine y l s).pending = s.pending ∧
    (putLine y l s).lb.build = s.lb.build ∧ (putLine y l s).lb.frames = s.lb.frames ∧
    (putLine y l s).lb.decisions = s.lb.decisions ∧
    (putLine y l s).lb.newestBegun = s.lb.newestBegun ∧
    (putLine y l s).lb.lastEnded = s.lb.lastEnded ∧
    (putLine y l s).lb.lastBegun = s.lb.lastBegun ∧
    (putLine y l s).lb.lastRequested = s.lb.lastRequested := by
  refine ⟨?_, ?_, ?_, ?_, ?_, ?_, ?_, ?_, ?_, ?_, ?_, ?_, ?_, ?_, ?_, ?_, ?_, ?_⟩ <;> rfl

@[simp] theorem countLine_frame (s : State) :
    (countLine s).li = s.li ∧ (countLine s).fs = s.fs ∧ (countLine s).fa = s.fa ∧
    (countLine s).cu = s.cu ∧ (countLine s).pli = s.pli ∧ (countLine s).hx = s.hx ∧
    (countLine s).sc = s.sc ∧ (countLine s).op = s.op ∧ (countLine s).cp = s.cp ∧
    (countLine s).freeCount = s.freeCount ∧ (countLine s).pending = s.pending ∧
    (countLine s).lb.frames = s.lb.frames ∧ (countLine s).lb.decisions = s.lb.decisions ∧
    (countLine s).lb.newestBegun = s.lb.newestBegun ∧
    (countLine s).lb.lastEnded = s.lb.lastEnded ∧ (countLine s).lb.lastBegun = s.lb.lastBegun ∧
    (countLine s).lb.lastRequested = s.lb.lastRequested := by
  refine ⟨?_, ?_, ?_, ?_, ?_, ?_, ?_, ?_, ?_, ?_, ?_, ?_, ?_, ?_, ?_, ?_, ?_⟩ <;> rfl

end Sys2Proof.Machine
end

