-- ==== Sys2Proof/Laws/FramesTwo.lean ====
section
/-! SUPPORT. What each shared operation leaves unchanged, 
one lemma per operation, part 2 of 3: the halo, the line and the membership. -/

set_option linter.unusedSimpArgs false

namespace Sys2Proof.Machine

@[simp] theorem followScaler_frame (s : State) :
    (followScaler s).li = s.li ∧ (followScaler s).fs = s.fs ∧ (followScaler s).fa = s.fa ∧
    (followScaler s).cu = s.cu ∧ (followScaler s).pli = s.pli ∧ (followScaler s).hx = s.hx ∧
    (followScaler s).sc = s.sc ∧ (followScaler s).op = s.op ∧ (followScaler s).cp = s.cp ∧
    (followScaler s).freeCount = s.freeCount ∧ (followScaler s).pending = s.pending ∧
    (followScaler s).lb.frames = s.lb.frames ∧ (followScaler s).lb.decisions = s.lb.decisions ∧
    (followScaler s).lb.newestBegun = s.lb.newestBegun ∧
    (followScaler s).lb.lastEnded = s.lb.lastEnded ∧
    (followScaler s).lb.lastBegun = s.lb.lastBegun ∧
    (followScaler s).lb.lastRequested = s.lb.lastRequested := by
  refine ⟨?_, ?_, ?_, ?_, ?_, ?_, ?_, ?_, ?_, ?_, ?_, ?_, ?_, ?_, ?_, ?_, ?_⟩ <;> (unfold followScaler; (repeat' split) <;> simp)

@[simp] theorem handToScaler_frame (s : State) :
    (handToScaler s).li = s.li ∧ (handToScaler s).fs = s.fs ∧ (handToScaler s).fa = s.fa ∧
    (handToScaler s).cu = s.cu ∧ (handToScaler s).pli = s.pli ∧ (handToScaler s).hx = s.hx ∧
    (handToScaler s).op = s.op ∧ (handToScaler s).cp = s.cp ∧
    (handToScaler s).freeCount = s.freeCount ∧ (handToScaler s).pending = s.pending ∧
    (handToScaler s).lb.frames = s.lb.frames ∧ (handToScaler s).lb.decisions = s.lb.decisions ∧
    (handToScaler s).lb.newestBegun = s.lb.newestBegun ∧
    (handToScaler s).lb.lastEnded = s.lb.lastEnded ∧
    (handToScaler s).lb.lastBegun = s.lb.lastBegun ∧
    (handToScaler s).lb.lastRequested = s.lb.lastRequested ∧
    (handToScaler s).sc.outgoing = s.sc.outgoing ∧ (handToScaler s).sc.bankA = s.sc.bankA ∧
    (handToScaler s).sc.bankB = s.sc.bankB ∧ (handToScaler s).sc.staging = s.sc.staging ∧
    (handToScaler s).sc.commit = s.sc.commit := by
  refine ⟨?_, ?_, ?_, ?_, ?_, ?_, ?_, ?_, ?_, ?_, ?_, ?_, ?_, ?_, ?_, ?_, ?_, ?_, ?_, ?_, ?_⟩ <;> (unfold handToScaler; (repeat' split) <;> simp)

@[simp] theorem releaseBuild_frame (s : State) :
    (releaseBuild s).li = s.li ∧ (releaseBuild s).fa = s.fa ∧ (releaseBuild s).cu = s.cu ∧
    (releaseBuild s).pli = s.pli ∧ (releaseBuild s).hx = s.hx ∧ (releaseBuild s).sc = s.sc ∧
    (releaseBuild s).op = s.op ∧ (releaseBuild s).cp = s.cp ∧
    (releaseBuild s).freeCount = s.freeCount ∧ (releaseBuild s).pending = s.pending ∧
    (releaseBuild s).lb.frames = s.lb.frames ∧ (releaseBuild s).lb.decisions = s.lb.decisions ∧
    (releaseBuild s).lb.newestBegun = s.lb.newestBegun ∧
    (releaseBuild s).lb.lastEnded = s.lb.lastEnded ∧
    (releaseBuild s).lb.lastBegun = s.lb.lastBegun ∧
    (releaseBuild s).lb.lastRequested = s.lb.lastRequested := by
  refine ⟨?_, ?_, ?_, ?_, ?_, ?_, ?_, ?_, ?_, ?_, ?_, ?_, ?_, ?_, ?_, ?_⟩ <;> rfl

@[simp] theorem dropScaling_frame (s : State) :
    (dropScaling s).li = s.li ∧ (dropScaling s).fs = s.fs ∧ (dropScaling s).fa = s.fa ∧
    (dropScaling s).cu = s.cu ∧ (dropScaling s).pli = s.pli ∧ (dropScaling s).lb = s.lb ∧
    (dropScaling s).hx = s.hx ∧ (dropScaling s).op = s.op ∧ (dropScaling s).cp = s.cp ∧
    (dropScaling s).freeCount = s.freeCount ∧ (dropScaling s).pending = s.pending ∧
    (dropScaling s).sc.outgoing = s.sc.outgoing ∧ (dropScaling s).sc.bankA = s.sc.bankA ∧
    (dropScaling s).sc.bankB = s.sc.bankB ∧ (dropScaling s).sc.staging = s.sc.staging ∧
    (dropScaling s).sc.commit = s.sc.commit := by
  refine ⟨?_, ?_, ?_, ?_, ?_, ?_, ?_, ?_, ?_, ?_, ?_, ?_, ?_, ?_, ?_, ?_⟩ <;> rfl

@[simp] theorem finishBuild_frame (s : State) (n : FieldNo) :
    (finishBuild n s).li = s.li ∧ (finishBuild n s).fa = s.fa ∧ (finishBuild n s).cu = s.cu ∧
    (finishBuild n s).pli = s.pli ∧ (finishBuild n s).cp = s.cp ∧
    (finishBuild n s).freeCount = s.freeCount ∧ (finishBuild n s).pending = s.pending ∧
    (finishBuild n s).lb.frames = s.lb.frames ∧ (finishBuild n s).lb.decisions = s.lb.decisions ∧
    (finishBuild n s).lb.newestBegun = s.lb.newestBegun ∧
    (finishBuild n s).lb.lastEnded = s.lb.lastEnded ∧
    (finishBuild n s).lb.lastBegun = s.lb.lastBegun ∧
    (finishBuild n s).lb.lastRequested = s.lb.lastRequested ∧
    (finishBuild n s).sc.outgoing = s.sc.outgoing ∧ (finishBuild n s).sc.bankA = s.sc.bankA ∧
    (finishBuild n s).sc.bankB = s.sc.bankB ∧ (finishBuild n s).sc.staging = s.sc.staging ∧
    (finishBuild n s).sc.commit = s.sc.commit ∧ (finishBuild n s).op.emission = s.op.emission ∧
    (finishBuild n s).op.lastAnswer = s.op.lastAnswer ∧
    (finishBuild n s).op.lastAsked = s.op.lastAsked ∧
    (finishBuild n s).op.lastRow = s.op.lastRow := by
  refine ⟨?_, ?_, ?_, ?_, ?_, ?_, ?_, ?_, ?_, ?_, ?_, ?_, ?_, ?_, ?_, ?_, ?_, ?_, ?_, ?_, ?_, ?_⟩ <;> rfl

@[simp] theorem abandonBuild_frame (s : State) (n : FieldNo) :
    (abandonBuild n s).li = s.li ∧ (abandonBuild n s).fa = s.fa ∧ (abandonBuild n s).cu = s.cu ∧
    (abandonBuild n s).pli = s.pli ∧ (abandonBuild n s).cp = s.cp ∧
    (abandonBuild n s).freeCount = s.freeCount ∧ (abandonBuild n s).pending = s.pending ∧
    (abandonBuild n s).lb.frames = s.lb.frames ∧
    (abandonBuild n s).lb.decisions = s.lb.decisions ∧
    (abandonBuild n s).lb.newestBegun = s.lb.newestBegun ∧
    (abandonBuild n s).lb.lastEnded = s.lb.lastEnded ∧
    (abandonBuild n s).lb.lastBegun = s.lb.lastBegun ∧
    (abandonBuild n s).lb.lastRequested = s.lb.lastRequested ∧
    (abandonBuild n s).sc.outgoing = s.sc.outgoing ∧ (abandonBuild n s).sc.bankA = s.sc.bankA ∧
    (abandonBuild n s).sc.bankB = s.sc.bankB ∧ (abandonBuild n s).sc.staging = s.sc.staging ∧
    (abandonBuild n s).sc.commit = s.sc.commit ∧ (abandonBuild n s).op.emission = s.op.emission ∧
    (abandonBuild n s).op.lastAnswer = s.op.lastAnswer ∧
    (abandonBuild n s).op.lastAsked = s.op.lastAsked ∧
    (abandonBuild n s).op.lastRow = s.op.lastRow := by
  refine ⟨?_, ?_, ?_, ?_, ?_, ?_, ?_, ?_, ?_, ?_, ?_, ?_, ?_, ?_, ?_, ?_, ?_, ?_, ?_, ?_, ?_, ?_⟩ <;> rfl

@[simp] theorem stopBuilder_frame (s : State) :
    (stopBuilder s).li = s.li ∧ (stopBuilder s).fa = s.fa ∧ (stopBuilder s).cu = s.cu ∧
    (stopBuilder s).pli = s.pli ∧ (stopBuilder s).cp = s.cp ∧
    (stopBuilder s).freeCount = s.freeCount ∧ (stopBuilder s).pending = s.pending ∧
    (stopBuilder s).lb.newestBegun = s.lb.newestBegun ∧
    (stopBuilder s).lb.lastEnded = s.lb.lastEnded ∧
    (stopBuilder s).lb.lastBegun = s.lb.lastBegun ∧
    (stopBuilder s).lb.lastRequested = s.lb.lastRequested ∧
    (stopBuilder s).sc.outgoing = s.sc.outgoing ∧ (stopBuilder s).sc.bankA = s.sc.bankA ∧
    (stopBuilder s).sc.bankB = s.sc.bankB ∧ (stopBuilder s).sc.staging = s.sc.staging ∧
    (stopBuilder s).sc.commit = s.sc.commit ∧ (stopBuilder s).op.emission = s.op.emission ∧
    (stopBuilder s).op.lastAnswer = s.op.lastAnswer ∧
    (stopBuilder s).op.lastAsked = s.op.lastAsked ∧
    (stopBuilder s).op.lastRow = s.op.lastRow := by
  refine ⟨?_, ?_, ?_, ?_, ?_, ?_, ?_, ?_, ?_, ?_, ?_, ?_, ?_, ?_, ?_, ?_, ?_, ?_, ?_, ?_⟩ <;> (unfold stopBuilder; (repeat' split) <;> simp)

@[simp] theorem countClamped_frame (s : State) (r : StoredRow) :
    (countClamped r s).li = s.li ∧ (countClamped r s).fs = s.fs ∧ (countClamped r s).fa = s.fa ∧
    (countClamped r s).cu = s.cu ∧ (countClamped r s).pli = s.pli ∧
    (countClamped r s).lb = s.lb ∧ (countClamped r s).hx = s.hx ∧ (countClamped r s).sc = s.sc ∧
    (countClamped r s).op = s.op ∧ (countClamped r s).freeCount = s.freeCount ∧
    (countClamped r s).pending = s.pending ∧ (countClamped r s).cp.config = s.cp.config ∧
    (countClamped r s).cp.lock = s.cp.lock ∧ (countClamped r s).cp.digest = s.cp.digest ∧
    (countClamped r s).cp.station = s.cp.station ∧
    (countClamped r s).cp.ownership = s.cp.ownership ∧
    (countClamped r s).cp.result = s.cp.result ∧ (countClamped r s).cp.dataOut = s.cp.dataOut ∧
    (countClamped r s).cp.enables = s.cp.enables ∧
    (countClamped r s).cp.resetHeld = s.cp.resetHeld := by
  refine ⟨?_, ?_, ?_, ?_, ?_, ?_, ?_, ?_, ?_, ?_, ?_, ?_, ?_, ?_, ?_, ?_, ?_, ?_, ?_, ?_⟩ <;> (unfold countClamped; (repeat' split) <;> simp)

@[simp] theorem countLate_frame (s : State) :
    (countLate s).li = s.li ∧ (countLate s).fs = s.fs ∧ (countLate s).fa = s.fa ∧
    (countLate s).cu = s.cu ∧ (countLate s).pli = s.pli ∧ (countLate s).lb = s.lb ∧
    (countLate s).hx = s.hx ∧ (countLate s).sc = s.sc ∧ (countLate s).op = s.op ∧
    (countLate s).freeCount = s.freeCount ∧ (countLate s).pending = s.pending ∧
    (countLate s).cp.config = s.cp.config ∧ (countLate s).cp.lock = s.cp.lock ∧
    (countLate s).cp.digest = s.cp.digest ∧ (countLate s).cp.station = s.cp.station ∧
    (countLate s).cp.ownership = s.cp.ownership ∧ (countLate s).cp.result = s.cp.result ∧
    (countLate s).cp.dataOut = s.cp.dataOut ∧ (countLate s).cp.enables = s.cp.enables ∧
    (countLate s).cp.resetHeld = s.cp.resetHeld := by
  refine ⟨?_, ?_, ?_, ?_, ?_, ?_, ?_, ?_, ?_, ?_, ?_, ?_, ?_, ?_, ?_, ?_, ?_, ?_, ?_, ?_⟩ <;> rfl

@[simp] theorem abandonOvertaken_frame (s : State) (k : FieldNo) :
    (abandonOvertaken k s).li = s.li ∧ (abandonOvertaken k s).fa = s.fa ∧
    (abandonOvertaken k s).cu = s.cu ∧ (abandonOvertaken k s).pli = s.pli ∧
    (abandonOvertaken k s).freeCount = s.freeCount ∧ (abandonOvertaken k s).pending = s.pending ∧
    (abandonOvertaken k s).lb.frames = s.lb.frames ∧
    (abandonOvertaken k s).lb.decisions = s.lb.decisions ∧
    (abandonOvertaken k s).lb.newestBegun = s.lb.newestBegun ∧
    (abandonOvertaken k s).lb.lastEnded = s.lb.lastEnded ∧
    (abandonOvertaken k s).lb.lastBegun = s.lb.lastBegun ∧
    (abandonOvertaken k s).lb.lastRequested = s.lb.lastRequested ∧
    (abandonOvertaken k s).sc.outgoing = s.sc.outgoing ∧
    (abandonOvertaken k s).sc.bankA = s.sc.bankA ∧ (abandonOvertaken k s).sc.bankB = s.sc.bankB ∧
    (abandonOvertaken k s).sc.staging = s.sc.staging ∧
    (abandonOvertaken k s).sc.commit = s.sc.commit ∧
    (abandonOvertaken k s).op.emission = s.op.emission ∧
    (abandonOvertaken k s).op.lastAnswer = s.op.lastAnswer ∧
    (abandonOvertaken k s).op.lastAsked = s.op.lastAsked ∧
    (abandonOvertaken k s).op.lastRow = s.op.lastRow ∧
    (abandonOvertaken k s).cp.config = s.cp.config ∧ (abandonOvertaken k s).cp.lock = s.cp.lock ∧
    (abandonOvertaken k s).cp.digest = s.cp.digest ∧
    (abandonOvertaken k s).cp.station = s.cp.station ∧
    (abandonOvertaken k s).cp.ownership = s.cp.ownership ∧
    (abandonOvertaken k s).cp.result = s.cp.result ∧
    (abandonOvertaken k s).cp.dataOut = s.cp.dataOut ∧
    (abandonOvertaken k s).cp.enables = s.cp.enables ∧
    (abandonOvertaken k s).cp.resetHeld = s.cp.resetHeld := by
  refine ⟨?_, ?_, ?_, ?_, ?_, ?_, ?_, ?_, ?_, ?_, ?_, ?_, ?_, ?_, ?_, ?_, ?_, ?_, ?_, ?_, ?_, ?_, ?_, ?_, ?_, ?_, ?_, ?_, ?_, ?_⟩ <;> (unfold abandonOvertaken; (repeat' split) <;> simp)

@[simp] theorem settleBuffers_frame (s : State) (k : FieldNo) :
    (settleBuffers k s).li = s.li ∧ (settleBuffers k s).fs = s.fs ∧
    (settleBuffers k s).fa = s.fa ∧ (settleBuffers k s).cu = s.cu ∧
    (settleBuffers k s).pli = s.pli ∧ (settleBuffers k s).lb = s.lb ∧
    (settleBuffers k s).hx = s.hx ∧ (settleBuffers k s).sc = s.sc ∧
    (settleBuffers k s).cp = s.cp ∧ (settleBuffers k s).freeCount = s.freeCount ∧
    (settleBuffers k s).pending = s.pending ∧ (settleBuffers k s).op.emission = s.op.emission ∧
    (settleBuffers k s).op.lastAnswer = s.op.lastAnswer ∧
    (settleBuffers k s).op.lastAsked = s.op.lastAsked ∧
    (settleBuffers k s).op.lastRow = s.op.lastRow := by
  refine ⟨?_, ?_, ?_, ?_, ?_, ?_, ?_, ?_, ?_, ?_, ?_, ?_, ?_, ?_, ?_⟩ <;> rfl

@[simp] theorem beginEmission_frame (s : State) (k : FieldNo) (a : Answer) :
    (beginEmission k a s).li = s.li ∧ (beginEmission k a s).fs = s.fs ∧
    (beginEmission k a s).fa = s.fa ∧ (beginEmission k a s).cu = s.cu ∧
    (beginEmission k a s).pli = s.pli ∧ (beginEmission k a s).lb = s.lb ∧
    (beginEmission k a s).hx = s.hx ∧ (beginEmission k a s).sc = s.sc ∧
    (beginEmission k a s).cp = s.cp ∧ (beginEmission k a s).freeCount = s.freeCount ∧
    (beginEmission k a s).pending = s.pending ∧ (beginEmission k a s).op.fb0 = s.op.fb0 ∧
    (beginEmission k a s).op.fb1 = s.op.fb1 ∧
    (beginEmission k a s).op.lastRow = s.op.lastRow := by
  refine ⟨?_, ?_, ?_, ?_, ?_, ?_, ?_, ?_, ?_, ?_, ?_, ?_, ?_, ?_⟩ <;> rfl

@[simp] theorem endEmission_frame (s : State) :
    (endEmission s).li = s.li ∧ (endEmission s).fs = s.fs ∧ (endEmission s).fa = s.fa ∧
    (endEmission s).cu = s.cu ∧ (endEmission s).pli = s.pli ∧ (endEmission s).lb = s.lb ∧
    (endEmission s).hx = s.hx ∧ (endEmission s).sc = s.sc ∧ (endEmission s).cp = s.cp ∧
    (endEmission s).freeCount = s.freeCount ∧ (endEmission s).pending = s.pending ∧
    (endEmission s).op.fb0 = s.op.fb0 ∧ (endEmission s).op.fb1 = s.op.fb1 ∧
    (endEmission s).op.lastAnswer = s.op.lastAnswer ∧
    (endEmission s).op.lastAsked = s.op.lastAsked ∧
    (endEmission s).op.lastRow = s.op.lastRow := by
  refine ⟨?_, ?_, ?_, ?_, ?_, ?_, ?_, ?_, ?_, ?_, ?_, ?_, ?_, ?_, ?_, ?_⟩ <;> rfl

@[simp] theorem fullOutputStart_frame (s : State) (k : FieldNo) :
    (fullOutputStart k s).li = s.li ∧ (fullOutputStart k s).fa = s.fa ∧
    (fullOutputStart k s).cu = s.cu ∧ (fullOutputStart k s).freeCount = s.freeCount ∧
    (fullOutputStart k s).pending = s.pending ∧
    (fullOutputStart k s).pli.attached = s.pli.attached ∧
    (fullOutputStart k s).pli.urgent = s.pli.urgent ∧
    (fullOutputStart k s).pli.urgentAttempts = s.pli.urgentAttempts ∧
    (fullOutputStart k s).pli.urgentDiscards = s.pli.urgentDiscards ∧
    (fullOutputStart k s).pli.idleMonitor = s.pli.idleMonitor ∧
    (fullOutputStart k s).pli.tx.isSome = s.pli.tx.isSome ∧
    (fullOutputStart k s).lb.newestBegun = s.lb.newestBegun ∧
    (fullOutputStart k s).lb.lastEnded = s.lb.lastEnded ∧
    (fullOutputStart k s).lb.lastBegun = s.lb.lastBegun ∧
    (fullOutputStart k s).sc.outgoing = s.sc.outgoing ∧
    (fullOutputStart k s).sc.bankA = s.sc.bankA ∧ (fullOutputStart k s).sc.bankB = s.sc.bankB ∧
    (fullOutputStart k s).sc.staging = s.sc.staging ∧
    (fullOutputStart k s).sc.commit = s.sc.commit ∧
    (fullOutputStart k s).op.lastRow = s.op.lastRow ∧
    (fullOutputStart k s).cp.config = s.cp.config ∧ (fullOutputStart k s).cp.lock = s.cp.lock ∧
    (fullOutputStart k s).cp.digest = s.cp.digest ∧
    (fullOutputStart k s).cp.station = s.cp.station ∧
    (fullOutputStart k s).cp.ownership = s.cp.ownership ∧
    (fullOutputStart k s).cp.result = s.cp.result ∧
    (fullOutputStart k s).cp.dataOut = s.cp.dataOut ∧
    (fullOutputStart k s).cp.enables = s.cp.enables ∧
    (fullOutputStart k s).cp.resetHeld = s.cp.resetHeld := by
  refine ⟨?_, ?_, ?_, ?_, ?_, ?_, ?_, ?_, ?_, ?_, ?_, ?_, ?_, ?_, ?_, ?_, ?_, ?_, ?_, ?_, ?_, ?_, ?_, ?_, ?_, ?_, ?_, ?_, ?_⟩ <;> simp [fullOutputStart]

@[simp] theorem fillOutputStart_frame (s : State) (k : FieldNo) :
    (fillOutputStart k s).li = s.li ∧ (fillOutputStart k s).fs = s.fs ∧
    (fillOutputStart k s).fa = s.fa ∧ (fillOutputStart k s).cu = s.cu ∧
    (fillOutputStart k s).pli = s.pli ∧ (fillOutputStart k s).lb = s.lb ∧
    (fillOutputStart k s).hx = s.hx ∧ (fillOutputStart k s).sc = s.sc ∧
    (fillOutputStart k s).cp = s.cp ∧ (fillOutputStart k s).freeCount = s.freeCount ∧
    (fillOutputStart k s).pending = s.pending ∧ (fillOutputStart k s).op.fb0 = s.op.fb0 ∧
    (fillOutputStart k s).op.fb1 = s.op.fb1 ∧
    (fillOutputStart k s).op.lastRow = s.op.lastRow := by
  refine ⟨?_, ?_, ?_, ?_, ?_, ?_, ?_, ?_, ?_, ?_, ?_, ?_, ?_, ?_⟩ <;> rfl

@[simp] theorem outputStartStep_frame (s : State) (k : FieldNo) :
    (outputStartStep k s).li = s.li ∧ (outputStartStep k s).fa = s.fa ∧
    (outputStartStep k s).cu = s.cu ∧ (outputStartStep k s).freeCount = s.freeCount ∧
    (outputStartStep k s).pending = s.pending ∧
    (outputStartStep k s).pli.attached = s.pli.attached ∧
    (outputStartStep k s).pli.urgent = s.pli.urgent ∧
    (outputStartStep k s).pli.urgentAttempts = s.pli.urgentAttempts ∧
    (outputStartStep k s).pli.urgentDiscards = s.pli.urgentDiscards ∧
    (outputStartStep k s).pli.idleMonitor = s.pli.idleMonitor ∧
    (outputStartStep k s).pli.tx.isSome = s.pli.tx.isSome ∧
    (outputStartStep k s).lb.newestBegun = s.lb.newestBegun ∧
    (outputStartStep k s).lb.lastEnded = s.lb.lastEnded ∧
    (outputStartStep k s).lb.lastBegun = s.lb.lastBegun ∧
    (outputStartStep k s).sc.outgoing = s.sc.outgoing ∧
    (outputStartStep k s).sc.bankA = s.sc.bankA ∧ (outputStartStep k s).sc.bankB = s.sc.bankB ∧
    (outputStartStep k s).sc.staging = s.sc.staging ∧
    (outputStartStep k s).sc.commit = s.sc.commit ∧
    (outputStartStep k s).op.lastRow = s.op.lastRow ∧
    (outputStartStep k s).cp.config = s.cp.config ∧ (outputStartStep k s).cp.lock = s.cp.lock ∧
    (outputStartStep k s).cp.digest = s.cp.digest ∧
    (outputStartStep k s).cp.station = s.cp.station ∧
    (outputStartStep k s).cp.ownership = s.cp.ownership ∧
    (outputStartStep k s).cp.result = s.cp.result ∧
    (outputStartStep k s).cp.dataOut = s.cp.dataOut ∧
    (outputStartStep k s).cp.enables = s.cp.enables ∧
    (outputStartStep k s).cp.resetHeld = s.cp.resetHeld := by
  refine ⟨?_, ?_, ?_, ?_, ?_, ?_, ?_, ?_, ?_, ?_, ?_, ?_, ?_, ?_, ?_, ?_, ?_, ?_, ?_, ?_, ?_, ?_, ?_, ?_, ?_, ?_, ?_, ?_, ?_⟩ <;> (unfold outputStartStep; (repeat' split) <;> simp)

@[simp] theorem stopOutput_frame (s : State) :
    (stopOutput s).li = s.li ∧ (stopOutput s).fs = s.fs ∧ (stopOutput s).fa = s.fa ∧
    (stopOutput s).cu = s.cu ∧ (stopOutput s).pli = s.pli ∧ (stopOutput s).lb = s.lb ∧
    (stopOutput s).hx = s.hx ∧ (stopOutput s).sc = s.sc ∧ (stopOutput s).cp = s.cp ∧
    (stopOutput s).freeCount = s.freeCount ∧ (stopOutput s).pending = s.pending ∧
    (stopOutput s).op.lastAnswer = s.op.lastAnswer ∧
    (stopOutput s).op.lastAsked = s.op.lastAsked ∧ (stopOutput s).op.lastRow = s.op.lastRow := by
  refine ⟨?_, ?_, ?_, ?_, ?_, ?_, ?_, ?_, ?_, ?_, ?_, ?_, ?_, ?_⟩ <;> rfl

@[simp] theorem beginHead_frame (s : State) :
    (beginHead s).li = s.li ∧ (beginHead s).fs = s.fs ∧ (beginHead s).cu = s.cu ∧
    (beginHead s).pli = s.pli ∧ (beginHead s).lb = s.lb ∧ (beginHead s).hx = s.hx ∧
    (beginHead s).sc = s.sc ∧ (beginHead s).op = s.op ∧ (beginHead s).cp = s.cp ∧
    (beginHead s).freeCount = s.freeCount ∧ (beginHead s).pending = s.pending := by
  refine ⟨?_, ?_, ?_, ?_, ?_, ?_, ?_, ?_, ?_, ?_, ?_⟩ <;> (unfold beginHead; (repeat' split) <;> simp)

@[simp] theorem holdAnalysis_frame (s : State) (f : FieldNo) (c : Option Word16) :
    (holdAnalysis f c s).li = s.li ∧ (holdAnalysis f c s).fa = s.fa ∧
    (holdAnalysis f c s).cu = s.cu ∧ (holdAnalysis f c s).pli = s.pli ∧
    (holdAnalysis f c s).lb = s.lb ∧ (holdAnalysis f c s).hx = s.hx ∧
    (holdAnalysis f c s).sc = s.sc ∧ (holdAnalysis f c s).op = s.op ∧
    (holdAnalysis f c s).cp = s.cp ∧ (holdAnalysis f c s).freeCount = s.freeCount ∧
    (holdAnalysis f c s).pending = s.pending := by
  refine ⟨?_, ?_, ?_, ?_, ?_, ?_, ?_, ?_, ?_, ?_, ?_⟩ <;> (unfold holdAnalysis; (repeat' split) <;> simp)

@[simp] theorem dropAnalysis_frame (s : State) (c : Option Word16) :
    (dropAnalysis c s).li = s.li ∧ (dropAnalysis c s).fa = s.fa ∧ (dropAnalysis c s).cu = s.cu ∧
    (dropAnalysis c s).pli = s.pli ∧ (dropAnalysis c s).lb = s.lb ∧
    (dropAnalysis c s).hx = s.hx ∧ (dropAnalysis c s).sc = s.sc ∧ (dropAnalysis c s).op = s.op ∧
    (dropAnalysis c s).cp = s.cp ∧ (dropAnalysis c s).freeCount = s.freeCount ∧
    (dropAnalysis c s).pending = s.pending := by
  refine ⟨?_, ?_, ?_, ?_, ?_, ?_, ?_, ?_, ?_, ?_, ?_⟩ <;> (unfold dropAnalysis; (repeat' split) <;> simp)

@[simp] theorem joinAnalyses_frame (s : State) (f : FieldNo) (c : Option Word16) :
    (joinAnalyses f c s).li = s.li ∧ (joinAnalyses f c s).fs = s.fs ∧
    (joinAnalyses f c s).cu = s.cu ∧ (joinAnalyses f c s).pli = s.pli ∧
    (joinAnalyses f c s).lb = s.lb ∧ (joinAnalyses f c s).hx = s.hx ∧
    (joinAnalyses f c s).sc = s.sc ∧ (joinAnalyses f c s).op = s.op ∧
    (joinAnalyses f c s).cp = s.cp ∧ (joinAnalyses f c s).freeCount = s.freeCount ∧
    (joinAnalyses f c s).pending = s.pending := by
  refine ⟨?_, ?_, ?_, ?_, ?_, ?_, ?_, ?_, ?_, ?_, ?_⟩ <;> simp [joinAnalyses]

@[simp] theorem takeCounts_frame (s : State) :
    (takeCounts s).li = s.li ∧ (takeCounts s).fs = s.fs ∧ (takeCounts s).fa = s.fa ∧
    (takeCounts s).cu = s.cu ∧ (takeCounts s).pli = s.pli ∧ (takeCounts s).lb = s.lb ∧
    (takeCounts s).sc = s.sc ∧ (takeCounts s).op = s.op ∧ (takeCounts s).cp = s.cp ∧
    (takeCounts s).freeCount = s.freeCount ∧ (takeCounts s).pending = s.pending ∧
    (takeCounts s).hx.upperSide = s.hx.upperSide ∧ (takeCounts s).hx.lowerSide = s.hx.lowerSide ∧
    (takeCounts s).hx.timer = s.hx.timer := by
  refine ⟨?_, ?_, ?_, ?_, ?_, ?_, ?_, ?_, ?_, ?_, ?_, ?_, ?_, ?_⟩ <;> rfl

@[simp] theorem oweClose_frame (s : State) (n : FieldNo) :
    (oweClose n s).li = s.li ∧ (oweClose n s).fs = s.fs ∧ (oweClose n s).fa = s.fa ∧
    (oweClose n s).pli = s.pli ∧ (oweClose n s).lb = s.lb ∧ (oweClose n s).hx = s.hx ∧
    (oweClose n s).sc = s.sc ∧ (oweClose n s).op = s.op ∧ (oweClose n s).cp = s.cp ∧
    (oweClose n s).freeCount = s.freeCount ∧ (oweClose n s).pending = s.pending ∧
    (oweClose n s).cu.membership = s.cu.membership ∧ (oweClose n s).cu.agreed = s.cu.agreed ∧
    (oweClose n s).cu.heard = s.cu.heard ∧ (oweClose n s).cu.foundingBar = s.cu.foundingBar ∧
    (oweClose n s).cu.listenCount = s.cu.listenCount ∧ (oweClose n s).cu.timers = s.cu.timers ∧
    (oweClose n s).cu.heldExpiries = s.cu.heldExpiries := by
  refine ⟨?_, ?_, ?_, ?_, ?_, ?_, ?_, ?_, ?_, ?_, ?_, ?_, ?_, ?_, ?_, ?_, ?_, ?_⟩ <;> (unfold oweClose; (repeat' split) <;> simp)

@[simp] theorem askClose_frame (s : State) (n : FieldNo) :
    (askClose n s).li = s.li ∧ (askClose n s).fs = s.fs ∧ (askClose n s).fa = s.fa ∧
    (askClose n s).lb = s.lb ∧ (askClose n s).hx = s.hx ∧ (askClose n s).sc = s.sc ∧
    (askClose n s).op = s.op ∧ (askClose n s).cp = s.cp ∧
    (askClose n s).freeCount = s.freeCount ∧ (askClose n s).pending = s.pending ∧
    (askClose n s).cu.membership = s.cu.membership ∧ (askClose n s).cu.agreed = s.cu.agreed ∧
    (askClose n s).cu.heard = s.cu.heard ∧ (askClose n s).cu.foundingBar = s.cu.foundingBar ∧
    (askClose n s).cu.listenCount = s.cu.listenCount ∧ (askClose n s).cu.timers = s.cu.timers ∧
    (askClose n s).cu.heldExpiries = s.cu.heldExpiries ∧
    (askClose n s).pli.attached = s.pli.attached ∧ (askClose n s).pli.bulk = s.pli.bulk ∧
    (askClose n s).pli.urgentAttempts = s.pli.urgentAttempts ∧
    (askClose n s).pli.urgentDiscards = s.pli.urgentDiscards ∧ (askClose n s).pli.tx = s.pli.tx ∧
    (askClose n s).pli.idleMonitor = s.pli.idleMonitor ∧
    (askClose n s).pli.tx.isSome = s.pli.tx.isSome := by
  refine ⟨?_, ?_, ?_, ?_, ?_, ?_, ?_, ?_, ?_, ?_, ?_, ?_, ?_, ?_, ?_, ?_, ?_, ?_, ?_, ?_, ?_, ?_, ?_, ?_⟩ <;> (unfold askClose; (repeat' split) <;> simp)

@[simp] theorem askOwed_frame (s : State) (n : FieldNo) :
    (askOwed s n).li = s.li ∧ (askOwed s n).fs = s.fs ∧ (askOwed s n).fa = s.fa ∧
    (askOwed s n).lb = s.lb ∧ (askOwed s n).hx = s.hx ∧ (askOwed s n).sc = s.sc ∧
    (askOwed s n).op = s.op ∧ (askOwed s n).cp = s.cp ∧ (askOwed s n).freeCount = s.freeCount ∧
    (askOwed s n).pending = s.pending ∧ (askOwed s n).cu.membership = s.cu.membership ∧
    (askOwed s n).cu.agreed = s.cu.agreed ∧ (askOwed s n).cu.heard = s.cu.heard ∧
    (askOwed s n).cu.foundingBar = s.cu.foundingBar ∧
    (askOwed s n).cu.listenCount = s.cu.listenCount ∧ (askOwed s n).cu.timers = s.cu.timers ∧
    (askOwed s n).cu.heldExpiries = s.cu.heldExpiries ∧
    (askOwed s n).pli.attached = s.pli.attached ∧ (askOwed s n).pli.bulk = s.pli.bulk ∧
    (askOwed s n).pli.urgentAttempts = s.pli.urgentAttempts ∧
    (askOwed s n).pli.urgentDiscards = s.pli.urgentDiscards ∧ (askOwed s n).pli.tx = s.pli.tx ∧
    (askOwed s n).pli.idleMonitor = s.pli.idleMonitor ∧
    (askOwed s n).pli.tx.isSome = s.pli.tx.isSome := by
  refine ⟨?_, ?_, ?_, ?_, ?_, ?_, ?_, ?_, ?_, ?_, ?_, ?_, ?_, ?_, ?_, ?_, ?_, ?_, ?_, ?_, ?_, ?_, ?_, ?_⟩ <;> (unfold askOwed; (repeat' split) <;> simp)

@[simp] theorem askLeave_frame (s : State) :
    (askLeave s).li = s.li ∧ (askLeave s).fs = s.fs ∧ (askLeave s).fa = s.fa ∧
    (askLeave s).lb = s.lb ∧ (askLeave s).hx = s.hx ∧ (askLeave s).sc = s.sc ∧
    (askLeave s).op = s.op ∧ (askLeave s).cp = s.cp ∧ (askLeave s).freeCount = s.freeCount ∧
    (askLeave s).pending = s.pending ∧ (askLeave s).cu.membership = s.cu.membership ∧
    (askLeave s).cu.agreed = s.cu.agreed ∧ (askLeave s).cu.heard = s.cu.heard ∧
    (askLeave s).cu.foundingBar = s.cu.foundingBar ∧
    (askLeave s).cu.listenCount = s.cu.listenCount ∧ (askLeave s).cu.timers = s.cu.timers ∧
    (askLeave s).cu.heldExpiries = s.cu.heldExpiries ∧
    (askLeave s).cu.owedCloses = s.cu.owedCloses ∧ (askLeave s).pli.attached = s.pli.attached ∧
    (askLeave s).pli.bulk = s.pli.bulk ∧ (askLeave s).pli.urgentAttempts = s.pli.urgentAttempts ∧
    (askLeave s).pli.urgentDiscards = s.pli.urgentDiscards ∧ (askLeave s).pli.tx = s.pli.tx ∧
    (askLeave s).pli.idleMonitor = s.pli.idleMonitor ∧
    (askLeave s).pli.tx.isSome = s.pli.tx.isSome := by
  refine ⟨?_, ?_, ?_, ?_, ?_, ?_, ?_, ?_, ?_, ?_, ?_, ?_, ?_, ?_, ?_, ?_, ?_, ?_, ?_, ?_, ?_, ?_, ?_, ?_, ?_⟩ <;> (unfold askLeave; (repeat' split) <;> simp)

@[simp] theorem cancelTimers_frame (s : State) :
    (cancelTimers s).li = s.li ∧ (cancelTimers s).fs = s.fs ∧ (cancelTimers s).fa = s.fa ∧
    (cancelTimers s).pli = s.pli ∧ (cancelTimers s).lb = s.lb ∧ (cancelTimers s).hx = s.hx ∧
    (cancelTimers s).sc = s.sc ∧ (cancelTimers s).op = s.op ∧ (cancelTimers s).cp = s.cp ∧
    (cancelTimers s).freeCount = s.freeCount ∧ (cancelTimers s).pending = s.pending ∧
    (cancelTimers s).cu.membership = s.cu.membership ∧ (cancelTimers s).cu.agreed = s.cu.agreed ∧
    (cancelTimers s).cu.heard = s.cu.heard ∧ (cancelTimers s).cu.foundingBar = s.cu.foundingBar ∧
    (cancelTimers s).cu.listenCount = s.cu.listenCount := by
  refine ⟨?_, ?_, ?_, ?_, ?_, ?_, ?_, ?_, ?_, ?_, ?_, ?_, ?_, ?_, ?_, ?_⟩ <;> rfl

@[simp] theorem enterListening_frame (s : State) :
    (enterListening s).li = s.li ∧ (enterListening s).fs = s.fs ∧ (enterListening s).fa = s.fa ∧
    (enterListening s).pli = s.pli ∧ (enterListening s).lb = s.lb ∧
    (enterListening s).hx = s.hx ∧ (enterListening s).sc = s.sc ∧ (enterListening s).op = s.op ∧
    (enterListening s).cp = s.cp ∧ (enterListening s).freeCount = s.freeCount ∧
    (enterListening s).pending = s.pending ∧ (enterListening s).cu.agreed = s.cu.agreed ∧
    (enterListening s).cu.timers = s.cu.timers ∧
    (enterListening s).cu.heldExpiries = s.cu.heldExpiries ∧
    (enterListening s).cu.owedCloses = s.cu.owedCloses := by
  refine ⟨?_, ?_, ?_, ?_, ?_, ?_, ?_, ?_, ?_, ?_, ?_, ?_, ?_, ?_, ?_⟩ <;> rfl

@[simp] theorem stopConsensus_frame (s : State) :
    (stopConsensus s).li = s.li ∧ (stopConsensus s).fs = s.fs ∧ (stopConsensus s).fa = s.fa ∧
    (stopConsensus s).pli = s.pli ∧ (stopConsensus s).lb = s.lb ∧ (stopConsensus s).hx = s.hx ∧
    (stopConsensus s).sc = s.sc ∧ (stopConsensus s).op = s.op ∧ (stopConsensus s).cp = s.cp ∧
    (stopConsensus s).freeCount = s.freeCount ∧ (stopConsensus s).pending = s.pending ∧
    (stopConsensus s).cu.agreed = s.cu.agreed ∧ (stopConsensus s).cu.heard = s.cu.heard ∧
    (stopConsensus s).cu.foundingBar = s.cu.foundingBar := by
  refine ⟨?_, ?_, ?_, ?_, ?_, ?_, ?_, ?_, ?_, ?_, ?_, ?_, ?_, ?_⟩ <;> rfl

@[simp] theorem dropOutgoing_frame (s : State) :
    (dropOutgoing s).li = s.li ∧ (dropOutgoing s).fs = s.fs ∧ (dropOutgoing s).fa = s.fa ∧
    (dropOutgoing s).cu = s.cu ∧ (dropOutgoing s).pli = s.pli ∧ (dropOutgoing s).lb = s.lb ∧
    (dropOutgoing s).hx = s.hx ∧ (dropOutgoing s).op = s.op ∧ (dropOutgoing s).cp = s.cp ∧
    (dropOutgoing s).freeCount = s.freeCount ∧ (dropOutgoing s).pending = s.pending ∧
    (dropOutgoing s).sc.scaling = s.sc.scaling ∧ (dropOutgoing s).sc.bankA = s.sc.bankA ∧
    (dropOutgoing s).sc.bankB = s.sc.bankB ∧ (dropOutgoing s).sc.staging = s.sc.staging ∧
    (dropOutgoing s).sc.commit = s.sc.commit := by
  refine ⟨?_, ?_, ?_, ?_, ?_, ?_, ?_, ?_, ?_, ?_, ?_, ?_, ?_, ?_, ?_, ?_⟩ <;> rfl

@[simp] theorem restDirections_frame (s : State) :
    (restDirections s).li = s.li ∧ (restDirections s).fs = s.fs ∧
    (restDirections s).fa = s.fa ∧ (restDirections s).cu = s.cu ∧
    (restDirections s).pli = s.pli ∧ (restDirections s).lb = s.lb ∧
    (restDirections s).sc = s.sc ∧ (restDirections s).op = s.op ∧
    (restDirections s).cp = s.cp ∧ (restDirections s).freeCount = s.freeCount ∧
    (restDirections s).pending = s.pending ∧
    (restDirections s).hx.upperSide = s.hx.upperSide ∧
    (restDirections s).hx.lowerSide = s.hx.lowerSide ∧
    (restDirections s).hx.timer = s.hx.timer := by
  refine ⟨?_, ?_, ?_, ?_, ?_, ?_, ?_, ?_, ?_, ?_, ?_, ?_, ?_, ?_⟩ <;> rfl

/-- An act on both sides keeps what each of its halves and a draw keep. -/
theorem keeps_onBothSides {γ : Type} (get : State → γ) (act : State → Side → State)
    (h : ∀ s side, get (act s side) = get s) (hd : ∀ s : State, get s.drawn = get s) (s : State) :
    get (onBothSides act s) = get s := by
  unfold onBothSides
  dsimp only
  rw [keeps_foldl get act h]
  split
  · exact hd s
  · rfl

@[simp] theorem testHead_frame (s : State) :
    (testHead s).li = s.li ∧ (testHead s).fa = s.fa ∧ (testHead s).cu = s.cu ∧
    (testHead s).pli = s.pli ∧ (testHead s).freeCount = s.freeCount ∧
    (testHead s).pending = s.pending ∧ (testHead s).lb.newestBegun = s.lb.newestBegun ∧
    (testHead s).lb.lastEnded = s.lb.lastEnded ∧
    (testHead s).lb.lastRequested = s.lb.lastRequested ∧ (testHead s).sc.bankA = s.sc.bankA ∧
    (testHead s).sc.bankB = s.sc.bankB ∧ (testHead s).sc.staging = s.sc.staging ∧
    (testHead s).sc.commit = s.sc.commit ∧ (testHead s).op.emission = s.op.emission ∧
    (testHead s).op.lastAnswer = s.op.lastAnswer ∧ (testHead s).op.lastAsked = s.op.lastAsked ∧
    (testHead s).op.lastRow = s.op.lastRow ∧ (testHead s).cp.config = s.cp.config ∧
    (testHead s).cp.lock = s.cp.lock ∧ (testHead s).cp.digest = s.cp.digest ∧
    (testHead s).cp.station = s.cp.station ∧ (testHead s).cp.ownership = s.cp.ownership ∧
    (testHead s).cp.result = s.cp.result ∧ (testHead s).cp.dataOut = s.cp.dataOut ∧
    (testHead s).cp.enables = s.cp.enables ∧ (testHead s).cp.resetHeld = s.cp.resetHeld := by
  refine ⟨?_, ?_, ?_, ?_, ?_, ?_, ?_, ?_, ?_, ?_, ?_, ?_, ?_, ?_, ?_, ?_, ?_, ?_, ?_, ?_, ?_, ?_, ?_, ?_, ?_, ?_⟩ <;> (simp only [testHead]; (repeat' split) <;> simp)

@[simp] theorem lineNotices_frame (s : State) (b : Nat) :
    (lineNotices b s).li = s.li ∧ (lineNotices b s).fs = s.fs ∧ (lineNotices b s).fa = s.fa ∧
    (lineNotices b s).cu = s.cu ∧ (lineNotices b s).op = s.op ∧ (lineNotices b s).cp = s.cp ∧
    (lineNotices b s).freeCount = s.freeCount ∧ (lineNotices b s).pending = s.pending ∧
    (lineNotices b s).pli.attached = s.pli.attached ∧
    (lineNotices b s).pli.urgent = s.pli.urgent ∧
    (lineNotices b s).pli.urgentAttempts = s.pli.urgentAttempts ∧
    (lineNotices b s).pli.urgentDiscards = s.pli.urgentDiscards ∧
    (lineNotices b s).pli.tx = s.pli.tx ∧ (lineNotices b s).pli.idleMonitor = s.pli.idleMonitor ∧
    (lineNotices b s).pli.tx.isSome = s.pli.tx.isSome ∧
    (lineNotices b s).lb.frames = s.lb.frames ∧ (lineNotices b s).lb.decisions = s.lb.decisions ∧
    (lineNotices b s).lb.newestBegun = s.lb.newestBegun ∧
    (lineNotices b s).lb.lastEnded = s.lb.lastEnded ∧
    (lineNotices b s).lb.lastBegun = s.lb.lastBegun ∧
    (lineNotices b s).lb.lastRequested = s.lb.lastRequested ∧
    (lineNotices b s).hx.upperSide = s.hx.upperSide ∧
    (lineNotices b s).hx.lowerSide = s.hx.lowerSide ∧ (lineNotices b s).hx.timer = s.hx.timer ∧
    (lineNotices b s).sc.outgoing = s.sc.outgoing ∧ (lineNotices b s).sc.bankA = s.sc.bankA ∧
    (lineNotices b s).sc.bankB = s.sc.bankB ∧ (lineNotices b s).sc.staging = s.sc.staging ∧
    (lineNotices b s).sc.commit = s.sc.commit := by
  refine ⟨?_, ?_, ?_, ?_, ?_, ?_, ?_, ?_, ?_, ?_, ?_, ?_, ?_, ?_, ?_, ?_, ?_, ?_, ?_, ?_, ?_, ?_, ?_, ?_, ?_, ?_, ?_, ?_, ?_⟩ <;> (simp only [lineNotices]; (repeat' split) <;> simp)

@[simp] theorem writeRow_frame (s : State) (r : ScalingRecord) (row : Nat) :
    (writeRow r row s).li = s.li ∧ (writeRow r row s).fa = s.fa ∧ (writeRow r row s).cu = s.cu ∧
    (writeRow r row s).pli = s.pli ∧ (writeRow r row s).freeCount = s.freeCount ∧
    (writeRow r row s).pending = s.pending ∧ (writeRow r row s).lb.frames = s.lb.frames ∧
    (writeRow r row s).lb.decisions = s.lb.decisions ∧
    (writeRow r row s).lb.newestBegun = s.lb.newestBegun ∧
    (writeRow r row s).lb.lastEnded = s.lb.lastEnded ∧
    (writeRow r row s).lb.lastBegun = s.lb.lastBegun ∧
    (writeRow r row s).lb.lastRequested = s.lb.lastRequested ∧
    (writeRow r row s).sc.outgoing = s.sc.outgoing ∧ (writeRow r row s).sc.bankA = s.sc.bankA ∧
    (writeRow r row s).sc.bankB = s.sc.bankB ∧ (writeRow r row s).sc.staging = s.sc.staging ∧
    (writeRow r row s).sc.commit = s.sc.commit ∧ (writeRow r row s).op.emission = s.op.emission ∧
    (writeRow r row s).op.lastAnswer = s.op.lastAnswer ∧
    (writeRow r row s).op.lastAsked = s.op.lastAsked ∧
    (writeRow r row s).op.lastRow = s.op.lastRow ∧ (writeRow r row s).cp.config = s.cp.config ∧
    (writeRow r row s).cp.lock = s.cp.lock ∧ (writeRow r row s).cp.digest = s.cp.digest ∧
    (writeRow r row s).cp.station = s.cp.station ∧
    (writeRow r row s).cp.ownership = s.cp.ownership ∧
    (writeRow r row s).cp.result = s.cp.result ∧ (writeRow r row s).cp.dataOut = s.cp.dataOut ∧
    (writeRow r row s).cp.enables = s.cp.enables ∧
    (writeRow r row s).cp.resetHeld = s.cp.resetHeld := by
  refine ⟨?_, ?_, ?_, ?_, ?_, ?_, ?_, ?_, ?_, ?_, ?_, ?_, ?_, ?_, ?_, ?_, ?_, ?_, ?_, ?_, ?_, ?_, ?_, ?_, ?_, ?_, ?_, ?_, ?_, ?_⟩ <;> (simp only [writeRow]; (repeat' split) <;> simp)

@[simp] theorem rowWriteStep_frame (s : State) :
    (rowWriteStep s).li = s.li ∧ (rowWriteStep s).fa = s.fa ∧ (rowWriteStep s).cu = s.cu ∧
    (rowWriteStep s).pli = s.pli ∧ (rowWriteStep s).freeCount = s.freeCount ∧
    (rowWriteStep s).pending = s.pending ∧ (rowWriteStep s).lb.frames = s.lb.frames ∧
    (rowWriteStep s).lb.decisions = s.lb.decisions ∧
    (rowWriteStep s).lb.newestBegun = s.lb.newestBegun ∧
    (rowWriteStep s).lb.lastEnded = s.lb.lastEnded ∧
    (rowWriteStep s).lb.lastBegun = s.lb.lastBegun ∧
    (rowWriteStep s).lb.lastRequested = s.lb.lastRequested ∧
    (rowWriteStep s).sc.outgoing = s.sc.outgoing ∧ (rowWriteStep s).sc.bankA = s.sc.bankA ∧
    (rowWriteStep s).sc.bankB = s.sc.bankB ∧ (rowWriteStep s).sc.staging = s.sc.staging ∧
    (rowWriteStep s).sc.commit = s.sc.commit ∧ (rowWriteStep s).op.emission = s.op.emission ∧
    (rowWriteStep s).op.lastAnswer = s.op.lastAnswer ∧
    (rowWriteStep s).op.lastAsked = s.op.lastAsked ∧ (rowWriteStep s).op.lastRow = s.op.lastRow ∧
    (rowWriteStep s).cp.config = s.cp.config ∧ (rowWriteStep s).cp.lock = s.cp.lock ∧
    (rowWriteStep s).cp.digest = s.cp.digest ∧ (rowWriteStep s).cp.station = s.cp.station ∧
    (rowWriteStep s).cp.ownership = s.cp.ownership ∧ (rowWriteStep s).cp.result = s.cp.result ∧
    (rowWriteStep s).cp.dataOut = s.cp.dataOut ∧ (rowWriteStep s).cp.enables = s.cp.enables ∧
    (rowWriteStep s).cp.resetHeld = s.cp.resetHeld := by
  refine ⟨?_, ?_, ?_, ?_, ?_, ?_, ?_, ?_, ?_, ?_, ?_, ?_, ?_, ?_, ?_, ?_, ?_, ?_, ?_, ?_, ?_, ?_, ?_, ?_, ?_, ?_, ?_, ?_, ?_, ?_⟩ <;> (unfold rowWriteStep; (repeat' split) <;> simp)

@[simp] theorem askReport_frame (s : State) (n : FieldNo) (f : Option Figures) :
    (askReport n f s).li = s.li ∧ (askReport n f s).fs = s.fs ∧ (askReport n f s).fa = s.fa ∧
    (askReport n f s).cu = s.cu ∧ (askReport n f s).lb = s.lb ∧ (askReport n f s).sc = s.sc ∧
    (askReport n f s).op = s.op ∧ (askReport n f s).cp = s.cp ∧
    (askReport n f s).freeCount = s.freeCount ∧ (askReport n f s).pending = s.pending ∧
    (askReport n f s).pli.attached = s.pli.attached ∧ (askReport n f s).pli.bulk = s.pli.bulk ∧
    (askReport n f s).pli.urgentAttempts = s.pli.urgentAttempts ∧
    (askReport n f s).pli.urgentDiscards = s.pli.urgentDiscards ∧
    (askReport n f s).pli.tx = s.pli.tx ∧ (askReport n f s).pli.idleMonitor = s.pli.idleMonitor ∧
    (askReport n f s).pli.tx.isSome = s.pli.tx.isSome ∧
    (askReport n f s).hx.upperSide = s.hx.upperSide ∧
    (askReport n f s).hx.lowerSide = s.hx.lowerSide ∧
    (askReport n f s).hx.timer = s.hx.timer := by
  refine ⟨?_, ?_, ?_, ?_, ?_, ?_, ?_, ?_, ?_, ?_, ?_, ?_, ?_, ?_, ?_, ?_, ?_, ?_, ?_, ?_⟩ <;> (simp only [askReport]; (repeat' split) <;> simp)

@[simp] theorem resetDirections_frame (s : State) :
    (resetDirections s).li = s.li ∧ (resetDirections s).fs = s.fs ∧
    (resetDirections s).fa = s.fa ∧ (resetDirections s).cu = s.cu ∧
    (resetDirections s).lb = s.lb ∧ (resetDirections s).op = s.op ∧
    (resetDirections s).cp = s.cp ∧ (resetDirections s).pending = s.pending ∧
    (resetDirections s).pli.attached = s.pli.attached ∧
    (resetDirections s).pli.urgent = s.pli.urgent ∧
    (resetDirections s).pli.urgentAttempts = s.pli.urgentAttempts ∧
    (resetDirections s).pli.urgentDiscards = s.pli.urgentDiscards ∧
    (resetDirections s).pli.idleMonitor = s.pli.idleMonitor ∧
    (resetDirections s).pli.tx.isSome = s.pli.tx.isSome ∧
    (resetDirections s).hx.timer = s.hx.timer ∧ (resetDirections s).sc.outgoing = s.sc.outgoing ∧
    (resetDirections s).sc.bankA = s.sc.bankA ∧ (resetDirections s).sc.bankB = s.sc.bankB ∧
    (resetDirections s).sc.staging = s.sc.staging ∧
    (resetDirections s).sc.commit = s.sc.commit := by
  exact ⟨by (unfold resetDirections; exact keeps_onBothSides (fun t : State => t.li) _ (by intros; simp) (by intros; rfl) _),
    by (unfold resetDirections; exact keeps_onBothSides (fun t : State => t.fs) _ (by intros; simp) (by intros; rfl) _),
    by (unfold resetDirections; exact keeps_onBothSides (fun t : State => t.fa) _ (by intros; simp) (by intros; rfl) _),
    by (unfold resetDirections; exact keeps_onBothSides (fun t : State => t.cu) _ (by intros; simp) (by intros; rfl) _),
    by (unfold resetDirections; exact keeps_onBothSides (fun t : State => t.lb) _ (by intros; simp) (by intros; rfl) _),
    by (unfold resetDirections; exact keeps_onBothSides (fun t : State => t.op) _ (by intros; simp) (by intros; rfl) _),
    by (unfold resetDirections; exact keeps_onBothSides (fun t : State => t.cp) _ (by intros; simp) (by intros; rfl) _),
    by (unfold resetDirections; exact keeps_onBothSides (fun t : State => t.pending) _ (by intros; simp) (by intros; rfl) _),
    by (unfold resetDirections; exact keeps_onBothSides (fun t : State => t.pli.attached) _ (by intros; simp) (by intros; rfl) _),
    by (unfold resetDirections; exact keeps_onBothSides (fun t : State => t.pli.urgent) _ (by intros; simp) (by intros; rfl) _),
    by (unfold resetDirections; exact keeps_onBothSides (fun t : State => t.pli.urgentAttempts) _ (by intros; simp) (by intros; rfl) _),
    by (unfold resetDirections; exact keeps_onBothSides (fun t : State => t.pli.urgentDiscards) _ (by intros; simp) (by intros; rfl) _),
    by (unfold resetDirections; exact keeps_onBothSides (fun t : State => t.pli.idleMonitor) _ (by intros; simp) (by intros; rfl) _),
    by (unfold resetDirections; exact keeps_onBothSides (fun t : State => t.pli.tx.isSome) _ (by intros; simp) (by intros; rfl) _),
    by (unfold resetDirections; exact keeps_onBothSides (fun t : State => t.hx.timer) _ (by intros; simp) (by intros; rfl) _),
    by (unfold resetDirections; exact keeps_onBothSides (fun t : State => t.sc.outgoing) _ (by intros; simp) (by intros; rfl) _),
    by (unfold resetDirections; exact keeps_onBothSides (fun t : State => t.sc.bankA) _ (by intros; simp) (by intros; rfl) _),
    by (unfold resetDirections; exact keeps_onBothSides (fun t : State => t.sc.bankB) _ (by intros; simp) (by intros; rfl) _),
    by (unfold resetDirections; exact keeps_onBothSides (fun t : State => t.sc.staging) _ (by intros; simp) (by intros; rfl) _),
    by (unfold resetDirections; exact keeps_onBothSides (fun t : State => t.sc.commit) _ (by intros; simp) (by intros; rfl) _)⟩

@[simp] theorem quitMember_frame (s : State) :
    (quitMember s).li = s.li ∧ (quitMember s).fs = s.fs ∧ (quitMember s).fa = s.fa ∧
    (quitMember s).lb = s.lb ∧ (quitMember s).op = s.op ∧ (quitMember s).cp = s.cp ∧
    (quitMember s).pending = s.pending ∧ (quitMember s).cu.membership = s.cu.membership ∧
    (quitMember s).cu.agreed = s.cu.agreed ∧ (quitMember s).cu.heard = s.cu.heard ∧
    (quitMember s).cu.foundingBar = s.cu.foundingBar ∧
    (quitMember s).cu.listenCount = s.cu.listenCount ∧
    (quitMember s).pli.attached = s.pli.attached ∧ (quitMember s).pli.urgent = s.pli.urgent ∧
    (quitMember s).pli.urgentAttempts = s.pli.urgentAttempts ∧
    (quitMember s).pli.urgentDiscards = s.pli.urgentDiscards ∧
    (quitMember s).pli.idleMonitor = s.pli.idleMonitor ∧
    (quitMember s).pli.tx.isSome = s.pli.tx.isSome ∧ (quitMember s).hx.timer = s.hx.timer ∧
    (quitMember s).sc.outgoing = s.sc.outgoing ∧ (quitMember s).sc.bankA = s.sc.bankA ∧
    (quitMember s).sc.bankB = s.sc.bankB ∧ (quitMember s).sc.staging = s.sc.staging ∧
    (quitMember s).sc.commit = s.sc.commit := by
  refine ⟨?_, ?_, ?_, ?_, ?_, ?_, ?_, ?_, ?_, ?_, ?_, ?_, ?_, ?_, ?_, ?_, ?_, ?_, ?_, ?_, ?_, ?_, ?_, ?_⟩ <;> (unfold quitMember; (repeat' split) <;> simp)

@[simp] theorem enterJoining_frame (s : State) :
    (enterJoining s).li = s.li ∧ (enterJoining s).fs = s.fs ∧ (enterJoining s).fa = s.fa ∧
    (enterJoining s).lb = s.lb ∧ (enterJoining s).op = s.op ∧ (enterJoining s).cp = s.cp ∧
    (enterJoining s).pending = s.pending ∧ (enterJoining s).cu.agreed = s.cu.agreed ∧
    (enterJoining s).cu.heard = s.cu.heard ∧ (enterJoining s).cu.listenCount = s.cu.listenCount ∧
    (enterJoining s).pli.attached = s.pli.attached ∧ (enterJoining s).pli.urgent = s.pli.urgent ∧
    (enterJoining s).pli.urgentAttempts = s.pli.urgentAttempts ∧
    (enterJoining s).pli.urgentDiscards = s.pli.urgentDiscards ∧
    (enterJoining s).pli.idleMonitor = s.pli.idleMonitor ∧
    (enterJoining s).pli.tx.isSome = s.pli.tx.isSome ∧ (enterJoining s).hx.timer = s.hx.timer ∧
    (enterJoining s).sc.outgoing = s.sc.outgoing ∧ (enterJoining s).sc.bankA = s.sc.bankA ∧
    (enterJoining s).sc.bankB = s.sc.bankB ∧ (enterJoining s).sc.staging = s.sc.staging ∧
    (enterJoining s).sc.commit = s.sc.commit := by
  refine ⟨?_, ?_, ?_, ?_, ?_, ?_, ?_, ?_, ?_, ?_, ?_, ?_, ?_, ?_, ?_, ?_, ?_, ?_, ?_, ?_, ?_, ?_⟩ <;> simp [enterJoining]

@[simp] theorem enterStopped_frame (s : State) :
    (enterStopped s).fa = s.fa ∧ (enterStopped s).cp = s.cp ∧
    (enterStopped s).pending = s.pending ∧ (enterStopped s).cu.agreed = s.cu.agreed ∧
    (enterStopped s).cu.heard = s.cu.heard ∧ (enterStopped s).cu.foundingBar = s.cu.foundingBar ∧
    (enterStopped s).lb.newestBegun = s.lb.newestBegun ∧
    (enterStopped s).lb.lastEnded = s.lb.lastEnded ∧
    (enterStopped s).lb.lastBegun = s.lb.lastBegun ∧
    (enterStopped s).lb.lastRequested = s.lb.lastRequested ∧
    (enterStopped s).sc.bankA = s.sc.bankA ∧ (enterStopped s).sc.bankB = s.sc.bankB ∧
    (enterStopped s).sc.staging = s.sc.staging ∧ (enterStopped s).sc.commit = s.sc.commit ∧
    (enterStopped s).op.lastAnswer = s.op.lastAnswer ∧
    (enterStopped s).op.lastAsked = s.op.lastAsked ∧
    (enterStopped s).op.lastRow = s.op.lastRow := by
  refine ⟨?_, ?_, ?_, ?_, ?_, ?_, ?_, ?_, ?_, ?_, ?_, ?_, ?_, ?_, ?_, ?_, ?_⟩ <;> simp [enterStopped]

@[simp] theorem flushStopped_frame (s : State) :
    (flushStopped s).fa = s.fa ∧ (flushStopped s).cp = s.cp ∧
    (flushStopped s).pending = s.pending ∧ (flushStopped s).cu.agreed = s.cu.agreed ∧
    (flushStopped s).cu.heard = s.cu.heard ∧ (flushStopped s).cu.foundingBar = s.cu.foundingBar ∧
    (flushStopped s).lb.newestBegun = s.lb.newestBegun ∧
    (flushStopped s).lb.lastEnded = s.lb.lastEnded ∧
    (flushStopped s).lb.lastBegun = s.lb.lastBegun ∧
    (flushStopped s).lb.lastRequested = s.lb.lastRequested ∧
    (flushStopped s).sc.bankA = s.sc.bankA ∧ (flushStopped s).sc.bankB = s.sc.bankB ∧
    (flushStopped s).sc.staging = s.sc.staging ∧ (flushStopped s).sc.commit = s.sc.commit ∧
    (flushStopped s).op.lastAnswer = s.op.lastAnswer ∧
    (flushStopped s).op.lastAsked = s.op.lastAsked ∧
    (flushStopped s).op.lastRow = s.op.lastRow := by
  refine ⟨?_, ?_, ?_, ?_, ?_, ?_, ?_, ?_, ?_, ?_, ?_, ?_, ?_, ?_, ?_, ?_, ?_⟩ <;> simp [flushStopped]

@[simp] theorem isolate_frame (s : State) :
    (isolate s).fa = s.fa ∧ (isolate s).pending = s.pending ∧
    (isolate s).cu.agreed = s.cu.agreed ∧ (isolate s).cu.heard = s.cu.heard ∧
    (isolate s).cu.foundingBar = s.cu.foundingBar ∧
    (isolate s).lb.newestBegun = s.lb.newestBegun ∧ (isolate s).lb.lastEnded = s.lb.lastEnded ∧
    (isolate s).lb.lastBegun = s.lb.lastBegun ∧
    (isolate s).lb.lastRequested = s.lb.lastRequested ∧ (isolate s).sc.bankA = s.sc.bankA ∧
    (isolate s).sc.bankB = s.sc.bankB ∧ (isolate s).sc.staging = s.sc.staging ∧
    (isolate s).sc.commit = s.sc.commit ∧ (isolate s).op.lastAnswer = s.op.lastAnswer ∧
    (isolate s).op.lastAsked = s.op.lastAsked ∧ (isolate s).op.lastRow = s.op.lastRow ∧
    (isolate s).cp.config = s.cp.config ∧ (isolate s).cp.lock = s.cp.lock ∧
    (isolate s).cp.digest = s.cp.digest ∧ (isolate s).cp.station = s.cp.station ∧
    (isolate s).cp.ownership = s.cp.ownership ∧ (isolate s).cp.result = s.cp.result ∧
    (isolate s).cp.dataOut = s.cp.dataOut ∧ (isolate s).cp.enables = s.cp.enables ∧
    (isolate s).cp.totals = s.cp.totals ∧ (isolate s).cp.resetHeld = s.cp.resetHeld := by
  refine ⟨?_, ?_, ?_, ?_, ?_, ?_, ?_, ?_, ?_, ?_, ?_, ?_, ?_, ?_, ?_, ?_, ?_, ?_, ?_, ?_, ?_, ?_, ?_, ?_, ?_, ?_⟩ <;> (unfold isolate; (repeat' split) <;> simp)

@[simp] theorem enterLeaving_frame (s : State) :
    (enterLeaving s).li = s.li ∧ (enterLeaving s).fs = s.fs ∧ (enterLeaving s).fa = s.fa ∧
    (enterLeaving s).lb = s.lb ∧ (enterLeaving s).op = s.op ∧ (enterLeaving s).cp = s.cp ∧
    (enterLeaving s).pending = s.pending ∧ (enterLeaving s).cu.agreed = s.cu.agreed ∧
    (enterLeaving s).cu.heard = s.cu.heard ∧ (enterLeaving s).cu.foundingBar = s.cu.foundingBar ∧
    (enterLeaving s).cu.listenCount = s.cu.listenCount ∧
    (enterLeaving s).pli.attached = s.pli.attached ∧
    (enterLeaving s).pli.urgentAttempts = s.pli.urgentAttempts ∧
    (enterLeaving s).pli.urgentDiscards = s.pli.urgentDiscards ∧
    (enterLeaving s).pli.idleMonitor = s.pli.idleMonitor ∧
    (enterLeaving s).pli.tx.isSome = s.pli.tx.isSome ∧ (enterLeaving s).hx.timer = s.hx.timer ∧
    (enterLeaving s).sc.outgoing = s.sc.outgoing ∧ (enterLeaving s).sc.bankA = s.sc.bankA ∧
    (enterLeaving s).sc.bankB = s.sc.bankB ∧ (enterLeaving s).sc.staging = s.sc.staging ∧
    (enterLeaving s).sc.commit = s.sc.commit := by
  refine ⟨?_, ?_, ?_, ?_, ?_, ?_, ?_, ?_, ?_, ?_, ?_, ?_, ?_, ?_, ?_, ?_, ?_, ?_, ?_, ?_, ?_, ?_⟩ <;> simp [enterLeaving]

@[simp] theorem stopStation_frame (s : State) :
    (stopStation s).fa = s.fa ∧ (stopStation s).cp = s.cp ∧ (stopStation s).pending = s.pending ∧
    (stopStation s).cu.agreed = s.cu.agreed ∧ (stopStation s).cu.heard = s.cu.heard ∧
    (stopStation s).cu.foundingBar = s.cu.foundingBar ∧
    (stopStation s).lb.newestBegun = s.lb.newestBegun ∧
    (stopStation s).lb.lastEnded = s.lb.lastEnded ∧
    (stopStation s).lb.lastBegun = s.lb.lastBegun ∧
    (stopStation s).lb.lastRequested = s.lb.lastRequested ∧
    (stopStation s).sc.bankA = s.sc.bankA ∧ (stopStation s).sc.bankB = s.sc.bankB ∧
    (stopStation s).sc.staging = s.sc.staging ∧ (stopStation s).sc.commit = s.sc.commit ∧
    (stopStation s).op.lastAnswer = s.op.lastAnswer ∧
    (stopStation s).op.lastAsked = s.op.lastAsked ∧
    (stopStation s).op.lastRow = s.op.lastRow := by
  refine ⟨?_, ?_, ?_, ?_, ?_, ?_, ?_, ?_, ?_, ?_, ?_, ?_, ?_, ?_, ?_, ?_, ?_⟩ <;> (unfold stopStation; (repeat' split) <;> simp)

@[simp] theorem detachReported_frame (s : State) :
    (detachReported s).fa = s.fa ∧ (detachReported s).pending = s.pending ∧
    (detachReported s).cu.agreed = s.cu.agreed ∧ (detachReported s).cu.heard = s.cu.heard ∧
    (detachReported s).cu.foundingBar = s.cu.foundingBar ∧
    (detachReported s).lb.newestBegun = s.lb.newestBegun ∧
    (detachReported s).lb.lastEnded = s.lb.lastEnded ∧
    (detachReported s).lb.lastBegun = s.lb.lastBegun ∧
    (detachReported s).lb.lastRequested = s.lb.lastRequested ∧
    (detachReported s).sc.bankA = s.sc.bankA ∧ (detachReported s).sc.bankB = s.sc.bankB ∧
    (detachReported s).sc.staging = s.sc.staging ∧ (detachReported s).sc.commit = s.sc.commit ∧
    (detachReported s).op.lastAnswer = s.op.lastAnswer ∧
    (detachReported s).op.lastAsked = s.op.lastAsked ∧
    (detachReported s).op.lastRow = s.op.lastRow ∧ (detachReported s).cp.config = s.cp.config ∧
    (detachReported s).cp.lock = s.cp.lock ∧ (detachReported s).cp.digest = s.cp.digest ∧
    (detachReported s).cp.station = s.cp.station ∧
    (detachReported s).cp.ownership = s.cp.ownership ∧
    (detachReported s).cp.result = s.cp.result ∧ (detachReported s).cp.dataOut = s.cp.dataOut ∧
    (detachReported s).cp.enables = s.cp.enables ∧ (detachReported s).cp.totals = s.cp.totals ∧
    (detachReported s).cp.resetHeld = s.cp.resetHeld := by
  refine ⟨?_, ?_, ?_, ?_, ?_, ?_, ?_, ?_, ?_, ?_, ?_, ?_, ?_, ?_, ?_, ?_, ?_, ?_, ?_, ?_, ?_, ?_, ?_, ?_, ?_, ?_⟩ <;> simp [detachReported]

@[simp] theorem withdrawSnapshots_frame (s : State) (g : List Station) :
    (withdrawSnapshots g s).li = s.li ∧ (withdrawSnapshots g s).fs = s.fs ∧
    (withdrawSnapshots g s).fa = s.fa ∧ (withdrawSnapshots g s).cu = s.cu ∧
    (withdrawSnapshots g s).lb = s.lb ∧ (withdrawSnapshots g s).sc = s.sc ∧
    (withdrawSnapshots g s).op = s.op ∧ (withdrawSnapshots g s).cp = s.cp ∧
    (withdrawSnapshots g s).freeCount = s.freeCount ∧
    (withdrawSnapshots g s).pending = s.pending ∧
    (withdrawSnapshots g s).pli.attached = s.pli.attached ∧
    (withdrawSnapshots g s).pli.bulk = s.pli.bulk ∧
    (withdrawSnapshots g s).pli.urgentDiscards = s.pli.urgentDiscards ∧
    (withdrawSnapshots g s).pli.idleMonitor = s.pli.idleMonitor ∧
    (withdrawSnapshots g s).pli.tx.isSome = s.pli.tx.isSome ∧
    (withdrawSnapshots g s).hx.upperSide = s.hx.upperSide ∧
    (withdrawSnapshots g s).hx.lowerSide = s.hx.lowerSide ∧
    (withdrawSnapshots g s).hx.timer = s.hx.timer := by
  exact ⟨by (unfold withdrawSnapshots; exact keeps_foldl (fun t : State => t.li) _ (by intros; simp) _ _),
    by (unfold withdrawSnapshots; exact keeps_foldl (fun t : State => t.fs) _ (by intros; simp) _ _),
    by (unfold withdrawSnapshots; exact keeps_foldl (fun t : State => t.fa) _ (by intros; simp) _ _),
    by (unfold withdrawSnapshots; exact keeps_foldl (fun t : State => t.cu) _ (by intros; simp) _ _),
    by (unfold withdrawSnapshots; exact keeps_foldl (fun t : State => t.lb) _ (by intros; simp) _ _),
    by (unfold withdrawSnapshots; exact keeps_foldl (fun t : State => t.sc) _ (by intros; simp) _ _),
    by (unfold withdrawSnapshots; exact keeps_foldl (fun t : State => t.op) _ (by intros; simp) _ _),
    by (unfold withdrawSnapshots; exact keeps_foldl (fun t : State => t.cp) _ (by intros; simp) _ _),
    by (unfold withdrawSnapshots; exact keeps_foldl (fun t : State => t.freeCount) _ (by intros; simp) _ _),
    by (unfold withdrawSnapshots; exact keeps_foldl (fun t : State => t.pending) _ (by intros; simp) _ _),
    by (unfold withdrawSnapshots; exact keeps_foldl (fun t : State => t.pli.attached) _ (by intros; simp) _ _),
    by (unfold withdrawSnapshots; exact keeps_foldl (fun t : State => t.pli.bulk) _ (by intros; simp) _ _),
    by (unfold withdrawSnapshots; exact keeps_foldl (fun t : State => t.pli.urgentDiscards) _ (by intros; simp) _ _),
    by (unfold withdrawSnapshots; exact keeps_foldl (fun t : State => t.pli.idleMonitor) _ (by intros; simp) _ _),
    by (unfold withdrawSnapshots; exact keeps_foldl (fun t : State => t.pli.tx.isSome) _ (by intros; simp) _ _),
    by (unfold withdrawSnapshots; exact keeps_foldl (fun t : State => t.hx.upperSide) _ (by intros; simp) _ _),
    by (unfold withdrawSnapshots; exact keeps_foldl (fun t : State => t.hx.lowerSide) _ (by intros; simp) _ _),
    by (unfold withdrawSnapshots; exact keeps_foldl (fun t : State => t.hx.timer) _ (by intros; simp) _ _)⟩

@[simp] theorem countClosure_frame (s : State) (k : ClosureKind) :
    (countClosure k s).li = s.li ∧ (countClosure k s).fs = s.fs ∧ (countClosure k s).fa = s.fa ∧
    (countClosure k s).pli = s.pli ∧ (countClosure k s).lb = s.lb ∧
    (countClosure k s).hx = s.hx ∧ (countClosure k s).sc = s.sc ∧ (countClosure k s).op = s.op ∧
    (countClosure k s).cp = s.cp ∧ (countClosure k s).freeCount = s.freeCount ∧
    (countClosure k s).pending = s.pending ∧ (countClosure k s).cu.membership = s.cu.membership ∧
    (countClosure k s).cu.agreed = s.cu.agreed ∧ (countClosure k s).cu.heard = s.cu.heard ∧
    (countClosure k s).cu.foundingBar = s.cu.foundingBar ∧
    (countClosure k s).cu.listenCount = s.cu.listenCount ∧
    (countClosure k s).cu.timers = s.cu.timers ∧
    (countClosure k s).cu.heldExpiries = s.cu.heldExpiries ∧
    (countClosure k s).cu.owedCloses = s.cu.owedCloses := by
  refine ⟨?_, ?_, ?_, ?_, ?_, ?_, ?_, ?_, ?_, ?_, ?_, ?_, ?_, ?_, ?_, ?_, ?_, ?_, ?_⟩ <;> (unfold countClosure; (repeat' split) <;> simp)

@[simp] theorem roundClosedHere_frame (s : State) (n : FieldNo) :
    (roundClosedHere n s).li = s.li ∧ (roundClosedHere n s).fs = s.fs ∧
    (roundClosedHere n s).fa = s.fa ∧ (roundClosedHere n s).lb = s.lb ∧
    (roundClosedHere n s).sc = s.sc ∧ (roundClosedHere n s).op = s.op ∧
    (roundClosedHere n s).cp = s.cp ∧ (roundClosedHere n s).freeCount = s.freeCount ∧
    (roundClosedHere n s).pending = s.pending ∧
    (roundClosedHere n s).cu.membership = s.cu.membership ∧
    (roundClosedHere n s).cu.agreed = s.cu.agreed ∧ (roundClosedHere n s).cu.heard = s.cu.heard ∧
    (roundClosedHere n s).cu.foundingBar = s.cu.foundingBar ∧
    (roundClosedHere n s).cu.listenCount = s.cu.listenCount ∧
    (roundClosedHere n s).pli.attached = s.pli.attached ∧
    (roundClosedHere n s).pli.bulk = s.pli.bulk ∧
    (roundClosedHere n s).pli.urgentDiscards = s.pli.urgentDiscards ∧
    (roundClosedHere n s).pli.idleMonitor = s.pli.idleMonitor ∧
    (roundClosedHere n s).pli.tx.isSome = s.pli.tx.isSome ∧
    (roundClosedHere n s).hx.upperSide = s.hx.upperSide ∧
    (roundClosedHere n s).hx.lowerSide = s.hx.lowerSide ∧
    (roundClosedHere n s).hx.timer = s.hx.timer := by
  refine ⟨?_, ?_, ?_, ?_, ?_, ?_, ?_, ?_, ?_, ?_, ?_, ?_, ?_, ?_, ?_, ?_, ?_, ?_, ?_, ?_, ?_, ?_⟩ <;> simp [roundClosedHere]

@[simp] theorem doAct_frame (s : State) (a : Act) :
    (doAct s a).li = s.li ∧ (doAct s a).fs = s.fs ∧ (doAct s a).fa = s.fa ∧
    (doAct s a).op = s.op ∧ (doAct s a).freeCount = s.freeCount ∧
    (doAct s a).pending = s.pending ∧ (doAct s a).cu.membership = s.cu.membership ∧
    (doAct s a).cu.agreed = s.cu.agreed ∧ (doAct s a).cu.heard = s.cu.heard ∧
    (doAct s a).cu.foundingBar = s.cu.foundingBar ∧
    (doAct s a).cu.listenCount = s.cu.listenCount ∧ (doAct s a).pli.attached = s.pli.attached ∧
    (doAct s a).pli.bulk = s.pli.bulk ∧ (doAct s a).pli.urgentDiscards = s.pli.urgentDiscards ∧
    (doAct s a).pli.idleMonitor = s.pli.idleMonitor ∧
    (doAct s a).pli.tx.isSome = s.pli.tx.isSome ∧ (doAct s a).lb.build = s.lb.build ∧
    (doAct s a).lb.frames = s.lb.frames ∧ (doAct s a).lb.newestBegun = s.lb.newestBegun ∧
    (doAct s a).lb.lastEnded = s.lb.lastEnded ∧ (doAct s a).lb.lastBegun = s.lb.lastBegun ∧
    (doAct s a).lb.lastRequested = s.lb.lastRequested ∧
    (doAct s a).hx.upperSide = s.hx.upperSide ∧ (doAct s a).hx.lowerSide = s.hx.lowerSide ∧
    (doAct s a).hx.timer = s.hx.timer ∧ (doAct s a).sc.scaling = s.sc.scaling ∧
    (doAct s a).sc.bankA = s.sc.bankA ∧ (doAct s a).sc.bankB = s.sc.bankB ∧
    (doAct s a).sc.staging = s.sc.staging ∧ (doAct s a).sc.commit = s.sc.commit ∧
    (doAct s a).cp.config = s.cp.config ∧ (doAct s a).cp.lock = s.cp.lock ∧
    (doAct s a).cp.digest = s.cp.digest ∧ (doAct s a).cp.station = s.cp.station ∧
    (doAct s a).cp.ownership = s.cp.ownership ∧ (doAct s a).cp.result = s.cp.result ∧
    (doAct s a).cp.dataOut = s.cp.dataOut ∧ (doAct s a).cp.enables = s.cp.enables ∧
    (doAct s a).cp.resetHeld = s.cp.resetHeld := by
  refine ⟨?_, ?_, ?_, ?_, ?_, ?_, ?_, ?_, ?_, ?_, ?_, ?_, ?_, ?_, ?_, ?_, ?_, ?_, ?_, ?_, ?_, ?_, ?_, ?_, ?_, ?_, ?_, ?_, ?_, ?_, ?_, ?_, ?_, ?_, ?_, ?_, ?_, ?_, ?_⟩ <;> (unfold doAct; (repeat' split) <;> simp)

@[simp] theorem checkOwnEntry_frame (s : State) (g : List Station) :
    (checkOwnEntry g s).fa = s.fa ∧ (checkOwnEntry g s).pending = s.pending ∧
    (checkOwnEntry g s).cu.agreed = s.cu.agreed ∧ (checkOwnEntry g s).cu.heard = s.cu.heard ∧
    (checkOwnEntry g s).cu.foundingBar = s.cu.foundingBar ∧
    (checkOwnEntry g s).lb.newestBegun = s.lb.newestBegun ∧
    (checkOwnEntry g s).lb.lastEnded = s.lb.lastEnded ∧
    (checkOwnEntry g s).lb.lastBegun = s.lb.lastBegun ∧
    (checkOwnEntry g s).lb.lastRequested = s.lb.lastRequested ∧
    (checkOwnEntry g s).sc.bankA = s.sc.bankA ∧ (checkOwnEntry g s).sc.bankB = s.sc.bankB ∧
    (checkOwnEntry g s).sc.staging = s.sc.staging ∧ (checkOwnEntry g s).sc.commit = s.sc.commit ∧
    (checkOwnEntry g s).op.lastAnswer = s.op.lastAnswer ∧
    (checkOwnEntry g s).op.lastAsked = s.op.lastAsked ∧
    (checkOwnEntry g s).op.lastRow = s.op.lastRow ∧ (checkOwnEntry g s).cp.config = s.cp.config ∧
    (checkOwnEntry g s).cp.lock = s.cp.lock ∧ (checkOwnEntry g s).cp.digest = s.cp.digest ∧
    (checkOwnEntry g s).cp.station = s.cp.station ∧
    (checkOwnEntry g s).cp.ownership = s.cp.ownership ∧
    (checkOwnEntry g s).cp.result = s.cp.result ∧ (checkOwnEntry g s).cp.dataOut = s.cp.dataOut ∧
    (checkOwnEntry g s).cp.enables = s.cp.enables ∧ (checkOwnEntry g s).cp.totals = s.cp.totals ∧
    (checkOwnEntry g s).cp.resetHeld = s.cp.resetHeld := by
  refine ⟨?_, ?_, ?_, ?_, ?_, ?_, ?_, ?_, ?_, ?_, ?_, ?_, ?_, ?_, ?_, ?_, ?_, ?_, ?_, ?_, ?_, ?_, ?_, ?_, ?_, ?_⟩ <;> (unfold checkOwnEntry; (repeat' split) <;> simp)

@[simp] theorem recordHeard_frame (s : State) (o : Bool) (n : Station) (b : Bool) :
    (recordHeard o n b s).li = s.li ∧ (recordHeard o n b s).fs = s.fs ∧
    (recordHeard o n b s).fa = s.fa ∧ (recordHeard o n b s).pli = s.pli ∧
    (recordHeard o n b s).lb = s.lb ∧ (recordHeard o n b s).hx = s.hx ∧
    (recordHeard o n b s).sc = s.sc ∧ (recordHeard o n b s).op = s.op ∧
    (recordHeard o n b s).cp = s.cp ∧ (recordHeard o n b s).freeCount = s.freeCount ∧
    (recordHeard o n b s).pending = s.pending ∧
    (recordHeard o n b s).cu.membership = s.cu.membership ∧
    (recordHeard o n b s).cu.agreed = s.cu.agreed ∧
    (recordHeard o n b s).cu.listenCount = s.cu.listenCount ∧
    (recordHeard o n b s).cu.timers = s.cu.timers ∧
    (recordHeard o n b s).cu.heldExpiries = s.cu.heldExpiries ∧
    (recordHeard o n b s).cu.owedCloses = s.cu.owedCloses := by
  refine ⟨?_, ?_, ?_, ?_, ?_, ?_, ?_, ?_, ?_, ?_, ?_, ?_, ?_, ?_, ?_, ?_, ?_⟩ <;> (unfold recordHeard; (repeat' split) <;> simp)

@[simp] theorem sendSnapshot_frame (s : State) (n : Station) :
    (sendSnapshot n s).li = s.li ∧ (sendSnapshot n s).fs = s.fs ∧ (sendSnapshot n s).fa = s.fa ∧
    (sendSnapshot n s).cu = s.cu ∧ (sendSnapshot n s).lb = s.lb ∧ (sendSnapshot n s).sc = s.sc ∧
    (sendSnapshot n s).op = s.op ∧ (sendSnapshot n s).cp = s.cp ∧
    (sendSnapshot n s).freeCount = s.freeCount ∧ (sendSnapshot n s).pending = s.pending ∧
    (sendSnapshot n s).pli.attached = s.pli.attached ∧ (sendSnapshot n s).pli.bulk = s.pli.bulk ∧
    (sendSnapshot n s).pli.urgentDiscards = s.pli.urgentDiscards ∧
    (sendSnapshot n s).pli.idleMonitor = s.pli.idleMonitor ∧
    (sendSnapshot n s).pli.tx.isSome = s.pli.tx.isSome ∧
    (sendSnapshot n s).hx.upperSide = s.hx.upperSide ∧
    (sendSnapshot n s).hx.lowerSide = s.hx.lowerSide ∧
    (sendSnapshot n s).hx.timer = s.hx.timer := by
  refine ⟨?_, ?_, ?_, ?_, ?_, ?_, ?_, ?_, ?_, ?_, ?_, ?_, ?_, ?_, ?_, ?_, ?_, ?_⟩ <;> (unfold sendSnapshot; (repeat' split) <;> simp)

@[simp] theorem markHanded_frame (s : State) (n : FieldNo) :
    (markHanded n s).li = s.li ∧ (markHanded n s).fs = s.fs ∧ (markHanded n s).fa = s.fa ∧
    (markHanded n s).pli = s.pli ∧ (markHanded n s).lb = s.lb ∧ (markHanded n s).hx = s.hx ∧
    (markHanded n s).sc = s.sc ∧ (markHanded n s).op = s.op ∧ (markHanded n s).cp = s.cp ∧
    (markHanded n s).freeCount = s.freeCount ∧ (markHanded n s).pending = s.pending ∧
    (markHanded n s).cu.membership = s.cu.membership ∧ (markHanded n s).cu.agreed = s.cu.agreed ∧
    (markHanded n s).cu.heard = s.cu.heard ∧ (markHanded n s).cu.foundingBar = s.cu.foundingBar ∧
    (markHanded n s).cu.listenCount = s.cu.listenCount ∧
    (markHanded n s).cu.heldExpiries = s.cu.heldExpiries ∧
    (markHanded n s).cu.owedCloses = s.cu.owedCloses := by
  refine ⟨?_, ?_, ?_, ?_, ?_, ?_, ?_, ?_, ?_, ?_, ?_, ?_, ?_, ?_, ?_, ?_, ?_, ?_⟩ <;> rfl

@[simp] theorem releaseHeld_frame (s : State) (n : FieldNo) :
    (releaseHeld n s).li = s.li ∧ (releaseHeld n s).fs = s.fs ∧ (releaseHeld n s).fa = s.fa ∧
    (releaseHeld n s).lb = s.lb ∧ (releaseHeld n s).hx = s.hx ∧ (releaseHeld n s).sc = s.sc ∧
    (releaseHeld n s).op = s.op ∧ (releaseHeld n s).cp = s.cp ∧
    (releaseHeld n s).freeCount = s.freeCount ∧ (releaseHeld n s).pending = s.pending ∧
    (releaseHeld n s).cu.membership = s.cu.membership ∧
    (releaseHeld n s).cu.agreed = s.cu.agreed ∧ (releaseHeld n s).cu.heard = s.cu.heard ∧
    (releaseHeld n s).cu.foundingBar = s.cu.foundingBar ∧
    (releaseHeld n s).cu.listenCount = s.cu.listenCount ∧
    (releaseHeld n s).cu.timers = s.cu.timers ∧ (releaseHeld n s).pli.attached = s.pli.attached ∧
    (releaseHeld n s).pli.bulk = s.pli.bulk ∧
    (releaseHeld n s).pli.urgentAttempts = s.pli.urgentAttempts ∧
    (releaseHeld n s).pli.urgentDiscards = s.pli.urgentDiscards ∧
    (releaseHeld n s).pli.tx = s.pli.tx ∧ (releaseHeld n s).pli.idleMonitor = s.pli.idleMonitor ∧
    (releaseHeld n s).pli.tx.isSome = s.pli.tx.isSome := by
  refine ⟨?_, ?_, ?_, ?_, ?_, ?_, ?_, ?_, ?_, ?_, ?_, ?_, ?_, ?_, ?_, ?_, ?_, ?_, ?_, ?_, ?_, ?_, ?_⟩ <;> (unfold releaseHeld; (repeat' split) <;> simp)

@[simp] theorem reportResult_frame (s : State) (n : FieldNo) (f : Option Figures) :
    (reportResult n f s).li = s.li ∧ (reportResult n f s).fs = s.fs ∧
    (reportResult n f s).fa = s.fa ∧ (reportResult n f s).lb = s.lb ∧
    (reportResult n f s).sc = s.sc ∧ (reportResult n f s).op = s.op ∧
    (reportResult n f s).cp = s.cp ∧ (reportResult n f s).freeCount = s.freeCount ∧
    (reportResult n f s).pending = s.pending ∧
    (reportResult n f s).cu.membership = s.cu.membership ∧
    (reportResult n f s).cu.agreed = s.cu.agreed ∧ (reportResult n f s).cu.heard = s.cu.heard ∧
    (reportResult n f s).cu.foundingBar = s.cu.foundingBar ∧
    (reportResult n f s).cu.listenCount = s.cu.listenCount ∧
    (reportResult n f s).cu.timers = s.cu.timers ∧
    (reportResult n f s).pli.attached = s.pli.attached ∧
    (reportResult n f s).pli.bulk = s.pli.bulk ∧
    (reportResult n f s).pli.urgentAttempts = s.pli.urgentAttempts ∧
    (reportResult n f s).pli.urgentDiscards = s.pli.urgentDiscards ∧
    (reportResult n f s).pli.tx = s.pli.tx ∧
    (reportResult n f s).pli.idleMonitor = s.pli.idleMonitor ∧
    (reportResult n f s).pli.tx.isSome = s.pli.tx.isSome ∧
    (reportResult n f s).hx.upperSide = s.hx.upperSide ∧
    (reportResult n f s).hx.lowerSide = s.hx.lowerSide ∧
    (reportResult n f s).hx.timer = s.hx.timer := by
  refine ⟨?_, ?_, ?_, ?_, ?_, ?_, ?_, ?_, ?_, ?_, ?_, ?_, ?_, ?_, ?_, ?_, ?_, ?_, ?_, ?_, ?_, ?_, ?_, ?_, ?_⟩ <;> (unfold reportResult; (repeat' split) <;> simp)

end Sys2Proof.Machine
end

