-- ==== Sys2Proof/Laws/FramesThree.lean ====
section
/-! SUPPORT. What each shared operation leaves unchanged, 
one lemma per operation, part 3 of 3: what a boundary, a take and a control access do around them. -/

set_option linter.unusedSimpArgs false

namespace Sys2Proof.Machine

@[simp] theorem handOver_frame (s : State) (n : FieldNo) (f : Option Figures) (c : Option Word16) :
    (handOver n f c s).li = s.li ∧ (handOver n f c s).lb = s.lb ∧ (handOver n f c s).sc = s.sc ∧
    (handOver n f c s).op = s.op ∧ (handOver n f c s).cp = s.cp ∧
    (handOver n f c s).freeCount = s.freeCount ∧ (handOver n f c s).pending = s.pending ∧
    (handOver n f c s).fa.pending = s.fa.pending ∧
    (handOver n f c s).cu.membership = s.cu.membership ∧
    (handOver n f c s).cu.agreed = s.cu.agreed ∧ (handOver n f c s).cu.heard = s.cu.heard ∧
    (handOver n f c s).cu.foundingBar = s.cu.foundingBar ∧
    (handOver n f c s).cu.listenCount = s.cu.listenCount ∧
    (handOver n f c s).pli.attached = s.pli.attached ∧ (handOver n f c s).pli.bulk = s.pli.bulk ∧
    (handOver n f c s).pli.urgentAttempts = s.pli.urgentAttempts ∧
    (handOver n f c s).pli.urgentDiscards = s.pli.urgentDiscards ∧
    (handOver n f c s).pli.tx = s.pli.tx ∧
    (handOver n f c s).pli.idleMonitor = s.pli.idleMonitor ∧
    (handOver n f c s).pli.tx.isSome = s.pli.tx.isSome ∧
    (handOver n f c s).hx.upperSide = s.hx.upperSide ∧
    (handOver n f c s).hx.lowerSide = s.hx.lowerSide ∧
    (handOver n f c s).hx.timer = s.hx.timer := by
  refine ⟨?_, ?_, ?_, ?_, ?_, ?_, ?_, ?_, ?_, ?_, ?_, ?_, ?_, ?_, ?_, ?_, ?_, ?_, ?_, ?_, ?_, ?_, ?_⟩ <;> simp [handOver]

@[simp] theorem handOverHead_frame (s : State) :
    (handOverHead s).li = s.li ∧ (handOverHead s).lb = s.lb ∧ (handOverHead s).sc = s.sc ∧
    (handOverHead s).op = s.op ∧ (handOverHead s).cp = s.cp ∧
    (handOverHead s).freeCount = s.freeCount ∧ (handOverHead s).pending = s.pending ∧
    (handOverHead s).cu.membership = s.cu.membership ∧ (handOverHead s).cu.agreed = s.cu.agreed ∧
    (handOverHead s).cu.heard = s.cu.heard ∧ (handOverHead s).cu.foundingBar = s.cu.foundingBar ∧
    (handOverHead s).cu.listenCount = s.cu.listenCount ∧
    (handOverHead s).pli.attached = s.pli.attached ∧ (handOverHead s).pli.bulk = s.pli.bulk ∧
    (handOverHead s).pli.urgentAttempts = s.pli.urgentAttempts ∧
    (handOverHead s).pli.urgentDiscards = s.pli.urgentDiscards ∧
    (handOverHead s).pli.tx = s.pli.tx ∧ (handOverHead s).pli.idleMonitor = s.pli.idleMonitor ∧
    (handOverHead s).pli.tx.isSome = s.pli.tx.isSome ∧
    (handOverHead s).hx.upperSide = s.hx.upperSide ∧
    (handOverHead s).hx.lowerSide = s.hx.lowerSide ∧ (handOverHead s).hx.timer = s.hx.timer := by
  refine ⟨?_, ?_, ?_, ?_, ?_, ?_, ?_, ?_, ?_, ?_, ?_, ?_, ?_, ?_, ?_, ?_, ?_, ?_, ?_, ?_, ?_, ?_⟩ <;> (unfold handOverHead; (repeat' split) <;> simp)

@[simp] theorem closeSlot_frame (s : State) (i : Nat) (d : Option Nat) :
    (closeSlot i d s).li = s.li ∧ (closeSlot i d s).fa = s.fa ∧ (closeSlot i d s).cu = s.cu ∧
    (closeSlot i d s).pli = s.pli ∧ (closeSlot i d s).lb = s.lb ∧ (closeSlot i d s).hx = s.hx ∧
    (closeSlot i d s).sc = s.sc ∧ (closeSlot i d s).op = s.op ∧
    (closeSlot i d s).freeCount = s.freeCount ∧ (closeSlot i d s).pending = s.pending ∧
    (closeSlot i d s).cp.config = s.cp.config ∧ (closeSlot i d s).cp.lock = s.cp.lock ∧
    (closeSlot i d s).cp.digest = s.cp.digest ∧ (closeSlot i d s).cp.station = s.cp.station ∧
    (closeSlot i d s).cp.ownership = s.cp.ownership ∧ (closeSlot i d s).cp.result = s.cp.result ∧
    (closeSlot i d s).cp.dataOut = s.cp.dataOut ∧ (closeSlot i d s).cp.events = s.cp.events ∧
    (closeSlot i d s).cp.enables = s.cp.enables ∧
    (closeSlot i d s).cp.resetHeld = s.cp.resetHeld := by
  refine ⟨?_, ?_, ?_, ?_, ?_, ?_, ?_, ?_, ?_, ?_, ?_, ?_, ?_, ?_, ?_, ?_, ?_, ?_, ?_, ?_⟩ <;> rfl

@[simp] theorem analyseField_frame (s : State) (f : FieldNo) (sl : Option Nat) :
    (analyseField f sl s).li = s.li ∧ (analyseField f sl s).lb = s.lb ∧
    (analyseField f sl s).sc = s.sc ∧ (analyseField f sl s).op = s.op ∧
    (analyseField f sl s).cp = s.cp ∧ (analyseField f sl s).freeCount = s.freeCount ∧
    (analyseField f sl s).pending = s.pending ∧
    (analyseField f sl s).cu.membership = s.cu.membership ∧
    (analyseField f sl s).cu.agreed = s.cu.agreed ∧ (analyseField f sl s).cu.heard = s.cu.heard ∧
    (analyseField f sl s).cu.foundingBar = s.cu.foundingBar ∧
    (analyseField f sl s).cu.listenCount = s.cu.listenCount ∧
    (analyseField f sl s).pli.attached = s.pli.attached ∧
    (analyseField f sl s).pli.bulk = s.pli.bulk ∧
    (analyseField f sl s).pli.urgentAttempts = s.pli.urgentAttempts ∧
    (analyseField f sl s).pli.urgentDiscards = s.pli.urgentDiscards ∧
    (analyseField f sl s).pli.tx = s.pli.tx ∧
    (analyseField f sl s).pli.idleMonitor = s.pli.idleMonitor ∧
    (analyseField f sl s).pli.tx.isSome = s.pli.tx.isSome ∧
    (analyseField f sl s).hx.upperSide = s.hx.upperSide ∧
    (analyseField f sl s).hx.lowerSide = s.hx.lowerSide ∧
    (analyseField f sl s).hx.timer = s.hx.timer := by
  refine ⟨?_, ?_, ?_, ?_, ?_, ?_, ?_, ?_, ?_, ?_, ?_, ?_, ?_, ?_, ?_, ?_, ?_, ?_, ?_, ?_, ?_, ?_⟩ <;> (simp only [analyseField]; (repeat' split) <;> simp)

@[simp] theorem startTimer_frame (s : State) (n : FieldNo) :
    (startTimer n s).li = s.li ∧ (startTimer n s).fs = s.fs ∧ (startTimer n s).fa = s.fa ∧
    (startTimer n s).pli = s.pli ∧ (startTimer n s).lb = s.lb ∧ (startTimer n s).hx = s.hx ∧
    (startTimer n s).sc = s.sc ∧ (startTimer n s).op = s.op ∧ (startTimer n s).cp = s.cp ∧
    (startTimer n s).freeCount = s.freeCount ∧ (startTimer n s).pending = s.pending ∧
    (startTimer n s).cu.membership = s.cu.membership ∧ (startTimer n s).cu.agreed = s.cu.agreed ∧
    (startTimer n s).cu.heard = s.cu.heard ∧ (startTimer n s).cu.foundingBar = s.cu.foundingBar ∧
    (startTimer n s).cu.listenCount = s.cu.listenCount ∧
    (startTimer n s).cu.heldExpiries = s.cu.heldExpiries ∧
    (startTimer n s).cu.owedCloses = s.cu.owedCloses := by
  refine ⟨?_, ?_, ?_, ?_, ?_, ?_, ?_, ?_, ?_, ?_, ?_, ?_, ?_, ?_, ?_, ?_, ?_, ?_⟩ <;> (unfold startTimer; (repeat' split) <;> simp)

@[simp] theorem consensusEnd_frame (s : State) (f : FieldNo) :
    (consensusEnd f s).li = s.li ∧ (consensusEnd f s).fs = s.fs ∧ (consensusEnd f s).fa = s.fa ∧
    (consensusEnd f s).pli = s.pli ∧ (consensusEnd f s).lb = s.lb ∧
    (consensusEnd f s).hx = s.hx ∧ (consensusEnd f s).sc = s.sc ∧ (consensusEnd f s).op = s.op ∧
    (consensusEnd f s).cp = s.cp ∧ (consensusEnd f s).freeCount = s.freeCount ∧
    (consensusEnd f s).pending = s.pending ∧ (consensusEnd f s).cu.membership = s.cu.membership ∧
    (consensusEnd f s).cu.agreed = s.cu.agreed ∧ (consensusEnd f s).cu.heard = s.cu.heard ∧
    (consensusEnd f s).cu.foundingBar = s.cu.foundingBar ∧
    (consensusEnd f s).cu.heldExpiries = s.cu.heldExpiries ∧
    (consensusEnd f s).cu.owedCloses = s.cu.owedCloses := by
  refine ⟨?_, ?_, ?_, ?_, ?_, ?_, ?_, ?_, ?_, ?_, ?_, ?_, ?_, ?_, ?_, ?_, ?_⟩ <;> (unfold consensusEnd; (repeat' split) <;> simp)

@[simp] theorem handOnEnd_frame (s : State) (f : FieldNo) (sl : Option Nat) :
    (handOnEnd f sl s).li = s.li ∧ (handOnEnd f sl s).sc = s.sc ∧ (handOnEnd f sl s).op = s.op ∧
    (handOnEnd f sl s).cp = s.cp ∧ (handOnEnd f sl s).freeCount = s.freeCount ∧
    (handOnEnd f sl s).pending = s.pending ∧ (handOnEnd f sl s).cu.membership = s.cu.membership ∧
    (handOnEnd f sl s).cu.agreed = s.cu.agreed ∧ (handOnEnd f sl s).cu.heard = s.cu.heard ∧
    (handOnEnd f sl s).cu.foundingBar = s.cu.foundingBar ∧
    (handOnEnd f sl s).pli.attached = s.pli.attached ∧ (handOnEnd f sl s).pli.bulk = s.pli.bulk ∧
    (handOnEnd f sl s).pli.urgentAttempts = s.pli.urgentAttempts ∧
    (handOnEnd f sl s).pli.urgentDiscards = s.pli.urgentDiscards ∧
    (handOnEnd f sl s).pli.tx = s.pli.tx ∧
    (handOnEnd f sl s).pli.idleMonitor = s.pli.idleMonitor ∧
    (handOnEnd f sl s).pli.tx.isSome = s.pli.tx.isSome ∧
    (handOnEnd f sl s).lb.build = s.lb.build ∧ (handOnEnd f sl s).lb.decisions = s.lb.decisions ∧
    (handOnEnd f sl s).lb.newestBegun = s.lb.newestBegun ∧
    (handOnEnd f sl s).lb.lastBegun = s.lb.lastBegun ∧
    (handOnEnd f sl s).lb.lastRequested = s.lb.lastRequested ∧
    (handOnEnd f sl s).hx.upperSide = s.hx.upperSide ∧
    (handOnEnd f sl s).hx.lowerSide = s.hx.lowerSide ∧
    (handOnEnd f sl s).hx.timer = s.hx.timer := by
  refine ⟨?_, ?_, ?_, ?_, ?_, ?_, ?_, ?_, ?_, ?_, ?_, ?_, ?_, ?_, ?_, ?_, ?_, ?_, ?_, ?_, ?_, ?_, ?_, ?_, ?_⟩ <;> simp [handOnEnd]

@[simp] theorem endField_frame (s : State) (m : OpenField) (d : Option Nat) :
    (endField m d s).sc = s.sc ∧ (endField m d s).op = s.op ∧
    (endField m d s).freeCount = s.freeCount ∧ (endField m d s).pending = s.pending ∧
    (endField m d s).cu.membership = s.cu.membership ∧ (endField m d s).cu.agreed = s.cu.agreed ∧
    (endField m d s).cu.heard = s.cu.heard ∧ (endField m d s).cu.foundingBar = s.cu.foundingBar ∧
    (endField m d s).pli.attached = s.pli.attached ∧ (endField m d s).pli.bulk = s.pli.bulk ∧
    (endField m d s).pli.urgentAttempts = s.pli.urgentAttempts ∧
    (endField m d s).pli.urgentDiscards = s.pli.urgentDiscards ∧
    (endField m d s).pli.tx = s.pli.tx ∧ (endField m d s).pli.idleMonitor = s.pli.idleMonitor ∧
    (endField m d s).pli.tx.isSome = s.pli.tx.isSome ∧ (endField m d s).lb.build = s.lb.build ∧
    (endField m d s).lb.decisions = s.lb.decisions ∧
    (endField m d s).lb.newestBegun = s.lb.newestBegun ∧
    (endField m d s).lb.lastBegun = s.lb.lastBegun ∧
    (endField m d s).lb.lastRequested = s.lb.lastRequested ∧
    (endField m d s).hx.upperSide = s.hx.upperSide ∧
    (endField m d s).hx.lowerSide = s.hx.lowerSide ∧ (endField m d s).hx.timer = s.hx.timer ∧
    (endField m d s).cp.config = s.cp.config ∧ (endField m d s).cp.lock = s.cp.lock ∧
    (endField m d s).cp.digest = s.cp.digest ∧ (endField m d s).cp.station = s.cp.station ∧
    (endField m d s).cp.ownership = s.cp.ownership ∧ (endField m d s).cp.result = s.cp.result ∧
    (endField m d s).cp.dataOut = s.cp.dataOut ∧ (endField m d s).cp.events = s.cp.events ∧
    (endField m d s).cp.enables = s.cp.enables ∧
    (endField m d s).cp.resetHeld = s.cp.resetHeld := by
  refine ⟨?_, ?_, ?_, ?_, ?_, ?_, ?_, ?_, ?_, ?_, ?_, ?_, ?_, ?_, ?_, ?_, ?_, ?_, ?_, ?_, ?_, ?_, ?_, ?_, ?_, ?_, ?_, ?_, ?_, ?_, ?_, ?_, ?_⟩ <;> (unfold endField; (repeat' split) <;> simp)

@[simp] theorem fieldEndStep_frame (s : State) (f : FieldNo) (c : Nat) :
    (fieldEndStep f c s).sc = s.sc ∧ (fieldEndStep f c s).op = s.op ∧
    (fieldEndStep f c s).freeCount = s.freeCount ∧ (fieldEndStep f c s).pending = s.pending ∧
    (fieldEndStep f c s).cu.membership = s.cu.membership ∧
    (fieldEndStep f c s).cu.agreed = s.cu.agreed ∧ (fieldEndStep f c s).cu.heard = s.cu.heard ∧
    (fieldEndStep f c s).cu.foundingBar = s.cu.foundingBar ∧
    (fieldEndStep f c s).pli.attached = s.pli.attached ∧
    (fieldEndStep f c s).pli.bulk = s.pli.bulk ∧
    (fieldEndStep f c s).pli.urgentAttempts = s.pli.urgentAttempts ∧
    (fieldEndStep f c s).pli.urgentDiscards = s.pli.urgentDiscards ∧
    (fieldEndStep f c s).pli.tx = s.pli.tx ∧
    (fieldEndStep f c s).pli.idleMonitor = s.pli.idleMonitor ∧
    (fieldEndStep f c s).pli.tx.isSome = s.pli.tx.isSome ∧
    (fieldEndStep f c s).lb.build = s.lb.build ∧
    (fieldEndStep f c s).lb.decisions = s.lb.decisions ∧
    (fieldEndStep f c s).lb.newestBegun = s.lb.newestBegun ∧
    (fieldEndStep f c s).lb.lastBegun = s.lb.lastBegun ∧
    (fieldEndStep f c s).lb.lastRequested = s.lb.lastRequested ∧
    (fieldEndStep f c s).hx.upperSide = s.hx.upperSide ∧
    (fieldEndStep f c s).hx.lowerSide = s.hx.lowerSide ∧
    (fieldEndStep f c s).hx.timer = s.hx.timer ∧ (fieldEndStep f c s).cp.config = s.cp.config ∧
    (fieldEndStep f c s).cp.lock = s.cp.lock ∧ (fieldEndStep f c s).cp.digest = s.cp.digest ∧
    (fieldEndStep f c s).cp.station = s.cp.station ∧
    (fieldEndStep f c s).cp.ownership = s.cp.ownership ∧
    (fieldEndStep f c s).cp.result = s.cp.result ∧
    (fieldEndStep f c s).cp.dataOut = s.cp.dataOut ∧
    (fieldEndStep f c s).cp.events = s.cp.events ∧
    (fieldEndStep f c s).cp.enables = s.cp.enables ∧
    (fieldEndStep f c s).cp.resetHeld = s.cp.resetHeld := by
  refine ⟨?_, ?_, ?_, ?_, ?_, ?_, ?_, ?_, ?_, ?_, ?_, ?_, ?_, ?_, ?_, ?_, ?_, ?_, ?_, ?_, ?_, ?_, ?_, ?_, ?_, ?_, ?_, ?_, ?_, ?_, ?_, ?_, ?_⟩ <;> (unfold fieldEndStep; (repeat' split) <;> simp)

@[simp] theorem implicitEnd_frame (s : State) :
    (implicitEnd s).sc = s.sc ∧ (implicitEnd s).op = s.op ∧
    (implicitEnd s).freeCount = s.freeCount ∧ (implicitEnd s).pending = s.pending ∧
    (implicitEnd s).cu.membership = s.cu.membership ∧ (implicitEnd s).cu.agreed = s.cu.agreed ∧
    (implicitEnd s).cu.heard = s.cu.heard ∧ (implicitEnd s).cu.foundingBar = s.cu.foundingBar ∧
    (implicitEnd s).pli.attached = s.pli.attached ∧ (implicitEnd s).pli.bulk = s.pli.bulk ∧
    (implicitEnd s).pli.urgentAttempts = s.pli.urgentAttempts ∧
    (implicitEnd s).pli.urgentDiscards = s.pli.urgentDiscards ∧
    (implicitEnd s).pli.tx = s.pli.tx ∧ (implicitEnd s).pli.idleMonitor = s.pli.idleMonitor ∧
    (implicitEnd s).pli.tx.isSome = s.pli.tx.isSome ∧ (implicitEnd s).lb.build = s.lb.build ∧
    (implicitEnd s).lb.decisions = s.lb.decisions ∧
    (implicitEnd s).lb.newestBegun = s.lb.newestBegun ∧
    (implicitEnd s).lb.lastBegun = s.lb.lastBegun ∧
    (implicitEnd s).lb.lastRequested = s.lb.lastRequested ∧
    (implicitEnd s).hx.upperSide = s.hx.upperSide ∧
    (implicitEnd s).hx.lowerSide = s.hx.lowerSide ∧ (implicitEnd s).hx.timer = s.hx.timer ∧
    (implicitEnd s).cp.config = s.cp.config ∧ (implicitEnd s).cp.lock = s.cp.lock ∧
    (implicitEnd s).cp.digest = s.cp.digest ∧ (implicitEnd s).cp.station = s.cp.station ∧
    (implicitEnd s).cp.ownership = s.cp.ownership ∧ (implicitEnd s).cp.result = s.cp.result ∧
    (implicitEnd s).cp.dataOut = s.cp.dataOut ∧ (implicitEnd s).cp.events = s.cp.events ∧
    (implicitEnd s).cp.enables = s.cp.enables ∧
    (implicitEnd s).cp.resetHeld = s.cp.resetHeld := by
  refine ⟨?_, ?_, ?_, ?_, ?_, ?_, ?_, ?_, ?_, ?_, ?_, ?_, ?_, ?_, ?_, ?_, ?_, ?_, ?_, ?_, ?_, ?_, ?_, ?_, ?_, ?_, ?_, ?_, ?_, ?_, ?_, ?_, ?_⟩ <;> (unfold implicitEnd; (repeat' split) <;> simp)

@[simp] theorem discardField_frame (s : State) (f : FieldNo) (p : Parity) :
    (discardField f p s).fs = s.fs ∧ (discardField f p s).fa = s.fa ∧
    (discardField f p s).cu = s.cu ∧ (discardField f p s).pli = s.pli ∧
    (discardField f p s).lb = s.lb ∧ (discardField f p s).hx = s.hx ∧
    (discardField f p s).sc = s.sc ∧ (discardField f p s).op = s.op ∧
    (discardField f p s).freeCount = s.freeCount ∧ (discardField f p s).pending = s.pending ∧
    (discardField f p s).cp.config = s.cp.config ∧ (discardField f p s).cp.lock = s.cp.lock ∧
    (discardField f p s).cp.digest = s.cp.digest ∧
    (discardField f p s).cp.station = s.cp.station ∧
    (discardField f p s).cp.ownership = s.cp.ownership ∧
    (discardField f p s).cp.result = s.cp.result ∧
    (discardField f p s).cp.dataOut = s.cp.dataOut ∧
    (discardField f p s).cp.enables = s.cp.enables ∧
    (discardField f p s).cp.resetHeld = s.cp.resetHeld := by
  refine ⟨?_, ?_, ?_, ?_, ?_, ?_, ?_, ?_, ?_, ?_, ?_, ?_, ?_, ?_, ?_, ?_, ?_, ?_, ?_⟩ <;> rfl

@[simp] theorem openField_frame (s : State) (f : FieldNo) (p : Parity) :
    (openField f p s).fa = s.fa ∧ (openField f p s).cu = s.cu ∧ (openField f p s).pli = s.pli ∧
    (openField f p s).lb = s.lb ∧ (openField f p s).hx = s.hx ∧ (openField f p s).sc = s.sc ∧
    (openField f p s).op = s.op ∧ (openField f p s).freeCount = s.freeCount ∧
    (openField f p s).pending = s.pending ∧ (openField f p s).cp.config = s.cp.config ∧
    (openField f p s).cp.lock = s.cp.lock ∧ (openField f p s).cp.digest = s.cp.digest ∧
    (openField f p s).cp.station = s.cp.station ∧
    (openField f p s).cp.ownership = s.cp.ownership ∧ (openField f p s).cp.result = s.cp.result ∧
    (openField f p s).cp.dataOut = s.cp.dataOut ∧ (openField f p s).cp.enables = s.cp.enables ∧
    (openField f p s).cp.resetHeld = s.cp.resetHeld := by
  refine ⟨?_, ?_, ?_, ?_, ?_, ?_, ?_, ?_, ?_, ?_, ?_, ?_, ?_, ?_, ?_, ?_, ?_, ?_⟩ <;> (unfold openField; (repeat' split) <;> simp)

@[simp] theorem consensusBegin_frame (s : State) (g : FieldNo) :
    (consensusBegin g s).li = s.li ∧ (consensusBegin g s).fs = s.fs ∧
    (consensusBegin g s).fa = s.fa ∧ (consensusBegin g s).pli = s.pli ∧
    (consensusBegin g s).hx = s.hx ∧ (consensusBegin g s).sc = s.sc ∧
    (consensusBegin g s).op = s.op ∧ (consensusBegin g s).cp = s.cp ∧
    (consensusBegin g s).freeCount = s.freeCount ∧ (consensusBegin g s).pending = s.pending ∧
    (consensusBegin g s).cu.membership = s.cu.membership ∧
    (consensusBegin g s).cu.agreed = s.cu.agreed ∧ (consensusBegin g s).cu.heard = s.cu.heard ∧
    (consensusBegin g s).cu.foundingBar = s.cu.foundingBar ∧
    (consensusBegin g s).cu.listenCount = s.cu.listenCount ∧
    (consensusBegin g s).cu.timers = s.cu.timers ∧
    (consensusBegin g s).cu.heldExpiries = s.cu.heldExpiries ∧
    (consensusBegin g s).cu.owedCloses = s.cu.owedCloses ∧
    (consensusBegin g s).lb.build = s.lb.build ∧
    (consensusBegin g s).lb.decisions = s.lb.decisions ∧
    (consensusBegin g s).lb.newestBegun = s.lb.newestBegun ∧
    (consensusBegin g s).lb.lastEnded = s.lb.lastEnded ∧
    (consensusBegin g s).lb.lastBegun = s.lb.lastBegun ∧
    (consensusBegin g s).lb.lastRequested = s.lb.lastRequested := by
  refine ⟨?_, ?_, ?_, ?_, ?_, ?_, ?_, ?_, ?_, ?_, ?_, ?_, ?_, ?_, ?_, ?_, ?_, ?_, ?_, ?_, ?_, ?_, ?_, ?_⟩ <;> (unfold consensusBegin; (repeat' split) <;> simp)

@[simp] theorem fieldBeginStep_frame (s : State) (f : FieldNo) (p : Parity) :
    (fieldBeginStep f p s).sc = s.sc ∧ (fieldBeginStep f p s).op = s.op ∧
    (fieldBeginStep f p s).freeCount = s.freeCount ∧ (fieldBeginStep f p s).pending = s.pending ∧
    (fieldBeginStep f p s).cu.membership = s.cu.membership ∧
    (fieldBeginStep f p s).cu.agreed = s.cu.agreed ∧
    (fieldBeginStep f p s).cu.heard = s.cu.heard ∧
    (fieldBeginStep f p s).cu.foundingBar = s.cu.foundingBar ∧
    (fieldBeginStep f p s).pli.attached = s.pli.attached ∧
    (fieldBeginStep f p s).pli.bulk = s.pli.bulk ∧
    (fieldBeginStep f p s).pli.urgentAttempts = s.pli.urgentAttempts ∧
    (fieldBeginStep f p s).pli.urgentDiscards = s.pli.urgentDiscards ∧
    (fieldBeginStep f p s).pli.tx = s.pli.tx ∧
    (fieldBeginStep f p s).pli.idleMonitor = s.pli.idleMonitor ∧
    (fieldBeginStep f p s).pli.tx.isSome = s.pli.tx.isSome ∧
    (fieldBeginStep f p s).lb.build = s.lb.build ∧
    (fieldBeginStep f p s).lb.decisions = s.lb.decisions ∧
    (fieldBeginStep f p s).lb.lastBegun = s.lb.lastBegun ∧
    (fieldBeginStep f p s).lb.lastRequested = s.lb.lastRequested ∧
    (fieldBeginStep f p s).hx.upperSide = s.hx.upperSide ∧
    (fieldBeginStep f p s).hx.lowerSide = s.hx.lowerSide ∧
    (fieldBeginStep f p s).hx.timer = s.hx.timer ∧
    (fieldBeginStep f p s).cp.config = s.cp.config ∧ (fieldBeginStep f p s).cp.lock = s.cp.lock ∧
    (fieldBeginStep f p s).cp.digest = s.cp.digest ∧
    (fieldBeginStep f p s).cp.station = s.cp.station ∧
    (fieldBeginStep f p s).cp.ownership = s.cp.ownership ∧
    (fieldBeginStep f p s).cp.result = s.cp.result ∧
    (fieldBeginStep f p s).cp.dataOut = s.cp.dataOut ∧
    (fieldBeginStep f p s).cp.enables = s.cp.enables ∧
    (fieldBeginStep f p s).cp.resetHeld = s.cp.resetHeld := by
  refine ⟨?_, ?_, ?_, ?_, ?_, ?_, ?_, ?_, ?_, ?_, ?_, ?_, ?_, ?_, ?_, ?_, ?_, ?_, ?_, ?_, ?_, ?_, ?_, ?_, ?_, ?_, ?_, ?_, ?_, ?_, ?_⟩ <;> simp [fieldBeginStep]

@[simp] theorem countStray_frame (s : State) :
    (countStray s).li = s.li ∧ (countStray s).fs = s.fs ∧ (countStray s).fa = s.fa ∧
    (countStray s).cu = s.cu ∧ (countStray s).pli = s.pli ∧ (countStray s).lb = s.lb ∧
    (countStray s).hx = s.hx ∧ (countStray s).sc = s.sc ∧ (countStray s).op = s.op ∧
    (countStray s).freeCount = s.freeCount ∧ (countStray s).pending = s.pending ∧
    (countStray s).cp.config = s.cp.config ∧ (countStray s).cp.lock = s.cp.lock ∧
    (countStray s).cp.digest = s.cp.digest ∧ (countStray s).cp.station = s.cp.station ∧
    (countStray s).cp.ownership = s.cp.ownership ∧ (countStray s).cp.result = s.cp.result ∧
    (countStray s).cp.dataOut = s.cp.dataOut ∧ (countStray s).cp.events = s.cp.events ∧
    (countStray s).cp.enables = s.cp.enables ∧ (countStray s).cp.resetHeld = s.cp.resetHeld := by
  refine ⟨?_, ?_, ?_, ?_, ?_, ?_, ?_, ?_, ?_, ?_, ?_, ?_, ?_, ?_, ?_, ?_, ?_, ?_, ?_, ?_, ?_⟩ <;> rfl

@[simp] theorem countDuplicate_frame (s : State) :
    (countDuplicate s).fs = s.fs ∧ (countDuplicate s).fa = s.fa ∧ (countDuplicate s).cu = s.cu ∧
    (countDuplicate s).pli = s.pli ∧ (countDuplicate s).lb = s.lb ∧
    (countDuplicate s).hx = s.hx ∧ (countDuplicate s).sc = s.sc ∧ (countDuplicate s).op = s.op ∧
    (countDuplicate s).cp = s.cp ∧ (countDuplicate s).freeCount = s.freeCount ∧
    (countDuplicate s).pending = s.pending := by
  refine ⟨?_, ?_, ?_, ?_, ?_, ?_, ?_, ?_, ?_, ?_, ?_⟩ <;> rfl

@[simp] theorem keepRecord_frame (s : State) (i : Nat) (r : LineRecord) :
    (keepRecord i r s).fa = s.fa ∧ (keepRecord i r s).cu = s.cu ∧
    (keepRecord i r s).pli = s.pli ∧ (keepRecord i r s).lb = s.lb ∧
    (keepRecord i r s).hx = s.hx ∧ (keepRecord i r s).sc = s.sc ∧ (keepRecord i r s).op = s.op ∧
    (keepRecord i r s).cp = s.cp ∧ (keepRecord i r s).freeCount = s.freeCount ∧
    (keepRecord i r s).pending = s.pending := by
  refine ⟨?_, ?_, ?_, ?_, ?_, ?_, ?_, ?_, ?_, ?_⟩ <;> (unfold keepRecord; (repeat' split) <;> simp)

@[simp] theorem lineRecordStep_frame (s : State) (r : LineRecord) :
    (lineRecordStep r s).fa = s.fa ∧ (lineRecordStep r s).cu = s.cu ∧
    (lineRecordStep r s).pli = s.pli ∧ (lineRecordStep r s).lb = s.lb ∧
    (lineRecordStep r s).hx = s.hx ∧ (lineRecordStep r s).sc = s.sc ∧
    (lineRecordStep r s).op = s.op ∧ (lineRecordStep r s).freeCount = s.freeCount ∧
    (lineRecordStep r s).pending = s.pending ∧ (lineRecordStep r s).cp.config = s.cp.config ∧
    (lineRecordStep r s).cp.lock = s.cp.lock ∧ (lineRecordStep r s).cp.digest = s.cp.digest ∧
    (lineRecordStep r s).cp.station = s.cp.station ∧
    (lineRecordStep r s).cp.ownership = s.cp.ownership ∧
    (lineRecordStep r s).cp.result = s.cp.result ∧
    (lineRecordStep r s).cp.dataOut = s.cp.dataOut ∧
    (lineRecordStep r s).cp.events = s.cp.events ∧
    (lineRecordStep r s).cp.enables = s.cp.enables ∧
    (lineRecordStep r s).cp.resetHeld = s.cp.resetHeld := by
  refine ⟨?_, ?_, ?_, ?_, ?_, ?_, ?_, ?_, ?_, ?_, ?_, ?_, ?_, ?_, ?_, ?_, ?_, ?_, ?_⟩ <;> (unfold lineRecordStep; (repeat' split) <;> simp)

@[simp] theorem listenEnd_frame (s : State) :
    (listenEnd s).li = s.li ∧ (listenEnd s).fs = s.fs ∧ (listenEnd s).fa = s.fa ∧
    (listenEnd s).cu = s.cu ∧ (listenEnd s).lb = s.lb ∧ (listenEnd s).hx = s.hx ∧
    (listenEnd s).sc = s.sc ∧ (listenEnd s).op = s.op ∧ (listenEnd s).cp = s.cp ∧
    (listenEnd s).freeCount = s.freeCount ∧ (listenEnd s).pending = s.pending ∧
    (listenEnd s).pli.attached = s.pli.attached ∧ (listenEnd s).pli.bulk = s.pli.bulk ∧
    (listenEnd s).pli.urgentAttempts = s.pli.urgentAttempts ∧
    (listenEnd s).pli.urgentDiscards = s.pli.urgentDiscards ∧ (listenEnd s).pli.tx = s.pli.tx ∧
    (listenEnd s).pli.idleMonitor = s.pli.idleMonitor ∧
    (listenEnd s).pli.tx.isSome = s.pli.tx.isSome := by
  refine ⟨?_, ?_, ?_, ?_, ?_, ?_, ?_, ?_, ?_, ?_, ?_, ?_, ?_, ?_, ?_, ?_, ?_, ?_⟩ <;> (unfold listenEnd; (repeat' split) <;> simp)

@[simp] theorem snapshotEnd_frame (s : State) :
    (snapshotEnd s).li = s.li ∧ (snapshotEnd s).fs = s.fs ∧ (snapshotEnd s).fa = s.fa ∧
    (snapshotEnd s).lb = s.lb ∧ (snapshotEnd s).hx = s.hx ∧ (snapshotEnd s).sc = s.sc ∧
    (snapshotEnd s).op = s.op ∧ (snapshotEnd s).cp = s.cp ∧
    (snapshotEnd s).freeCount = s.freeCount ∧ (snapshotEnd s).pending = s.pending ∧
    (snapshotEnd s).cu.membership = s.cu.membership ∧ (snapshotEnd s).cu.agreed = s.cu.agreed ∧
    (snapshotEnd s).cu.heard = s.cu.heard ∧ (snapshotEnd s).cu.listenCount = s.cu.listenCount ∧
    (snapshotEnd s).cu.timers = s.cu.timers ∧
    (snapshotEnd s).cu.heldExpiries = s.cu.heldExpiries ∧
    (snapshotEnd s).cu.owedCloses = s.cu.owedCloses ∧
    (snapshotEnd s).pli.attached = s.pli.attached ∧ (snapshotEnd s).pli.bulk = s.pli.bulk ∧
    (snapshotEnd s).pli.urgentAttempts = s.pli.urgentAttempts ∧
    (snapshotEnd s).pli.urgentDiscards = s.pli.urgentDiscards ∧
    (snapshotEnd s).pli.tx = s.pli.tx ∧ (snapshotEnd s).pli.idleMonitor = s.pli.idleMonitor ∧
    (snapshotEnd s).pli.tx.isSome = s.pli.tx.isSome := by
  refine ⟨?_, ?_, ?_, ?_, ?_, ?_, ?_, ?_, ?_, ?_, ?_, ?_, ?_, ?_, ?_, ?_, ?_, ?_, ?_, ?_, ?_, ?_, ?_, ?_⟩ <;> (unfold snapshotEnd; repeat' (first | rfl | split) <;> simp_all [snapshotEnd])

@[simp] theorem isolationEnd_frame (s : State) :
    (isolationEnd s).li = s.li ∧ (isolationEnd s).fs = s.fs ∧ (isolationEnd s).fa = s.fa ∧
    (isolationEnd s).pli = s.pli ∧ (isolationEnd s).lb = s.lb ∧ (isolationEnd s).hx = s.hx ∧
    (isolationEnd s).sc = s.sc ∧ (isolationEnd s).op = s.op ∧ (isolationEnd s).cp = s.cp ∧
    (isolationEnd s).freeCount = s.freeCount ∧ (isolationEnd s).pending = s.pending ∧
    (isolationEnd s).cu.agreed = s.cu.agreed ∧ (isolationEnd s).cu.timers = s.cu.timers ∧
    (isolationEnd s).cu.heldExpiries = s.cu.heldExpiries ∧
    (isolationEnd s).cu.owedCloses = s.cu.owedCloses := by
  refine ⟨?_, ?_, ?_, ?_, ?_, ?_, ?_, ?_, ?_, ?_, ?_, ?_, ?_, ?_, ?_⟩ <;> (unfold isolationEnd; (repeat' split) <;> simp)

@[simp] theorem fieldBeginEffect_frame (s : State) (w : List Word16) :
    (fieldBeginEffect w s).sc = s.sc ∧ (fieldBeginEffect w s).op = s.op ∧
    (fieldBeginEffect w s).freeCount = s.freeCount ∧ (fieldBeginEffect w s).pending = s.pending ∧
    (fieldBeginEffect w s).cu.membership = s.cu.membership ∧
    (fieldBeginEffect w s).cu.agreed = s.cu.agreed ∧
    (fieldBeginEffect w s).cu.heard = s.cu.heard ∧
    (fieldBeginEffect w s).cu.foundingBar = s.cu.foundingBar ∧
    (fieldBeginEffect w s).pli.attached = s.pli.attached ∧
    (fieldBeginEffect w s).pli.bulk = s.pli.bulk ∧
    (fieldBeginEffect w s).pli.urgentAttempts = s.pli.urgentAttempts ∧
    (fieldBeginEffect w s).pli.urgentDiscards = s.pli.urgentDiscards ∧
    (fieldBeginEffect w s).pli.tx = s.pli.tx ∧
    (fieldBeginEffect w s).pli.idleMonitor = s.pli.idleMonitor ∧
    (fieldBeginEffect w s).pli.tx.isSome = s.pli.tx.isSome ∧
    (fieldBeginEffect w s).lb.build = s.lb.build ∧
    (fieldBeginEffect w s).lb.decisions = s.lb.decisions ∧
    (fieldBeginEffect w s).lb.lastBegun = s.lb.lastBegun ∧
    (fieldBeginEffect w s).lb.lastRequested = s.lb.lastRequested ∧
    (fieldBeginEffect w s).hx.upperSide = s.hx.upperSide ∧
    (fieldBeginEffect w s).hx.lowerSide = s.hx.lowerSide ∧
    (fieldBeginEffect w s).hx.timer = s.hx.timer ∧
    (fieldBeginEffect w s).cp.config = s.cp.config ∧ (fieldBeginEffect w s).cp.lock = s.cp.lock ∧
    (fieldBeginEffect w s).cp.digest = s.cp.digest ∧
    (fieldBeginEffect w s).cp.station = s.cp.station ∧
    (fieldBeginEffect w s).cp.ownership = s.cp.ownership ∧
    (fieldBeginEffect w s).cp.result = s.cp.result ∧
    (fieldBeginEffect w s).cp.dataOut = s.cp.dataOut ∧
    (fieldBeginEffect w s).cp.enables = s.cp.enables ∧
    (fieldBeginEffect w s).cp.resetHeld = s.cp.resetHeld := by
  refine ⟨?_, ?_, ?_, ?_, ?_, ?_, ?_, ?_, ?_, ?_, ?_, ?_, ?_, ?_, ?_, ?_, ?_, ?_, ?_, ?_, ?_, ?_, ?_, ?_, ?_, ?_, ?_, ?_, ?_, ?_, ?_⟩ <;> (unfold fieldBeginEffect; (repeat' split) <;> simp)

@[simp] theorem lineRecordEffect_frame (s : State) (w : List Word16) :
    (lineRecordEffect w s).fa = s.fa ∧ (lineRecordEffect w s).cu = s.cu ∧
    (lineRecordEffect w s).pli = s.pli ∧ (lineRecordEffect w s).lb = s.lb ∧
    (lineRecordEffect w s).hx = s.hx ∧ (lineRecordEffect w s).sc = s.sc ∧
    (lineRecordEffect w s).op = s.op ∧ (lineRecordEffect w s).freeCount = s.freeCount ∧
    (lineRecordEffect w s).pending = s.pending ∧ (lineRecordEffect w s).cp.config = s.cp.config ∧
    (lineRecordEffect w s).cp.lock = s.cp.lock ∧ (lineRecordEffect w s).cp.digest = s.cp.digest ∧
    (lineRecordEffect w s).cp.station = s.cp.station ∧
    (lineRecordEffect w s).cp.ownership = s.cp.ownership ∧
    (lineRecordEffect w s).cp.result = s.cp.result ∧
    (lineRecordEffect w s).cp.dataOut = s.cp.dataOut ∧
    (lineRecordEffect w s).cp.events = s.cp.events ∧
    (lineRecordEffect w s).cp.enables = s.cp.enables ∧
    (lineRecordEffect w s).cp.resetHeld = s.cp.resetHeld := by
  refine ⟨?_, ?_, ?_, ?_, ?_, ?_, ?_, ?_, ?_, ?_, ?_, ?_, ?_, ?_, ?_, ?_, ?_, ?_, ?_⟩ <;> (unfold lineRecordEffect; (repeat' split) <;> simp)

@[simp] theorem fieldEndEffect_frame (s : State) (w : List Word16) :
    (fieldEndEffect w s).sc = s.sc ∧ (fieldEndEffect w s).op = s.op ∧
    (fieldEndEffect w s).freeCount = s.freeCount ∧ (fieldEndEffect w s).pending = s.pending ∧
    (fieldEndEffect w s).cu.membership = s.cu.membership ∧
    (fieldEndEffect w s).cu.agreed = s.cu.agreed ∧ (fieldEndEffect w s).cu.heard = s.cu.heard ∧
    (fieldEndEffect w s).cu.foundingBar = s.cu.foundingBar ∧
    (fieldEndEffect w s).pli.attached = s.pli.attached ∧
    (fieldEndEffect w s).pli.bulk = s.pli.bulk ∧
    (fieldEndEffect w s).pli.urgentAttempts = s.pli.urgentAttempts ∧
    (fieldEndEffect w s).pli.urgentDiscards = s.pli.urgentDiscards ∧
    (fieldEndEffect w s).pli.tx = s.pli.tx ∧
    (fieldEndEffect w s).pli.idleMonitor = s.pli.idleMonitor ∧
    (fieldEndEffect w s).pli.tx.isSome = s.pli.tx.isSome ∧
    (fieldEndEffect w s).lb.build = s.lb.build ∧
    (fieldEndEffect w s).lb.decisions = s.lb.decisions ∧
    (fieldEndEffect w s).lb.newestBegun = s.lb.newestBegun ∧
    (fieldEndEffect w s).lb.lastBegun = s.lb.lastBegun ∧
    (fieldEndEffect w s).lb.lastRequested = s.lb.lastRequested ∧
    (fieldEndEffect w s).hx.upperSide = s.hx.upperSide ∧
    (fieldEndEffect w s).hx.lowerSide = s.hx.lowerSide ∧
    (fieldEndEffect w s).hx.timer = s.hx.timer ∧ (fieldEndEffect w s).cp.config = s.cp.config ∧
    (fieldEndEffect w s).cp.lock = s.cp.lock ∧ (fieldEndEffect w s).cp.digest = s.cp.digest ∧
    (fieldEndEffect w s).cp.station = s.cp.station ∧
    (fieldEndEffect w s).cp.ownership = s.cp.ownership ∧
    (fieldEndEffect w s).cp.result = s.cp.result ∧
    (fieldEndEffect w s).cp.dataOut = s.cp.dataOut ∧
    (fieldEndEffect w s).cp.events = s.cp.events ∧
    (fieldEndEffect w s).cp.enables = s.cp.enables ∧
    (fieldEndEffect w s).cp.resetHeld = s.cp.resetHeld := by
  refine ⟨?_, ?_, ?_, ?_, ?_, ?_, ?_, ?_, ?_, ?_, ?_, ?_, ?_, ?_, ?_, ?_, ?_, ?_, ?_, ?_, ?_, ?_, ?_, ?_, ?_, ?_, ?_, ?_, ?_, ?_, ?_, ?_, ?_⟩ <;> (unfold fieldEndEffect; (repeat' split) <;> simp)

@[simp] theorem holdExpiry_frame (s : State) (n : FieldNo) :
    (holdExpiry n s).li = s.li ∧ (holdExpiry n s).fs = s.fs ∧ (holdExpiry n s).fa = s.fa ∧
    (holdExpiry n s).pli = s.pli ∧ (holdExpiry n s).lb = s.lb ∧ (holdExpiry n s).hx = s.hx ∧
    (holdExpiry n s).sc = s.sc ∧ (holdExpiry n s).op = s.op ∧ (holdExpiry n s).cp = s.cp ∧
    (holdExpiry n s).freeCount = s.freeCount ∧ (holdExpiry n s).pending = s.pending ∧
    (holdExpiry n s).cu.membership = s.cu.membership ∧ (holdExpiry n s).cu.agreed = s.cu.agreed ∧
    (holdExpiry n s).cu.heard = s.cu.heard ∧ (holdExpiry n s).cu.foundingBar = s.cu.foundingBar ∧
    (holdExpiry n s).cu.listenCount = s.cu.listenCount ∧
    (holdExpiry n s).cu.timers = s.cu.timers ∧
    (holdExpiry n s).cu.owedCloses = s.cu.owedCloses := by
  refine ⟨?_, ?_, ?_, ?_, ?_, ?_, ?_, ?_, ?_, ?_, ?_, ?_, ?_, ?_, ?_, ?_, ?_, ?_⟩ <;> rfl

@[simp] theorem timerExpiry_frame (s : State) (n : FieldNo) :
    (timerExpiry n s).li = s.li ∧ (timerExpiry n s).fs = s.fs ∧ (timerExpiry n s).fa = s.fa ∧
    (timerExpiry n s).lb = s.lb ∧ (timerExpiry n s).hx = s.hx ∧ (timerExpiry n s).sc = s.sc ∧
    (timerExpiry n s).op = s.op ∧ (timerExpiry n s).cp = s.cp ∧
    (timerExpiry n s).freeCount = s.freeCount ∧ (timerExpiry n s).pending = s.pending ∧
    (timerExpiry n s).cu.membership = s.cu.membership ∧
    (timerExpiry n s).cu.agreed = s.cu.agreed ∧ (timerExpiry n s).cu.heard = s.cu.heard ∧
    (timerExpiry n s).cu.foundingBar = s.cu.foundingBar ∧
    (timerExpiry n s).cu.listenCount = s.cu.listenCount ∧
    (timerExpiry n s).pli.attached = s.pli.attached ∧ (timerExpiry n s).pli.bulk = s.pli.bulk ∧
    (timerExpiry n s).pli.urgentAttempts = s.pli.urgentAttempts ∧
    (timerExpiry n s).pli.urgentDiscards = s.pli.urgentDiscards ∧
    (timerExpiry n s).pli.tx = s.pli.tx ∧ (timerExpiry n s).pli.idleMonitor = s.pli.idleMonitor ∧
    (timerExpiry n s).pli.tx.isSome = s.pli.tx.isSome := by
  refine ⟨?_, ?_, ?_, ?_, ?_, ?_, ?_, ?_, ?_, ?_, ?_, ?_, ?_, ?_, ?_, ?_, ?_, ?_, ?_, ?_, ?_, ?_⟩ <;> (unfold timerExpiry; (repeat' split) <;> simp)

@[simp] theorem closeRequeue_frame (s : State) :
    (closeRequeue s).li = s.li ∧ (closeRequeue s).fs = s.fs ∧ (closeRequeue s).fa = s.fa ∧
    (closeRequeue s).lb = s.lb ∧ (closeRequeue s).hx = s.hx ∧ (closeRequeue s).sc = s.sc ∧
    (closeRequeue s).op = s.op ∧ (closeRequeue s).cp = s.cp ∧
    (closeRequeue s).freeCount = s.freeCount ∧ (closeRequeue s).pending = s.pending ∧
    (closeRequeue s).cu.membership = s.cu.membership ∧ (closeRequeue s).cu.agreed = s.cu.agreed ∧
    (closeRequeue s).cu.heard = s.cu.heard ∧ (closeRequeue s).cu.foundingBar = s.cu.foundingBar ∧
    (closeRequeue s).cu.listenCount = s.cu.listenCount ∧
    (closeRequeue s).cu.timers = s.cu.timers ∧
    (closeRequeue s).cu.heldExpiries = s.cu.heldExpiries ∧
    (closeRequeue s).pli.attached = s.pli.attached ∧ (closeRequeue s).pli.bulk = s.pli.bulk ∧
    (closeRequeue s).pli.urgentAttempts = s.pli.urgentAttempts ∧
    (closeRequeue s).pli.urgentDiscards = s.pli.urgentDiscards ∧
    (closeRequeue s).pli.tx = s.pli.tx ∧ (closeRequeue s).pli.idleMonitor = s.pli.idleMonitor ∧
    (closeRequeue s).pli.tx.isSome = s.pli.tx.isSome := by
  exact ⟨by (unfold closeRequeue; exact keeps_foldl (fun t : State => t.li) _ (by intros; simp) _ _),
    by (unfold closeRequeue; exact keeps_foldl (fun t : State => t.fs) _ (by intros; simp) _ _),
    by (unfold closeRequeue; exact keeps_foldl (fun t : State => t.fa) _ (by intros; simp) _ _),
    by (unfold closeRequeue; exact keeps_foldl (fun t : State => t.lb) _ (by intros; simp) _ _),
    by (unfold closeRequeue; exact keeps_foldl (fun t : State => t.hx) _ (by intros; simp) _ _),
    by (unfold closeRequeue; exact keeps_foldl (fun t : State => t.sc) _ (by intros; simp) _ _),
    by (unfold closeRequeue; exact keeps_foldl (fun t : State => t.op) _ (by intros; simp) _ _),
    by (unfold closeRequeue; exact keeps_foldl (fun t : State => t.cp) _ (by intros; simp) _ _),
    by (unfold closeRequeue; exact keeps_foldl (fun t : State => t.freeCount) _ (by intros; simp) _ _),
    by (unfold closeRequeue; exact keeps_foldl (fun t : State => t.pending) _ (by intros; simp) _ _),
    by (unfold closeRequeue; exact keeps_foldl (fun t : State => t.cu.membership) _ (by intros; simp) _ _),
    by (unfold closeRequeue; exact keeps_foldl (fun t : State => t.cu.agreed) _ (by intros; simp) _ _),
    by (unfold closeRequeue; exact keeps_foldl (fun t : State => t.cu.heard) _ (by intros; simp) _ _),
    by (unfold closeRequeue; exact keeps_foldl (fun t : State => t.cu.foundingBar) _ (by intros; simp) _ _),
    by (unfold closeRequeue; exact keeps_foldl (fun t : State => t.cu.listenCount) _ (by intros; simp) _ _),
    by (unfold closeRequeue; exact keeps_foldl (fun t : State => t.cu.timers) _ (by intros; simp) _ _),
    by (unfold closeRequeue; exact keeps_foldl (fun t : State => t.cu.heldExpiries) _ (by intros; simp) _ _),
    by (unfold closeRequeue; exact keeps_foldl (fun t : State => t.pli.attached) _ (by intros; simp) _ _),
    by (unfold closeRequeue; exact keeps_foldl (fun t : State => t.pli.bulk) _ (by intros; simp) _ _),
    by (unfold closeRequeue; exact keeps_foldl (fun t : State => t.pli.urgentAttempts) _ (by intros; simp) _ _),
    by (unfold closeRequeue; exact keeps_foldl (fun t : State => t.pli.urgentDiscards) _ (by intros; simp) _ _),
    by (unfold closeRequeue; exact keeps_foldl (fun t : State => t.pli.tx) _ (by intros; simp) _ _),
    by (unfold closeRequeue; exact keeps_foldl (fun t : State => t.pli.idleMonitor) _ (by intros; simp) _ _),
    by (unfold closeRequeue; exact keeps_foldl (fun t : State => t.pli.tx.isSome) _ (by intros; simp) _ _)⟩

@[simp] theorem leaveRequeue_frame (s : State) :
    (leaveRequeue s).li = s.li ∧ (leaveRequeue s).fs = s.fs ∧ (leaveRequeue s).fa = s.fa ∧
    (leaveRequeue s).lb = s.lb ∧ (leaveRequeue s).hx = s.hx ∧ (leaveRequeue s).sc = s.sc ∧
    (leaveRequeue s).op = s.op ∧ (leaveRequeue s).cp = s.cp ∧
    (leaveRequeue s).freeCount = s.freeCount ∧ (leaveRequeue s).pending = s.pending ∧
    (leaveRequeue s).cu.membership = s.cu.membership ∧ (leaveRequeue s).cu.agreed = s.cu.agreed ∧
    (leaveRequeue s).cu.heard = s.cu.heard ∧ (leaveRequeue s).cu.foundingBar = s.cu.foundingBar ∧
    (leaveRequeue s).cu.listenCount = s.cu.listenCount ∧
    (leaveRequeue s).cu.timers = s.cu.timers ∧
    (leaveRequeue s).cu.heldExpiries = s.cu.heldExpiries ∧
    (leaveRequeue s).cu.owedCloses = s.cu.owedCloses ∧
    (leaveRequeue s).pli.attached = s.pli.attached ∧ (leaveRequeue s).pli.bulk = s.pli.bulk ∧
    (leaveRequeue s).pli.urgentAttempts = s.pli.urgentAttempts ∧
    (leaveRequeue s).pli.urgentDiscards = s.pli.urgentDiscards ∧
    (leaveRequeue s).pli.tx = s.pli.tx ∧ (leaveRequeue s).pli.idleMonitor = s.pli.idleMonitor ∧
    (leaveRequeue s).pli.tx.isSome = s.pli.tx.isSome := by
  refine ⟨?_, ?_, ?_, ?_, ?_, ?_, ?_, ?_, ?_, ?_, ?_, ?_, ?_, ?_, ?_, ?_, ?_, ?_, ?_, ?_, ?_, ?_, ?_, ?_, ?_⟩ <;> (unfold leaveRequeue; (repeat' split) <;> simp)

@[simp] theorem attachReported_frame (s : State) :
    (attachReported s).li = s.li ∧ (attachReported s).fs = s.fs ∧ (attachReported s).fa = s.fa ∧
    (attachReported s).pli = s.pli ∧ (attachReported s).lb = s.lb ∧
    (attachReported s).hx = s.hx ∧ (attachReported s).sc = s.sc ∧ (attachReported s).op = s.op ∧
    (attachReported s).cp = s.cp ∧ (attachReported s).freeCount = s.freeCount ∧
    (attachReported s).pending = s.pending ∧ (attachReported s).cu.agreed = s.cu.agreed ∧
    (attachReported s).cu.timers = s.cu.timers ∧
    (attachReported s).cu.heldExpiries = s.cu.heldExpiries ∧
    (attachReported s).cu.owedCloses = s.cu.owedCloses := by
  refine ⟨?_, ?_, ?_, ?_, ?_, ?_, ?_, ?_, ?_, ?_, ?_, ?_, ?_, ?_, ?_⟩ <;> (unfold attachReported; (repeat' split) <;> simp)

@[simp] theorem idlePointStep_frame (s : State) (o : Option (Fin 128)) :
    (idlePointStep o s).li = s.li ∧ (idlePointStep o s).fs = s.fs ∧
    (idlePointStep o s).fa = s.fa ∧ (idlePointStep o s).lb = s.lb ∧
    (idlePointStep o s).hx = s.hx ∧ (idlePointStep o s).sc = s.sc ∧
    (idlePointStep o s).op = s.op ∧ (idlePointStep o s).cp = s.cp ∧
    (idlePointStep o s).freeCount = s.freeCount ∧ (idlePointStep o s).pending = s.pending ∧
    (idlePointStep o s).cu.agreed = s.cu.agreed ∧ (idlePointStep o s).cu.timers = s.cu.timers ∧
    (idlePointStep o s).cu.heldExpiries = s.cu.heldExpiries ∧
    (idlePointStep o s).cu.owedCloses = s.cu.owedCloses ∧
    (idlePointStep o s).pli.urgent = s.pli.urgent ∧ (idlePointStep o s).pli.bulk = s.pli.bulk ∧
    (idlePointStep o s).pli.urgentAttempts = s.pli.urgentAttempts ∧
    (idlePointStep o s).pli.urgentDiscards = s.pli.urgentDiscards ∧
    (idlePointStep o s).pli.idleMonitor = s.pli.idleMonitor := by
  refine ⟨?_, ?_, ?_, ?_, ?_, ?_, ?_, ?_, ?_, ?_, ?_, ?_, ?_, ?_, ?_, ?_, ?_, ?_, ?_⟩ <;> (unfold idlePointStep; (repeat' split) <;> simp)

@[simp] theorem monitorExpiry_frame (s : State) :
    (monitorExpiry s).fa = s.fa ∧ (monitorExpiry s).pending = s.pending ∧
    (monitorExpiry s).cu.agreed = s.cu.agreed ∧ (monitorExpiry s).cu.heard = s.cu.heard ∧
    (monitorExpiry s).cu.foundingBar = s.cu.foundingBar ∧
    (monitorExpiry s).lb.newestBegun = s.lb.newestBegun ∧
    (monitorExpiry s).lb.lastEnded = s.lb.lastEnded ∧
    (monitorExpiry s).lb.lastBegun = s.lb.lastBegun ∧
    (monitorExpiry s).lb.lastRequested = s.lb.lastRequested ∧
    (monitorExpiry s).sc.bankA = s.sc.bankA ∧ (monitorExpiry s).sc.bankB = s.sc.bankB ∧
    (monitorExpiry s).sc.staging = s.sc.staging ∧ (monitorExpiry s).sc.commit = s.sc.commit ∧
    (monitorExpiry s).op.lastAnswer = s.op.lastAnswer ∧
    (monitorExpiry s).op.lastAsked = s.op.lastAsked ∧
    (monitorExpiry s).op.lastRow = s.op.lastRow ∧ (monitorExpiry s).cp.config = s.cp.config ∧
    (monitorExpiry s).cp.lock = s.cp.lock ∧ (monitorExpiry s).cp.digest = s.cp.digest ∧
    (monitorExpiry s).cp.station = s.cp.station ∧
    (monitorExpiry s).cp.ownership = s.cp.ownership ∧ (monitorExpiry s).cp.result = s.cp.result ∧
    (monitorExpiry s).cp.dataOut = s.cp.dataOut ∧ (monitorExpiry s).cp.enables = s.cp.enables ∧
    (monitorExpiry s).cp.totals = s.cp.totals ∧
    (monitorExpiry s).cp.resetHeld = s.cp.resetHeld := by
  refine ⟨?_, ?_, ?_, ?_, ?_, ?_, ?_, ?_, ?_, ?_, ?_, ?_, ?_, ?_, ?_, ?_, ?_, ?_, ?_, ?_, ?_, ?_, ?_, ?_, ?_, ?_⟩ <;> (unfold monitorExpiry; (repeat' split) <;> simp)

@[simp] theorem transmissionNotSeen_frame (s : State) :
    (transmissionNotSeen s).fa = s.fa ∧ (transmissionNotSeen s).pending = s.pending ∧
    (transmissionNotSeen s).cu.agreed = s.cu.agreed ∧
    (transmissionNotSeen s).cu.heard = s.cu.heard ∧
    (transmissionNotSeen s).cu.foundingBar = s.cu.foundingBar ∧
    (transmissionNotSeen s).lb.newestBegun = s.lb.newestBegun ∧
    (transmissionNotSeen s).lb.lastEnded = s.lb.lastEnded ∧
    (transmissionNotSeen s).lb.lastBegun = s.lb.lastBegun ∧
    (transmissionNotSeen s).lb.lastRequested = s.lb.lastRequested ∧
    (transmissionNotSeen s).sc.bankA = s.sc.bankA ∧
    (transmissionNotSeen s).sc.bankB = s.sc.bankB ∧
    (transmissionNotSeen s).sc.staging = s.sc.staging ∧
    (transmissionNotSeen s).sc.commit = s.sc.commit ∧
    (transmissionNotSeen s).op.lastAnswer = s.op.lastAnswer ∧
    (transmissionNotSeen s).op.lastAsked = s.op.lastAsked ∧
    (transmissionNotSeen s).op.lastRow = s.op.lastRow ∧
    (transmissionNotSeen s).cp.config = s.cp.config ∧
    (transmissionNotSeen s).cp.lock = s.cp.lock ∧
    (transmissionNotSeen s).cp.digest = s.cp.digest ∧
    (transmissionNotSeen s).cp.station = s.cp.station ∧
    (transmissionNotSeen s).cp.ownership = s.cp.ownership ∧
    (transmissionNotSeen s).cp.result = s.cp.result ∧
    (transmissionNotSeen s).cp.dataOut = s.cp.dataOut ∧
    (transmissionNotSeen s).cp.enables = s.cp.enables ∧
    (transmissionNotSeen s).cp.totals = s.cp.totals ∧
    (transmissionNotSeen s).cp.resetHeld = s.cp.resetHeld := by
  refine ⟨?_, ?_, ?_, ?_, ?_, ?_, ?_, ?_, ?_, ?_, ?_, ?_, ?_, ?_, ?_, ?_, ?_, ?_, ?_, ?_, ?_, ?_, ?_, ?_, ?_, ?_⟩ <;> (unfold transmissionNotSeen; (repeat' split) <;> simp)

@[simp] theorem parcelVoidStep_frame (s : State) (r : Reading) :
    (parcelVoidStep r s).li = s.li ∧ (parcelVoidStep r s).fs = s.fs ∧
    (parcelVoidStep r s).fa = s.fa ∧ (parcelVoidStep r s).cu = s.cu ∧
    (parcelVoidStep r s).lb = s.lb ∧ (parcelVoidStep r s).sc = s.sc ∧
    (parcelVoidStep r s).op = s.op ∧ (parcelVoidStep r s).cp = s.cp ∧
    (parcelVoidStep r s).freeCount = s.freeCount ∧ (parcelVoidStep r s).pending = s.pending ∧
    (parcelVoidStep r s).pli.attached = s.pli.attached ∧
    (parcelVoidStep r s).pli.urgentDiscards = s.pli.urgentDiscards ∧
    (parcelVoidStep r s).pli.idleMonitor = s.pli.idleMonitor ∧
    (parcelVoidStep r s).hx.upperSide = s.hx.upperSide ∧
    (parcelVoidStep r s).hx.lowerSide = s.hx.lowerSide ∧
    (parcelVoidStep r s).hx.timer = s.hx.timer := by
  refine ⟨?_, ?_, ?_, ?_, ?_, ?_, ?_, ?_, ?_, ?_, ?_, ?_, ?_, ?_, ?_, ?_⟩ <;> (unfold parcelVoidStep; (repeat' split) <;> simp)

@[simp] theorem countDiscard_frame (s : State) :
    (countDiscard s).li = s.li ∧ (countDiscard s).fs = s.fs ∧ (countDiscard s).fa = s.fa ∧
    (countDiscard s).cu = s.cu ∧ (countDiscard s).pli = s.pli ∧ (countDiscard s).lb = s.lb ∧
    (countDiscard s).hx = s.hx ∧ (countDiscard s).sc = s.sc ∧ (countDiscard s).op = s.op ∧
    (countDiscard s).freeCount = s.freeCount ∧ (countDiscard s).pending = s.pending ∧
    (countDiscard s).cp.config = s.cp.config ∧ (countDiscard s).cp.lock = s.cp.lock ∧
    (countDiscard s).cp.digest = s.cp.digest ∧ (countDiscard s).cp.station = s.cp.station ∧
    (countDiscard s).cp.ownership = s.cp.ownership ∧ (countDiscard s).cp.result = s.cp.result ∧
    (countDiscard s).cp.dataOut = s.cp.dataOut ∧ (countDiscard s).cp.enables = s.cp.enables ∧
    (countDiscard s).cp.resetHeld = s.cp.resetHeld := by
  refine ⟨?_, ?_, ?_, ?_, ?_, ?_, ?_, ?_, ?_, ?_, ?_, ?_, ?_, ?_, ?_, ?_, ?_, ?_, ?_, ?_⟩ <;> rfl

@[simp] theorem joinDiscarded_frame (s : State) :
    (joinDiscarded s).fa = s.fa ∧ (joinDiscarded s).pending = s.pending ∧
    (joinDiscarded s).cu.agreed = s.cu.agreed ∧ (joinDiscarded s).cu.heard = s.cu.heard ∧
    (joinDiscarded s).cu.foundingBar = s.cu.foundingBar ∧
    (joinDiscarded s).lb.newestBegun = s.lb.newestBegun ∧
    (joinDiscarded s).lb.lastEnded = s.lb.lastEnded ∧
    (joinDiscarded s).lb.lastBegun = s.lb.lastBegun ∧
    (joinDiscarded s).lb.lastRequested = s.lb.lastRequested ∧
    (joinDiscarded s).sc.bankA = s.sc.bankA ∧ (joinDiscarded s).sc.bankB = s.sc.bankB ∧
    (joinDiscarded s).sc.staging = s.sc.staging ∧ (joinDiscarded s).sc.commit = s.sc.commit ∧
    (joinDiscarded s).op.lastAnswer = s.op.lastAnswer ∧
    (joinDiscarded s).op.lastAsked = s.op.lastAsked ∧
    (joinDiscarded s).op.lastRow = s.op.lastRow ∧ (joinDiscarded s).cp.config = s.cp.config ∧
    (joinDiscarded s).cp.lock = s.cp.lock ∧ (joinDiscarded s).cp.digest = s.cp.digest ∧
    (joinDiscarded s).cp.station = s.cp.station ∧
    (joinDiscarded s).cp.ownership = s.cp.ownership ∧ (joinDiscarded s).cp.result = s.cp.result ∧
    (joinDiscarded s).cp.dataOut = s.cp.dataOut ∧ (joinDiscarded s).cp.enables = s.cp.enables ∧
    (joinDiscarded s).cp.totals = s.cp.totals ∧
    (joinDiscarded s).cp.resetHeld = s.cp.resetHeld := by
  refine ⟨?_, ?_, ?_, ?_, ?_, ?_, ?_, ?_, ?_, ?_, ?_, ?_, ?_, ?_, ?_, ?_, ?_, ?_, ?_, ?_, ?_, ?_, ?_, ?_, ?_, ?_⟩ <;> (unfold joinDiscarded; (repeat' split) <;> simp)

@[simp] theorem urgentDiscardTold_frame (s : State) (q : Queued) :
    (urgentDiscardTold q s).fa = s.fa ∧ (urgentDiscardTold q s).pending = s.pending ∧
    (urgentDiscardTold q s).cu.agreed = s.cu.agreed ∧
    (urgentDiscardTold q s).cu.heard = s.cu.heard ∧
    (urgentDiscardTold q s).cu.foundingBar = s.cu.foundingBar ∧
    (urgentDiscardTold q s).lb.newestBegun = s.lb.newestBegun ∧
    (urgentDiscardTold q s).lb.lastEnded = s.lb.lastEnded ∧
    (urgentDiscardTold q s).lb.lastBegun = s.lb.lastBegun ∧
    (urgentDiscardTold q s).lb.lastRequested = s.lb.lastRequested ∧
    (urgentDiscardTold q s).sc.bankA = s.sc.bankA ∧
    (urgentDiscardTold q s).sc.bankB = s.sc.bankB ∧
    (urgentDiscardTold q s).sc.staging = s.sc.staging ∧
    (urgentDiscardTold q s).sc.commit = s.sc.commit ∧
    (urgentDiscardTold q s).op.lastAnswer = s.op.lastAnswer ∧
    (urgentDiscardTold q s).op.lastAsked = s.op.lastAsked ∧
    (urgentDiscardTold q s).op.lastRow = s.op.lastRow ∧
    (urgentDiscardTold q s).cp.config = s.cp.config ∧
    (urgentDiscardTold q s).cp.lock = s.cp.lock ∧
    (urgentDiscardTold q s).cp.digest = s.cp.digest ∧
    (urgentDiscardTold q s).cp.station = s.cp.station ∧
    (urgentDiscardTold q s).cp.ownership = s.cp.ownership ∧
    (urgentDiscardTold q s).cp.result = s.cp.result ∧
    (urgentDiscardTold q s).cp.dataOut = s.cp.dataOut ∧
    (urgentDiscardTold q s).cp.enables = s.cp.enables ∧
    (urgentDiscardTold q s).cp.totals = s.cp.totals ∧
    (urgentDiscardTold q s).cp.resetHeld = s.cp.resetHeld := by
  refine ⟨?_, ?_, ?_, ?_, ?_, ?_, ?_, ?_, ?_, ?_, ?_, ?_, ?_, ?_, ?_, ?_, ?_, ?_, ?_, ?_, ?_, ?_, ?_, ?_, ?_, ?_⟩ <;> (unfold urgentDiscardTold; (repeat' split) <;> simp)

@[simp] theorem discardUrgent_frame (s : State) (q : Queued) (l : List Queued) :
    (discardUrgent q l s).fa = s.fa ∧ (discardUrgent q l s).pending = s.pending ∧
    (discardUrgent q l s).cu.agreed = s.cu.agreed ∧ (discardUrgent q l s).cu.heard = s.cu.heard ∧
    (discardUrgent q l s).cu.foundingBar = s.cu.foundingBar ∧
    (discardUrgent q l s).lb.newestBegun = s.lb.newestBegun ∧
    (discardUrgent q l s).lb.lastEnded = s.lb.lastEnded ∧
    (discardUrgent q l s).lb.lastBegun = s.lb.lastBegun ∧
    (discardUrgent q l s).lb.lastRequested = s.lb.lastRequested ∧
    (discardUrgent q l s).sc.bankA = s.sc.bankA ∧ (discardUrgent q l s).sc.bankB = s.sc.bankB ∧
    (discardUrgent q l s).sc.staging = s.sc.staging ∧
    (discardUrgent q l s).sc.commit = s.sc.commit ∧
    (discardUrgent q l s).op.lastAnswer = s.op.lastAnswer ∧
    (discardUrgent q l s).op.lastAsked = s.op.lastAsked ∧
    (discardUrgent q l s).op.lastRow = s.op.lastRow ∧
    (discardUrgent q l s).cp.config = s.cp.config ∧ (discardUrgent q l s).cp.lock = s.cp.lock ∧
    (discardUrgent q l s).cp.digest = s.cp.digest ∧
    (discardUrgent q l s).cp.station = s.cp.station ∧
    (discardUrgent q l s).cp.ownership = s.cp.ownership ∧
    (discardUrgent q l s).cp.result = s.cp.result ∧
    (discardUrgent q l s).cp.dataOut = s.cp.dataOut ∧
    (discardUrgent q l s).cp.enables = s.cp.enables ∧
    (discardUrgent q l s).cp.resetHeld = s.cp.resetHeld := by
  refine ⟨?_, ?_, ?_, ?_, ?_, ?_, ?_, ?_, ?_, ?_, ?_, ?_, ?_, ?_, ?_, ?_, ?_, ?_, ?_, ?_, ?_, ?_, ?_, ?_, ?_⟩ <;> simp [discardUrgent]

@[simp] theorem discardBulk_frame (s : State) (p : HaloParcel) (l : List HaloParcel) :
    (discardBulk p l s).li = s.li ∧ (discardBulk p l s).fs = s.fs ∧
    (discardBulk p l s).fa = s.fa ∧ (discardBulk p l s).cu = s.cu ∧
    (discardBulk p l s).lb = s.lb ∧ (discardBulk p l s).sc = s.sc ∧
    (discardBulk p l s).op = s.op ∧ (discardBulk p l s).freeCount = s.freeCount ∧
    (discardBulk p l s).pending = s.pending ∧ (discardBulk p l s).pli.attached = s.pli.attached ∧
    (discardBulk p l s).pli.urgent = s.pli.urgent ∧
    (discardBulk p l s).pli.urgentAttempts = s.pli.urgentAttempts ∧
    (discardBulk p l s).pli.urgentDiscards = s.pli.urgentDiscards ∧
    (discardBulk p l s).pli.tx = s.pli.tx ∧
    (discardBulk p l s).pli.idleMonitor = s.pli.idleMonitor ∧
    (discardBulk p l s).pli.tx.isSome = s.pli.tx.isSome ∧
    (discardBulk p l s).hx.upperSide = s.hx.upperSide ∧
    (discardBulk p l s).hx.lowerSide = s.hx.lowerSide ∧
    (discardBulk p l s).hx.timer = s.hx.timer ∧ (discardBulk p l s).cp.config = s.cp.config ∧
    (discardBulk p l s).cp.lock = s.cp.lock ∧ (discardBulk p l s).cp.digest = s.cp.digest ∧
    (discardBulk p l s).cp.station = s.cp.station ∧
    (discardBulk p l s).cp.ownership = s.cp.ownership ∧
    (discardBulk p l s).cp.result = s.cp.result ∧ (discardBulk p l s).cp.dataOut = s.cp.dataOut ∧
    (discardBulk p l s).cp.enables = s.cp.enables ∧
    (discardBulk p l s).cp.resetHeld = s.cp.resetHeld := by
  refine ⟨?_, ?_, ?_, ?_, ?_, ?_, ?_, ?_, ?_, ?_, ?_, ?_, ?_, ?_, ?_, ?_, ?_, ?_, ?_, ?_, ?_, ?_, ?_, ?_, ?_, ?_, ?_, ?_⟩ <;> simp [discardBulk]

@[simp] theorem parcelDiscardStep_frame (s : State) :
    (parcelDiscardStep s).fa = s.fa ∧ (parcelDiscardStep s).pending = s.pending ∧
    (parcelDiscardStep s).cu.agreed = s.cu.agreed ∧ (parcelDiscardStep s).cu.heard = s.cu.heard ∧
    (parcelDiscardStep s).cu.foundingBar = s.cu.foundingBar ∧
    (parcelDiscardStep s).lb.newestBegun = s.lb.newestBegun ∧
    (parcelDiscardStep s).lb.lastEnded = s.lb.lastEnded ∧
    (parcelDiscardStep s).lb.lastBegun = s.lb.lastBegun ∧
    (parcelDiscardStep s).lb.lastRequested = s.lb.lastRequested ∧
    (parcelDiscardStep s).sc.bankA = s.sc.bankA ∧ (parcelDiscardStep s).sc.bankB = s.sc.bankB ∧
    (parcelDiscardStep s).sc.staging = s.sc.staging ∧
    (parcelDiscardStep s).sc.commit = s.sc.commit ∧
    (parcelDiscardStep s).op.lastAnswer = s.op.lastAnswer ∧
    (parcelDiscardStep s).op.lastAsked = s.op.lastAsked ∧
    (parcelDiscardStep s).op.lastRow = s.op.lastRow ∧
    (parcelDiscardStep s).cp.config = s.cp.config ∧ (parcelDiscardStep s).cp.lock = s.cp.lock ∧
    (parcelDiscardStep s).cp.digest = s.cp.digest ∧
    (parcelDiscardStep s).cp.station = s.cp.station ∧
    (parcelDiscardStep s).cp.ownership = s.cp.ownership ∧
    (parcelDiscardStep s).cp.result = s.cp.result ∧
    (parcelDiscardStep s).cp.dataOut = s.cp.dataOut ∧
    (parcelDiscardStep s).cp.enables = s.cp.enables ∧
    (parcelDiscardStep s).cp.resetHeld = s.cp.resetHeld := by
  refine ⟨?_, ?_, ?_, ?_, ?_, ?_, ?_, ?_, ?_, ?_, ?_, ?_, ?_, ?_, ?_, ?_, ?_, ?_, ?_, ?_, ?_, ?_, ?_, ?_, ?_⟩ <;> (unfold parcelDiscardStep; (repeat' split) <;> simp)

@[simp] theorem isolationNotice_frame (s : State) :
    (isolationNotice s).fa = s.fa ∧ (isolationNotice s).pending = s.pending ∧
    (isolationNotice s).cu.agreed = s.cu.agreed ∧ (isolationNotice s).cu.heard = s.cu.heard ∧
    (isolationNotice s).cu.foundingBar = s.cu.foundingBar ∧
    (isolationNotice s).lb.newestBegun = s.lb.newestBegun ∧
    (isolationNotice s).lb.lastEnded = s.lb.lastEnded ∧
    (isolationNotice s).lb.lastBegun = s.lb.lastBegun ∧
    (isolationNotice s).lb.lastRequested = s.lb.lastRequested ∧
    (isolationNotice s).sc.bankA = s.sc.bankA ∧ (isolationNotice s).sc.bankB = s.sc.bankB ∧
    (isolationNotice s).sc.staging = s.sc.staging ∧ (isolationNotice s).sc.commit = s.sc.commit ∧
    (isolationNotice s).op.lastAnswer = s.op.lastAnswer ∧
    (isolationNotice s).op.lastAsked = s.op.lastAsked ∧
    (isolationNotice s).op.lastRow = s.op.lastRow ∧ (isolationNotice s).cp.config = s.cp.config ∧
    (isolationNotice s).cp.lock = s.cp.lock ∧ (isolationNotice s).cp.digest = s.cp.digest ∧
    (isolationNotice s).cp.station = s.cp.station ∧
    (isolationNotice s).cp.ownership = s.cp.ownership ∧
    (isolationNotice s).cp.result = s.cp.result ∧ (isolationNotice s).cp.dataOut = s.cp.dataOut ∧
    (isolationNotice s).cp.enables = s.cp.enables ∧ (isolationNotice s).cp.totals = s.cp.totals ∧
    (isolationNotice s).cp.resetHeld = s.cp.resetHeld := by
  refine ⟨?_, ?_, ?_, ?_, ?_, ?_, ?_, ?_, ?_, ?_, ?_, ?_, ?_, ?_, ?_, ?_, ?_, ?_, ?_, ?_, ?_, ?_, ?_, ?_, ?_, ?_⟩ <;> (unfold isolationNotice; (repeat' split) <;> simp)

@[simp] theorem decideAdoption_frame (s : State) :
    (decideAdoption s).li = s.li ∧ (decideAdoption s).fs = s.fs ∧ (decideAdoption s).fa = s.fa ∧
    (decideAdoption s).lb = s.lb ∧ (decideAdoption s).op = s.op ∧
    (decideAdoption s).pending = s.pending ∧ (decideAdoption s).cu.agreed = s.cu.agreed ∧
    (decideAdoption s).cu.heard = s.cu.heard ∧
    (decideAdoption s).cu.foundingBar = s.cu.foundingBar ∧
    (decideAdoption s).cu.listenCount = s.cu.listenCount ∧
    (decideAdoption s).pli.attached = s.pli.attached ∧
    (decideAdoption s).pli.urgentAttempts = s.pli.urgentAttempts ∧
    (decideAdoption s).pli.urgentDiscards = s.pli.urgentDiscards ∧
    (decideAdoption s).pli.idleMonitor = s.pli.idleMonitor ∧
    (decideAdoption s).pli.tx.isSome = s.pli.tx.isSome ∧
    (decideAdoption s).hx.timer = s.hx.timer ∧ (decideAdoption s).sc.outgoing = s.sc.outgoing ∧
    (decideAdoption s).sc.bankA = s.sc.bankA ∧ (decideAdoption s).sc.bankB = s.sc.bankB ∧
    (decideAdoption s).sc.staging = s.sc.staging ∧ (decideAdoption s).sc.commit = s.sc.commit ∧
    (decideAdoption s).cp.config = s.cp.config ∧ (decideAdoption s).cp.lock = s.cp.lock ∧
    (decideAdoption s).cp.digest = s.cp.digest ∧ (decideAdoption s).cp.station = s.cp.station ∧
    (decideAdoption s).cp.ownership = s.cp.ownership ∧
    (decideAdoption s).cp.result = s.cp.result ∧ (decideAdoption s).cp.dataOut = s.cp.dataOut ∧
    (decideAdoption s).cp.enables = s.cp.enables ∧ (decideAdoption s).cp.totals = s.cp.totals ∧
    (decideAdoption s).cp.resetHeld = s.cp.resetHeld := by
  refine ⟨?_, ?_, ?_, ?_, ?_, ?_, ?_, ?_, ?_, ?_, ?_, ?_, ?_, ?_, ?_, ?_, ?_, ?_, ?_, ?_, ?_, ?_, ?_, ?_, ?_, ?_, ?_, ?_, ?_, ?_, ?_⟩ <;> (unfold decideAdoption; (repeat' split) <;> simp)

@[simp] theorem adopt_frame (s : State) (n : Station) (j : Station) (a : AgreedState) :
    (adopt n j a s).li = s.li ∧ (adopt n j a s).fs = s.fs ∧ (adopt n j a s).fa = s.fa ∧
    (adopt n j a s).lb = s.lb ∧ (adopt n j a s).op = s.op ∧ (adopt n j a s).pending = s.pending ∧
    (adopt n j a s).cu.heard = s.cu.heard ∧ (adopt n j a s).cu.foundingBar = s.cu.foundingBar ∧
    (adopt n j a s).cu.listenCount = s.cu.listenCount ∧
    (adopt n j a s).pli.attached = s.pli.attached ∧
    (adopt n j a s).pli.urgentDiscards = s.pli.urgentDiscards ∧
    (adopt n j a s).pli.idleMonitor = s.pli.idleMonitor ∧
    (adopt n j a s).pli.tx.isSome = s.pli.tx.isSome ∧ (adopt n j a s).hx.timer = s.hx.timer ∧
    (adopt n j a s).sc.outgoing = s.sc.outgoing ∧ (adopt n j a s).sc.bankA = s.sc.bankA ∧
    (adopt n j a s).sc.bankB = s.sc.bankB ∧ (adopt n j a s).sc.staging = s.sc.staging ∧
    (adopt n j a s).sc.commit = s.sc.commit ∧ (adopt n j a s).cp.config = s.cp.config ∧
    (adopt n j a s).cp.lock = s.cp.lock ∧ (adopt n j a s).cp.digest = s.cp.digest ∧
    (adopt n j a s).cp.station = s.cp.station ∧ (adopt n j a s).cp.ownership = s.cp.ownership ∧
    (adopt n j a s).cp.result = s.cp.result ∧ (adopt n j a s).cp.dataOut = s.cp.dataOut ∧
    (adopt n j a s).cp.enables = s.cp.enables ∧ (adopt n j a s).cp.totals = s.cp.totals ∧
    (adopt n j a s).cp.resetHeld = s.cp.resetHeld := by
  refine ⟨?_, ?_, ?_, ?_, ?_, ?_, ?_, ?_, ?_, ?_, ?_, ?_, ?_, ?_, ?_, ?_, ?_, ?_, ?_, ?_, ?_, ?_, ?_, ?_, ?_, ?_, ?_, ?_, ?_⟩ <;> simp [adopt]

@[simp] theorem found_frame (s : State) :
    (found s).li = s.li ∧ (found s).fs = s.fs ∧ (found s).fa = s.fa ∧ (found s).lb = s.lb ∧
    (found s).op = s.op ∧ (found s).pending = s.pending ∧ (found s).cu.heard = s.cu.heard ∧
    (found s).cu.foundingBar = s.cu.foundingBar ∧ (found s).cu.listenCount = s.cu.listenCount ∧
    (found s).cu.timers = s.cu.timers ∧ (found s).cu.heldExpiries = s.cu.heldExpiries ∧
    (found s).cu.owedCloses = s.cu.owedCloses ∧ (found s).pli.attached = s.pli.attached ∧
    (found s).pli.urgent = s.pli.urgent ∧ (found s).pli.urgentAttempts = s.pli.urgentAttempts ∧
    (found s).pli.urgentDiscards = s.pli.urgentDiscards ∧
    (found s).pli.idleMonitor = s.pli.idleMonitor ∧ (found s).pli.tx.isSome = s.pli.tx.isSome ∧
    (found s).hx.timer = s.hx.timer ∧ (found s).sc.outgoing = s.sc.outgoing ∧
    (found s).sc.bankA = s.sc.bankA ∧ (found s).sc.bankB = s.sc.bankB ∧
    (found s).sc.staging = s.sc.staging ∧ (found s).sc.commit = s.sc.commit ∧
    (found s).cp.config = s.cp.config ∧ (found s).cp.lock = s.cp.lock ∧
    (found s).cp.digest = s.cp.digest ∧ (found s).cp.station = s.cp.station ∧
    (found s).cp.ownership = s.cp.ownership ∧ (found s).cp.result = s.cp.result ∧
    (found s).cp.dataOut = s.cp.dataOut ∧ (found s).cp.enables = s.cp.enables ∧
    (found s).cp.totals = s.cp.totals ∧ (found s).cp.resetHeld = s.cp.resetHeld := by
  refine ⟨?_, ?_, ?_, ?_, ?_, ?_, ?_, ?_, ?_, ?_, ?_, ?_, ?_, ?_, ?_, ?_, ?_, ?_, ?_, ?_, ?_, ?_, ?_, ?_, ?_, ?_, ?_, ?_, ?_, ?_, ?_, ?_, ?_, ?_⟩ <;> simp [found]

@[simp] theorem ownJoinTaken_frame (s : State) (f : Bool) :
    (ownJoinTaken f s).fa = s.fa ∧ (ownJoinTaken f s).pending = s.pending ∧
    (ownJoinTaken f s).cu.heard = s.cu.heard ∧
    (ownJoinTaken f s).lb.newestBegun = s.lb.newestBegun ∧
    (ownJoinTaken f s).lb.lastEnded = s.lb.lastEnded ∧
    (ownJoinTaken f s).lb.lastBegun = s.lb.lastBegun ∧
    (ownJoinTaken f s).lb.lastRequested = s.lb.lastRequested ∧
    (ownJoinTaken f s).sc.bankA = s.sc.bankA ∧ (ownJoinTaken f s).sc.bankB = s.sc.bankB ∧
    (ownJoinTaken f s).sc.staging = s.sc.staging ∧ (ownJoinTaken f s).sc.commit = s.sc.commit ∧
    (ownJoinTaken f s).op.lastAnswer = s.op.lastAnswer ∧
    (ownJoinTaken f s).op.lastAsked = s.op.lastAsked ∧
    (ownJoinTaken f s).op.lastRow = s.op.lastRow ∧ (ownJoinTaken f s).cp.config = s.cp.config ∧
    (ownJoinTaken f s).cp.lock = s.cp.lock ∧ (ownJoinTaken f s).cp.digest = s.cp.digest ∧
    (ownJoinTaken f s).cp.station = s.cp.station ∧
    (ownJoinTaken f s).cp.ownership = s.cp.ownership ∧
    (ownJoinTaken f s).cp.result = s.cp.result ∧ (ownJoinTaken f s).cp.dataOut = s.cp.dataOut ∧
    (ownJoinTaken f s).cp.enables = s.cp.enables ∧ (ownJoinTaken f s).cp.totals = s.cp.totals ∧
    (ownJoinTaken f s).cp.resetHeld = s.cp.resetHeld := by
  refine ⟨?_, ?_, ?_, ?_, ?_, ?_, ?_, ?_, ?_, ?_, ?_, ?_, ?_, ?_, ?_, ?_, ?_, ?_, ?_, ?_, ?_, ?_, ?_, ?_⟩ <;> (unfold ownJoinTaken; (repeat' split) <;> simp)

@[simp] theorem joinReplacesOwn_frame (s : State) (n : Station) :
    (joinReplacesOwn n s).li = s.li ∧ (joinReplacesOwn n s).fs = s.fs ∧
    (joinReplacesOwn n s).fa = s.fa ∧ (joinReplacesOwn n s).lb = s.lb ∧
    (joinReplacesOwn n s).op = s.op ∧ (joinReplacesOwn n s).cp = s.cp ∧
    (joinReplacesOwn n s).pending = s.pending ∧ (joinReplacesOwn n s).cu.agreed = s.cu.agreed ∧
    (joinReplacesOwn n s).cu.heard = s.cu.heard ∧
    (joinReplacesOwn n s).cu.listenCount = s.cu.listenCount ∧
    (joinReplacesOwn n s).pli.attached = s.pli.attached ∧
    (joinReplacesOwn n s).pli.urgent = s.pli.urgent ∧
    (joinReplacesOwn n s).pli.urgentAttempts = s.pli.urgentAttempts ∧
    (joinReplacesOwn n s).pli.urgentDiscards = s.pli.urgentDiscards ∧
    (joinReplacesOwn n s).pli.idleMonitor = s.pli.idleMonitor ∧
    (joinReplacesOwn n s).pli.tx.isSome = s.pli.tx.isSome ∧
    (joinReplacesOwn n s).hx.timer = s.hx.timer ∧
    (joinReplacesOwn n s).sc.outgoing = s.sc.outgoing ∧
    (joinReplacesOwn n s).sc.bankA = s.sc.bankA ∧ (joinReplacesOwn n s).sc.bankB = s.sc.bankB ∧
    (joinReplacesOwn n s).sc.staging = s.sc.staging ∧
    (joinReplacesOwn n s).sc.commit = s.sc.commit := by
  refine ⟨?_, ?_, ?_, ?_, ?_, ?_, ?_, ?_, ?_, ?_, ?_, ?_, ?_, ?_, ?_, ?_, ?_, ?_, ?_, ?_, ?_, ?_⟩ <;> (unfold joinReplacesOwn; (repeat' split) <;> simp)

@[simp] theorem haloTaken_frame (s : State) (n : Station) (h : HaloParcel) (o : Bool) :
    (haloTaken n h o s).li = s.li ∧ (haloTaken n h o s).fs = s.fs ∧
    (haloTaken n h o s).fa = s.fa ∧ (haloTaken n h o s).pli = s.pli ∧
    (haloTaken n h o s).lb = s.lb ∧ (haloTaken n h o s).op = s.op ∧
    (haloTaken n h o s).cp = s.cp ∧ (haloTaken n h o s).freeCount = s.freeCount ∧
    (haloTaken n h o s).pending = s.pending ∧
    (haloTaken n h o s).cu.membership = s.cu.membership ∧
    (haloTaken n h o s).cu.agreed = s.cu.agreed ∧
    (haloTaken n h o s).cu.listenCount = s.cu.listenCount ∧
    (haloTaken n h o s).cu.timers = s.cu.timers ∧
    (haloTaken n h o s).cu.heldExpiries = s.cu.heldExpiries ∧
    (haloTaken n h o s).cu.owedCloses = s.cu.owedCloses ∧
    (haloTaken n h o s).hx.timer = s.hx.timer ∧ (haloTaken n h o s).sc.outgoing = s.sc.outgoing ∧
    (haloTaken n h o s).sc.bankA = s.sc.bankA ∧ (haloTaken n h o s).sc.bankB = s.sc.bankB ∧
    (haloTaken n h o s).sc.staging = s.sc.staging ∧
    (haloTaken n h o s).sc.commit = s.sc.commit := by
  refine ⟨?_, ?_, ?_, ?_, ?_, ?_, ?_, ?_, ?_, ?_, ?_, ?_, ?_, ?_, ?_, ?_, ?_, ?_, ?_, ?_, ?_⟩ <;> (unfold haloTaken; repeat' (first | rfl | split) <;> simp_all [haloTaken])

@[simp] theorem offerPendingSets_frame (s : State) :
    (offerPendingSets s).li = s.li ∧ (offerPendingSets s).fs = s.fs ∧
    (offerPendingSets s).fa = s.fa ∧ (offerPendingSets s).cu = s.cu ∧
    (offerPendingSets s).lb = s.lb ∧ (offerPendingSets s).sc = s.sc ∧
    (offerPendingSets s).op = s.op ∧ (offerPendingSets s).cp = s.cp ∧
    (offerPendingSets s).freeCount = s.freeCount ∧ (offerPendingSets s).pending = s.pending ∧
    (offerPendingSets s).pli.attached = s.pli.attached ∧
    (offerPendingSets s).pli.urgent = s.pli.urgent ∧
    (offerPendingSets s).pli.urgentAttempts = s.pli.urgentAttempts ∧
    (offerPendingSets s).pli.urgentDiscards = s.pli.urgentDiscards ∧
    (offerPendingSets s).pli.tx = s.pli.tx ∧
    (offerPendingSets s).pli.idleMonitor = s.pli.idleMonitor ∧
    (offerPendingSets s).pli.tx.isSome = s.pli.tx.isSome ∧
    (offerPendingSets s).hx.upperSide = s.hx.upperSide ∧
    (offerPendingSets s).hx.lowerSide = s.hx.lowerSide ∧
    (offerPendingSets s).hx.timer = s.hx.timer := by
  exact ⟨by (unfold offerPendingSets; exact keeps_foldl (fun t : State => t.li) _ (by intros; simp) _ _),
    by (unfold offerPendingSets; exact keeps_foldl (fun t : State => t.fs) _ (by intros; simp) _ _),
    by (unfold offerPendingSets; exact keeps_foldl (fun t : State => t.fa) _ (by intros; simp) _ _),
    by (unfold offerPendingSets; exact keeps_foldl (fun t : State => t.cu) _ (by intros; simp) _ _),
    by (unfold offerPendingSets; exact keeps_foldl (fun t : State => t.lb) _ (by intros; simp) _ _),
    by (unfold offerPendingSets; exact keeps_foldl (fun t : State => t.sc) _ (by intros; simp) _ _),
    by (unfold offerPendingSets; exact keeps_foldl (fun t : State => t.op) _ (by intros; simp) _ _),
    by (unfold offerPendingSets; exact keeps_foldl (fun t : State => t.cp) _ (by intros; simp) _ _),
    by (unfold offerPendingSets; exact keeps_foldl (fun t : State => t.freeCount) _ (by intros; simp) _ _),
    by (unfold offerPendingSets; exact keeps_foldl (fun t : State => t.pending) _ (by intros; simp) _ _),
    by (unfold offerPendingSets; exact keeps_foldl (fun t : State => t.pli.attached) _ (by intros; simp) _ _),
    by (unfold offerPendingSets; exact keeps_foldl (fun t : State => t.pli.urgent) _ (by intros; simp) _ _),
    by (unfold offerPendingSets; exact keeps_foldl (fun t : State => t.pli.urgentAttempts) _ (by intros; simp) _ _),
    by (unfold offerPendingSets; exact keeps_foldl (fun t : State => t.pli.urgentDiscards) _ (by intros; simp) _ _),
    by (unfold offerPendingSets; exact keeps_foldl (fun t : State => t.pli.tx) _ (by intros; simp) _ _),
    by (unfold offerPendingSets; exact keeps_foldl (fun t : State => t.pli.idleMonitor) _ (by intros; simp) _ _),
    by (unfold offerPendingSets; exact keeps_foldl (fun t : State => t.pli.tx.isSome) _ (by intros; simp) _ _),
    by (unfold offerPendingSets; exact keeps_foldl (fun t : State => t.hx.upperSide) _ (by intros; simp) _ _),
    by (unfold offerPendingSets; exact keeps_foldl (fun t : State => t.hx.lowerSide) _ (by intros; simp) _ _),
    by (unfold offerPendingSets; exact keeps_foldl (fun t : State => t.hx.timer) _ (by intros; simp) _ _)⟩

@[simp] theorem commitStep_frame (s : State) :
    (commitStep s).li = s.li ∧ (commitStep s).fs = s.fs ∧ (commitStep s).fa = s.fa ∧
    (commitStep s).cu = s.cu ∧ (commitStep s).pli = s.pli ∧ (commitStep s).lb = s.lb ∧
    (commitStep s).hx = s.hx ∧ (commitStep s).op = s.op ∧
    (commitStep s).freeCount = s.freeCount ∧ (commitStep s).pending = s.pending ∧
    (commitStep s).sc.scaling = s.sc.scaling ∧ (commitStep s).sc.outgoing = s.sc.outgoing ∧
    (commitStep s).sc.staging = s.sc.staging ∧ (commitStep s).cp.config = s.cp.config ∧
    (commitStep s).cp.lock = s.cp.lock ∧ (commitStep s).cp.digest = s.cp.digest ∧
    (commitStep s).cp.station = s.cp.station ∧ (commitStep s).cp.ownership = s.cp.ownership ∧
    (commitStep s).cp.result = s.cp.result ∧ (commitStep s).cp.dataOut = s.cp.dataOut ∧
    (commitStep s).cp.enables = s.cp.enables ∧ (commitStep s).cp.totals = s.cp.totals ∧
    (commitStep s).cp.resetHeld = s.cp.resetHeld := by
  refine ⟨?_, ?_, ?_, ?_, ?_, ?_, ?_, ?_, ?_, ?_, ?_, ?_, ?_, ?_, ?_, ?_, ?_, ?_, ?_, ?_, ?_, ?_, ?_⟩ <;> (unfold commitStep; (repeat' split) <;> simp)

@[simp] theorem shiftOut_frame (s : State) :
    (shiftOut s).li = s.li ∧ (shiftOut s).fs = s.fs ∧ (shiftOut s).fa = s.fa ∧
    (shiftOut s).cu = s.cu ∧ (shiftOut s).pli = s.pli ∧ (shiftOut s).lb = s.lb ∧
    (shiftOut s).hx = s.hx ∧ (shiftOut s).sc = s.sc ∧ (shiftOut s).op = s.op ∧
    (shiftOut s).freeCount = s.freeCount ∧ (shiftOut s).pending = s.pending ∧
    (shiftOut s).cp.config = s.cp.config ∧ (shiftOut s).cp.lock = s.cp.lock ∧
    (shiftOut s).cp.digest = s.cp.digest ∧ (shiftOut s).cp.station = s.cp.station ∧
    (shiftOut s).cp.ownership = s.cp.ownership ∧ (shiftOut s).cp.result = s.cp.result ∧
    (shiftOut s).cp.events = s.cp.events ∧ (shiftOut s).cp.enables = s.cp.enables ∧
    (shiftOut s).cp.totals = s.cp.totals ∧ (shiftOut s).cp.resetHeld = s.cp.resetHeld := by
  refine ⟨?_, ?_, ?_, ?_, ?_, ?_, ?_, ?_, ?_, ?_, ?_, ?_, ?_, ?_, ?_, ?_, ?_, ?_, ?_, ?_, ?_⟩ <;> rfl

@[simp] theorem startStation_frame (s : State) :
    (startStation s).li = s.li ∧ (startStation s).fa = s.fa ∧ (startStation s).hx = s.hx ∧
    (startStation s).sc = s.sc ∧ (startStation s).op = s.op ∧
    (startStation s).freeCount = s.freeCount ∧ (startStation s).pending = s.pending ∧
    (startStation s).cu.agreed = s.cu.agreed ∧ (startStation s).cu.timers = s.cu.timers ∧
    (startStation s).cu.heldExpiries = s.cu.heldExpiries ∧
    (startStation s).cu.owedCloses = s.cu.owedCloses ∧
    (startStation s).pli.attached = s.pli.attached ∧ (startStation s).pli.urgent = s.pli.urgent ∧
    (startStation s).pli.bulk = s.pli.bulk ∧
    (startStation s).pli.urgentAttempts = s.pli.urgentAttempts ∧
    (startStation s).pli.urgentDiscards = s.pli.urgentDiscards ∧
    (startStation s).pli.tx = s.pli.tx ∧ (startStation s).pli.tx.isSome = s.pli.tx.isSome ∧
    (startStation s).lb.build = s.lb.build ∧ (startStation s).lb.frames = s.lb.frames ∧
    (startStation s).lb.decisions = s.lb.decisions ∧ (startStation s).cp.config = s.cp.config ∧
    (startStation s).cp.station = s.cp.station ∧ (startStation s).cp.result = s.cp.result ∧
    (startStation s).cp.dataOut = s.cp.dataOut ∧ (startStation s).cp.events = s.cp.events ∧
    (startStation s).cp.enables = s.cp.enables ∧ (startStation s).cp.totals = s.cp.totals ∧
    (startStation s).cp.resetHeld = s.cp.resetHeld := by
  refine ⟨?_, ?_, ?_, ?_, ?_, ?_, ?_, ?_, ?_, ?_, ?_, ?_, ?_, ?_, ?_, ?_, ?_, ?_, ?_, ?_, ?_, ?_, ?_, ?_, ?_, ?_, ?_, ?_, ?_⟩ <;> rfl

@[simp] theorem holdReset_frame (s : State) :
    (holdReset s).li = s.li ∧ (holdReset s).fs = s.fs ∧ (holdReset s).fa = s.fa ∧
    (holdReset s).cu = s.cu ∧ (holdReset s).lb = s.lb ∧ (holdReset s).hx = s.hx ∧
    (holdReset s).sc = s.sc ∧ (holdReset s).op = s.op ∧ (holdReset s).freeCount = s.freeCount ∧
    (holdReset s).pending = s.pending ∧ (holdReset s).pli.urgent = s.pli.urgent ∧
    (holdReset s).pli.bulk = s.pli.bulk ∧
    (holdReset s).pli.urgentAttempts = s.pli.urgentAttempts ∧
    (holdReset s).pli.urgentDiscards = s.pli.urgentDiscards ∧
    (holdReset s).pli.idleMonitor = s.pli.idleMonitor ∧ (holdReset s).cp.config = s.cp.config ∧
    (holdReset s).cp.lock = s.cp.lock ∧ (holdReset s).cp.digest = s.cp.digest ∧
    (holdReset s).cp.station = s.cp.station ∧ (holdReset s).cp.ownership = s.cp.ownership ∧
    (holdReset s).cp.result = s.cp.result ∧ (holdReset s).cp.dataOut = s.cp.dataOut ∧
    (holdReset s).cp.events = s.cp.events ∧ (holdReset s).cp.enables = s.cp.enables ∧
    (holdReset s).cp.totals = s.cp.totals := by
  refine ⟨?_, ?_, ?_, ?_, ?_, ?_, ?_, ?_, ?_, ?_, ?_, ?_, ?_, ?_, ?_, ?_, ?_, ?_, ?_, ?_, ?_, ?_, ?_, ?_, ?_⟩ <;> rfl

@[simp] theorem beginCommit_frame (s : State) (b : BankName) (t : TableName) (p : Nat) :
    (beginCommit b t p s).li = s.li ∧ (beginCommit b t p s).fs = s.fs ∧
    (beginCommit b t p s).fa = s.fa ∧ (beginCommit b t p s).cu = s.cu ∧
    (beginCommit b t p s).pli = s.pli ∧ (beginCommit b t p s).lb = s.lb ∧
    (beginCommit b t p s).hx = s.hx ∧ (beginCommit b t p s).op = s.op ∧
    (beginCommit b t p s).cp = s.cp ∧ (beginCommit b t p s).freeCount = s.freeCount ∧
    (beginCommit b t p s).pending = s.pending ∧ (beginCommit b t p s).sc.scaling = s.sc.scaling ∧
    (beginCommit b t p s).sc.outgoing = s.sc.outgoing ∧
    (beginCommit b t p s).sc.staging = s.sc.staging := by
  refine ⟨?_, ?_, ?_, ?_, ?_, ?_, ?_, ?_, ?_, ?_, ?_, ?_, ?_, ?_⟩ <;> simp [beginCommit]

end Sys2Proof.Machine
end

