-- ==== Sys2Proof/Tests/Slice0.lean ====
section
/-! SUPPORT. Tests: ill-formed terms the check refuses, small runs of single commands, and for each
statement with hypotheses a state and operands that meet them. -/

set_option Elab.async false

open Sys2Proof Sys2Proof.Machine

namespace Sys2Proof.Tests

/-! ## Small states -/

/-- Two bands of 288 lines, station 0 above and station 1 below. -/
def twoBands : ConfigItems :=
  { ConfigItems.default with
    ruleCount := 2
    rules :=
      [{ limit := 288, owner := 0, kind := .full }, { limit := 576, owner := 1, kind := .full }] ++
        List.replicate 6 { limit := 0, owner := 0, kind := .full } }

/-- Stations 0 and 1 ACTIVE, field 10 the last closed. -/
def pair : AgreedState :=
  { AgreedState.reset with
    roster :=
      [{ station := 0, standing := .active, missed := 0 },
        { station := 1, standing := .active, missed := 0 }]
    lastClosed := some 10 }

/-- Station n started with that table, attached, with Bank A READY, in a membership state. -/
def station (n : Station) (m : Membership) : State :=
  let r := State.afterReset n
  { r with
    cu := { r.cu with membership := m, agreed := pair }
    pli := { r.pli with attached := true, idleMonitor := true }
    sc := { r.sc with bankA := { Bank.cleared with state := .ready, pages := BitVec.allOnes 16 } }
    cp :=
      { r.cp with
        config := twoBands, lock := true, digest := configDigest twoBands
        ownership := deriveOwnership twoBands n } }

/-- Station 0 as a MEMBER. -/
abbrev m0 : State := station 0 .member

/-- With an Urgent Queue. -/
def withUrgent (qs : List Queued) (s : State) : State := s.setPli { s.pli with urgent := qs }

/-- With a parcel of the station's own in transmission, the head of the Urgent Queue. -/
def sending (p : Parcel) (q : Queued) (s : State) : State :=
  s.setPli
    { s.pli with urgent := [q], tx := some (beginTransmission false p) }

/-- With an Agreed State changed. -/
def agreeing (f : AgreedState → AgreedState) (s : State) : State := s.setAgreed (f s.cu.agreed)

/-- What a command's next state shows. -/
def shown {α : Type} (c : Instr) (s : State) (get : State → α) : Option α :=
  match exec c s with
  | .next t => some (get t)
  | _ => none

/-- A line of one value. -/
def plain (v : Sample) : LineSamples :=
  { y := List.replicate 720 v, cb := List.replicate 360 v, cr := List.replicate 360 v }

/-! ## Ill-formed commands are refused by the check -/

theorem test_fieldBegin_illFormed : wellFormed (.fieldBegin [0x4000, 5]) = false := by decide
theorem test_lineRecord_illFormed : wellFormed (.lineRecord []) = false := by decide
theorem test_fieldEnd_illFormed : wellFormed (.fieldEnd [0x8000, 5]) = false := by decide
theorem test_takeSnapshot_illFormed :
    wellFormed (.takeSnapshot 0 0 1 (pair.roster.reverse |> fun r => { pair with roster := r })) =
      false := by decide
theorem test_takeJoin_illFormed : wellFormed (.takeJoin 0 0 0 true []) = false := by decide
theorem test_takeForce_illFormed : wellFormed (.takeForce 0 0 (.other 4) 0) = false := by decide
theorem test_takeLoopSet_illFormed : wellFormed (.takeLoopSet 0 0 .auto 65536) = false := by decide
theorem test_takeBankSelect_illFormed :
    wellFormed (.takeBankSelect 0 0 (.other 1) 0 0) = false := by decide
theorem test_takeReport_illFormed : wellFormed (.takeReport 0 0 0 none 4 0) = false := by decide
theorem test_takeReport_figures_illFormed :
    wellFormed (.takeReport 0 0 0 (some Figures.zero) 0 0) = false := by decide
theorem test_takeHalo_illFormed :
    wellFormed
        (.takeHalo 0 0 { addressee := 0, frame := 0, line := 0, samples := ⟨[], [], []⟩ }) =
      false := by decide
theorem test_transactionIncomplete_illFormed :
    wellFormed (.transactionIncomplete 64) = false := by decide
theorem test_configWrite_illFormed : wellFormed (.configWrite 0x0B 0) = false := by decide
theorem test_stagingPageWrite_illFormed : wellFormed (.stagingPageWrite 0x80 0) = false := by decide
theorem test_writeOther_illFormed :
    wellFormed (.writeOther #v[3, 1, 0, 0, 0, 0, 0, 252]) = false := by decide
theorem test_parcelVoid_illFormed :
    wellFormed
        (.parcelVoid
          { complete := true, priority := 0, station := 0, epoch := 0, length := 0
            payload := List.replicate 2048 0, check := 0, content := .leave }) =
      false := by decide +kernel

/-! ## The hypotheses of the Control Port's statements are met -/

theorem witness_live : Live m0 ∧ Live State.reset := ⟨rfl, rfl⟩

theorem witness_configWrite :
    Live State.reset ∧ State.reset.cp.config.rules.length = 8 ∧ State.reset.cp.lock = false ∧
      (∀ i ∈ [0, 0x0A, 0x10, 0x27], isConfigItem i = true) ∧
      configRange 2 = (1, 8) ∧ configRange 0x10 = (0, 576) ∧ configRange 0x26 = (0, 7) ∧
      configRange 0x27 = (0, 1) ∧ m0.cp.lock = true ∧ m0.cp.config.rules.length = 8 :=
  ⟨rfl, by decide⟩

theorem test_configWrite_boundary :
    shown (.configWrite 2 8) State.reset (fun t => t.cp.config.ruleCount) = some 8 ∧
      shown (.configWrite 2 9) State.reset (fun t => t.cp.result.code) = some .badValue := by
  decide +kernel

theorem witness_staging :
    Live m0 ∧ m0.sc.staging.length = 64 ∧ (0x40#16).toNat = 0x40 ∧ (0x7F#16).toNat = 0x7F ∧
      (0x3F#16).toNat < 0x40 ∧ 0x7F < (0x80#16).toNat ∧
      (2047#32).toInt = 2047 ∧ (-2048 : Word32).toInt = -2048 ∧ (2048#32).toInt = 2048 ∧
      (-2049 : Word32).toInt = -2049 :=
  ⟨rfl, by decide⟩

theorem test_stagingPageWrite :
    shown (.stagingPageWrite 0x40 2047) m0 (fun t => (t.sc.staging[0]?, t.cp.result.code)) =
        some (some 2047, .ok) ∧
      shown (.stagingPageWrite 0x7F 2048) m0 (fun t => (t.sc.staging[63]?, t.cp.result.code)) =
        some (some 0, .badValue) := by
  decide +kernel

theorem witness_flagWords : Live m0 ∧ (4095#32).toNat < 4096 ∧ 4096 ≤ (4096#32).toNat :=
  ⟨rfl, by decide⟩

/-- With every flag set, and every total at 3. -/
def flagged : State :=
  m0.setCp
    { m0.cp with
      events := BitVec.allOnes 12
      totals :=
        { temporalSeg := 3, temporalProg := 3, spatialSeg := 3, spatialProg := 3
          unrepairedSeg := 3, unrepairedProg := 3, lostSeg := 3, lostProg := 3
          lateFrames := 3, clampedRows := 3, unagreedFrames := 3, fieldDiscards := 3
          strayLines := 3, parcelDiscards := 3 } }

theorem test_eventEnablesWrite :
    shown (.eventEnablesWrite 0x800) flagged attention = some true ∧
      shown (.eventEnablesWrite 0) flagged attention = some false ∧
      shown (.eventEnablesWrite 0x1000) flagged (fun t => (t.cp.enables, t.cp.result.code)) =
        some (0, .badValue) := by
  decide +kernel

theorem test_eventClear :
    shown (.eventClear 1) flagged (fun t => t.cp.events) = some 0xFFE ∧
      shown (.eventClear 0x1001) flagged (fun t => (t.cp.events, t.cp.result.code)) =
        some (0xFFF, .badValue) := by
  decide +kernel

theorem test_segmentMark_programmeClear :
    shown (.segmentMark 0) flagged (fun t => (t.cp.totals.lostSeg, t.cp.totals.lostProg)) =
        some (0, 3) ∧
      shown (.programmeClear 0) flagged (fun t => (t.cp.totals.lostProg, t.cp.totals.strayLines)) =
        some (0, 0) := by
  decide +kernel

theorem test_transactions :
    shown .noRequest m0 (fun t => t.cp.result == m0.cp.result) = some true ∧
      shown (.transactionIncomplete 63) m0 (fun t => t.cp.result == m0.cp.result) = some true ∧
      shown (.writeOther #v[1, 2, 0, 0, 0, 0, 0, 253]) m0
        (fun t => (t.cp.result.code, t.cp.result.value)) = some (.ok, 0) ∧
      shown (.writeOther #v[1, 2, 0, 0, 0, 0, 0, 0]) m0 (fun t => t.cp.result.code) =
        some .badValue := by
  decide +kernel

theorem witness_otherTransactions :
    Live m0 ∧ (#v[0, 0, 0, 0, 0, 0, 0, 0] : Vector Byte 8)[0] = 0 ∧
      checkHolds #v[1, 0, 0, 0, 0, 0, 0, 0] = false ∧
      checkHolds #v[1, 2, 0, 0, 0, 0, 0, 253] = true ∧
      readItem m0 (0x200 : Nat) = some 0 ∧ (0x200 : Nat) ≠ timeLeftItem ∧
      readItem m0 0x28 = none ∧ readItem m0 0x451 ≠ none ∧ readItem m0 0x452 = none ∧
      isConfigItem 0x3F = false := by
  refine ⟨rfl, rfl, rfl, rfl, by decide +kernel, by decide, by decide, ?_, by decide +kernel,
    by decide⟩
  simp only [readItem, groupOf]
  decide +kernel

theorem witness_start :
    Live State.reset ∧ State.reset.cu.membership = .offline ∧
      tableFault State.reset.cp.config 1 = some (8, 5) ∧
      tableFault State.reset.cp.config State.reset.cp.station = none ∧
      State.reset.sc.bankA.state ≠ .ready ∧
      (station 0 .stopped).cp.resetHeld = false ∧
      (station 0 .stopped).cu.membership = .stopped ∧ tableFault twoBands 0 = none ∧
      (station 0 .stopped).sc.bankA.state = .ready ∧
      m0.cu.membership ≠ .offline ∧ m0.cu.membership ≠ .stopped :=
  ⟨rfl, by decide +kernel⟩

/-- A table of two rules, the rest as in the default. -/
def banded (a b : BandRule) : ConfigItems :=
  { ConfigItems.default with
    ruleCount := 2, rules := [a, b] ++ List.replicate 6 { limit := 0, owner := 0, kind := .full } }

/-- Rule i of a table. -/
def ruleOf (c : ConfigItems) (i : Nat) : BandRule :=
  c.rules.getD i { limit := 0, owner := 0, kind := .full }

/-- Each of these tables meets the hypotheses of one check of R4, in order, the last of none. -/
theorem witness_table :
    (∀ c ∈ [twoBands, banded ⟨288, 0, .full⟩ ⟨288, 1, .full⟩, banded ⟨288, 0, .full⟩ ⟨570, 1, .full⟩,
        banded ⟨4, 0, .full⟩ ⟨576, 1, .full⟩, banded ⟨288, 1, .full⟩ ⟨576, 1, .full⟩,
        banded ⟨288, 0, .full⟩ ⟨576, 1, .fill⟩], TableOf c (ruleOf c)) ∧
      (ruleOf (banded ⟨288, 0, .full⟩ ⟨288, 1, .full⟩) 1).limit ≤
        (ruleOf (banded ⟨288, 0, .full⟩ ⟨288, 1, .full⟩) 0).limit ∧
      (ruleOf twoBands 0).limit < (ruleOf twoBands 1).limit ∧
      lowerLimit (ruleOf twoBands) 1 + 8 ≤ (ruleOf twoBands 1).limit ∧
      (ruleOf (banded ⟨4, 0, .full⟩ ⟨576, 1, .full⟩) 0).limit <
        lowerLimit (ruleOf (banded ⟨4, 0, .full⟩ ⟨576, 1, .full⟩)) 0 + 8 ∧
      (ruleOf (banded ⟨288, 0, .full⟩ ⟨576, 1, .fill⟩) 1).kind = .fill ∧
      tableFault (banded ⟨288, 0, .full⟩ ⟨576, 1, .fill⟩) 1 = none := by
  refine ⟨?_, by decide⟩
  intro c hc
  fin_cases hc <;> exact ⟨by decide, by decide, by decide, by decide⟩

theorem test_table :
    tableFault (banded ⟨288, 0, .full⟩ ⟨288, 1, .full⟩) 0 = some (1, 1) ∧
      tableFault (banded ⟨288, 0, .full⟩ ⟨570, 1, .full⟩) 0 = some (1, 2) ∧
      tableFault (banded ⟨4, 0, .full⟩ ⟨576, 1, .full⟩) 0 = some (0, 3) ∧
      tableFault (banded ⟨288, 1, .full⟩ ⟨576, 1, .full⟩) 0 = some (1, 4) ∧
      tableFault twoBands 2 = some (8, 5) ∧
      (deriveOwnership (banded ⟨288, 0, .full⟩ ⟨576, 1, .fill⟩) 0).lower = .fillSeam ∧
      (deriveOwnership (banded ⟨288, 0, .full⟩ ⟨576, 1, .fill⟩) 1).topLines = none := by decide

theorem test_start :
    shown (.start 0) (station 1 .stopped) (fun t => (t.cu.membership, t.cp.ownership.coreLow)) =
      some (.listening, 288) := by decide +kernel

theorem witness_stop :
    Live m0 ∧ m0.cu.membership = .member ∧ m0.pli.urgent.length < 8 ∧
      8 ≤ (withUrgent (List.replicate 8 .leave) m0).pli.urgent.length ∧
      (station 0 .isolated).cu.membership = .isolated ∧
      (station 0 .leaving).cu.membership = .leaving ∧ m0.lb.build = none ∧
      neighbourOf m0 .upper = none ∧ neighbourOf m0 .lower ≠ none ∧
      sideUnresolved m0 .lower = false ∧
      sideUnresolved (m0.setSide .lower (some { lines := none })) .lower = true ∧
      m0.pli.tx = none :=
  ⟨rfl, by decide⟩

theorem test_stop :
    shown (.stop 0) m0 (fun t => (t.cu.membership, t.pli.urgent)) = some (.leaving, [.leave]) ∧
      shown (.stop 0) (station 0 .isolated) (fun t => (t.cu.membership, t.pli.attached)) =
        some (.stopped, false) := by
  decide +kernel

theorem test_stop_resetsDirections :
    shown (.stop 0)
        (((m0.setDir .lower { Direction.reset 4 with credit := 0, release := 2 }).setSide .lower
          (some { lines := none })).setPli
          { m0.pli with
            bulk := [{ addressee := 1, frame := 12, line := 285, samples := plain 5 }] })
        (fun t =>
          (t.hx.down.credit, t.hx.down.release, t.pli.bulk.length,
            t.hx.lowerSide.map fun r => r.lines.map (·.length))) =
      some (2, 0, 0, some (some 4)) := by decide +kernel

theorem witness_forceAndLoop :
    Live m0 ∧ argForce 0x21 = some (.film22, 1) ∧ argForce 0x34 = some (.film32, 4) ∧
      argForce 0x4F = some (.release, 15) ∧ argLoop 0x103FF = some (.held, 1023) ∧
      argLoop 0x2FFFF = some (.off, 65535) ∧ m0.cu.membership = .member ∧
      m0.pli.urgent.length < 8 ∧
      8 ≤ (withUrgent (List.replicate 8 .leave) m0).pli.urgent.length :=
  ⟨rfl, by decide⟩

theorem test_force :
    shown (.force 0x34) m0 (fun t => t.pli.urgent) = some [.force .film32 4] ∧
      shown (.force 0x35) m0 (fun t => t.cp.result.code) = some .badValue := by
  decide +kernel

theorem test_loop :
    shown (.loop 0x103FF) m0 (fun t => t.pli.urgent) = some [.loopSet .held 1023] ∧
      shown (.loop 0x10400) m0 (fun t => t.cp.result.code) = some .badValue := by
  decide +kernel

theorem witness_badArguments :
    Live m0 ∧ 5 ≤ (80#32).toNat / 16 ∧ (34#32).toNat / 16 = 2 ∧ 1 < (34#32).toNat % 16 ∧
      (53#32).toNat / 16 = 3 ∧ 4 < (53#32).toNat % 16 ∧ 3 ≤ (0x30000#32).toNat / 65536 ∧
      (0x10400#32).toNat / 65536 = 1 ∧ 1023 < (0x10400#32).toNat % 65536 :=
  ⟨rfl, by decide⟩

theorem witness_selectBank :
    Live m0 ∧ 1 < (2#32).toNat ∧ m0.cu.membership = .member ∧ m0.cu.agreed.lastClosed = some 10 ∧
      m0.cu.agreed.bank.pending = none ∧ (∀ x d f, Queued.bankSelect x d f ∉ m0.pli.urgent) ∧
      (bankOf m0 .bankA).state = .ready ∧ (bankOf m0 .bankB).state = .empty ∧
      m0.pli.urgent.length < 8 ∧
      (∀ x d f, Queued.bankSelect x d f ∉ (withUrgent (List.replicate 8 .leave) m0).pli.urgent) ∧
      8 ≤ (withUrgent (List.replicate 8 .leave) m0).pli.urgent.length ∧
      (bankOf (m0.setBank .bankB { Bank.cleared with state := .writing }) .bankB).state =
        .writing ∧
      (agreeing (fun a => { a with lastClosed := none }) m0).cu.agreed.lastClosed = none :=
  ⟨rfl, by decide, rfl, rfl, rfl, by simp [station, State.afterReset], rfl, rfl, by decide,
    by simp [withUrgent, State.setPli], by decide, rfl, rfl⟩

theorem test_selectBank :
    shown (.selectBank 0) m0 (fun t => t.pli.urgent) = some [.bankSelect .bankA 0 14] := by
  decide +kernel

/-- A commit of the last page of Bank B. -/
def lastPage : Commit :=
  { bank := .bankB, table := .horizontal, page := 7, coeffs := List.replicate 64 1 }

/-- With that commit in flight. -/
def committing (s : State) : State := s.setSc { s.sc with commit := some lastPage }

theorem witness_commitPage :
    Live m0 ∧ 31 < (32#32).toNat ∧
      (31#32).toNat = (if BankName.bankB = .bankA then 0 else 16) +
        (if TableName.horizontal = .vertical then 0 else 8) + 7 ∧
      (0#32).toNat = (if BankName.bankA = .bankA then 0 else 16) +
        (if TableName.vertical = .vertical then 0 else 8) + 0 ∧
      (committing m0).sc.commit ≠ none ∧ m0.sc.commit = none ∧ ProtectedBank m0 .bankA ∧
      ¬ProtectedBank m0 .bankB := by
  refine ⟨rfl, by decide, by decide, by decide, by simp [committing, State.setSc], rfl,
    Or.inl ⟨Or.inl rfl, Or.inl rfl⟩, ?_⟩
  simp [ProtectedBank, Applies, station, State.afterReset, pair, AgreedState.reset]

theorem test_commitPage :
    shown (.commitPage 31) m0 (fun t => (t.sc.bankB.state, t.sc.commit.map (·.page))) =
      some (.writing, some 7) ∧
      shown (.commitPage 0) m0 (fun t => t.cp.result.code) = some .bankActive := by
  decide +kernel

theorem witness_clearBank :
    Live m0 ∧ 1 < (2#32).toNat ∧ (∃ c, (committing m0).sc.commit = some c ∧ c.bank = .bankB) ∧
      (∀ c, m0.sc.commit = some c → c.bank ≠ .bankB) ∧ ProtectedBank m0 .bankA ∧
      ¬ProtectedBank m0 .bankB := by
  refine ⟨rfl, by decide, ⟨lastPage, rfl, rfl⟩, by simp [station, State.afterReset],
    Or.inl ⟨Or.inl rfl, Or.inl rfl⟩, ?_⟩
  simp [ProtectedBank, Applies, station, State.afterReset, pair, AgreedState.reset]

theorem test_clearBank :
    shown (.clearBank 1) m0 (fun t => (t.sc.bankB.state, t.cp.result.code)) = some (.empty, .ok) ∧
      shown (.clearBank 0) m0 (fun t => t.cp.result.code) = some .bankActive := by
  decide +kernel

theorem witness_commitComplete :
    Live (committing m0) ∧ (committing m0).sc.commit = some lastPage ∧ lastPage.page ≤ 7 ∧
      lastPage.coeffs.length = 64 ∧ (bankOf (committing m0) lastPage.bank).vertical.length = 512 ∧
      (bankOf (committing m0) lastPage.bank).horizontal.length = 512 :=
  ⟨rfl, rfl, by decide, by decide, by decide +kernel, by decide +kernel⟩

theorem test_commitComplete :
    shown .commitComplete (committing m0)
        (fun t => (t.sc.bankB.state, t.sc.bankB.pages, t.sc.bankB.digest, t.sc.commit.isNone)) =
      some (.loading, 0x8000, 64, true) := by decide +kernel

/-! ## The station as a whole -/

theorem witness_step : State.reset.pending = [] ∧ step State.reset = .next State.reset := ⟨rfl, rfl⟩

theorem witness_heldPin :
    Live m0 ∧ (m0.setCp { m0.cp with resetHeld := true }).cp.resetHeld = true ∧
      ∀ n, Instr.rowEmit ≠ .powerOnReset n := ⟨rfl, rfl, by simp⟩

theorem test_resetPin :
    shown .resetPinDrivenLow m0 (fun t => (t.pli.attached, t.cp.resetHeld)) =
        some (false, true) ∧
      shown (.powerOnReset 5) m0 (fun t => (t.cu.membership, t.cp.station)) =
        some (.offline, 5) ∧
      shown (.reset 0 5) (m0.setCp { m0.cp with result := { PortResult.none with kind := 3 } })
        (fun t => (t.cp.station, t.cp.dataOut[0], t.cp.result.kind)) = some (5, 3, 0) := by
  decide +kernel

/-! ## Line Intake -/

/-- Station 0 with every slot CLOSED and unheld, the slot of index 1 claimed longest ago. -/
def closedSlots : State :=
  let held (c : Word16) : Slot :=
    { occupant := some
        { closed := true, field := c, parity := .top, claim := c, declared := none, table := [] }
      holders := [] }
  m0.setFs { slots := [held 2, held 1, held 3, held 4, held 5], claimCounter := 6 }

/-- A slot held by the build. -/
def heldSlot : Slot := { occupant := none, holders := [.build] }

/-- The analysis of a discarded field. -/
def unread (f : FieldNo) : Analysis :=
  { field := f, claim := none, start := none
    held := { current := none, previous := none, beforePrevious := none } }

/-- Station 0 with field 12 open in the slot of index 0, its line 5 VALID. -/
def openState : State :=
  (m0.setFs
    { slots :=
        { occupant := some
            { closed := false, field := 12, parity := .top, claim := 0, declared := none
              table :=
                [{ line := 0, state := .absent, spans := [], samples := none },
                  { line := 5, state := .valid, spans := [], samples := some (plain 7) },
                  { line := 144, state := .absent, spans := [], samples := none }] }
          holders := [] } :: List.replicate 4 Slot.free
      claimCounter := 1 }).setLi
    { marker := some { field := 12, parity := .top, slot := some 0 }, duplicates := 0 }

theorem witness_fieldBegin_free :
    Live m0 ∧ m0.cu.membership.running = true ∧ m0.li.marker = none ∧ busKind 0x8000 = 2 ∧
      m0.fs.slots[0]? = some Slot.free ∧ Slot.free.holders = [] ∧ Slot.free.occupant = none ∧
      newerThan (13 - 2) m0.cu.agreed.lastClosed = true ∧
      newerThan (12 - 2) m0.cu.agreed.lastClosed = false :=
  ⟨rfl, by decide⟩

theorem witness_fieldBegin_closed :
    ∃ sl o, Live closedSlots ∧ closedSlots.cu.membership.running = true ∧
      closedSlots.li.marker = none ∧ closedSlots.fs.slots[1]? = some sl ∧ sl.holders = [] ∧
      sl.occupant = some o ∧ o.closed = true ∧
      (∀ x ∈ closedSlots.fs.slots, x.occupant ≠ none) ∧
      (closedSlots.fs.claimCounter - 1 - 2).toNat <
        (closedSlots.fs.claimCounter - 1 - o.claim).toNat :=
  ⟨_, _, rfl, rfl, rfl, rfl, rfl, rfl, rfl, by decide, by decide⟩

theorem test_fieldBegin :
    shown (.fieldBegin [0x8000, 13]) m0
        (fun t => (t.li.marker.map (·.slot), t.fs.claimCounter, t.cu.overtakenCount)) =
        some (some (some 0), 1, 1) ∧
      shown (.fieldBegin [0xA000, 13]) closedSlots (fun t => t.li.marker) =
        some (some { field := 13, parity := .bottom, slot := some 1 }) := by decide +kernel

theorem witness_fieldBegin_discard :
    Live (m0.setSlots (List.replicate 5 heldSlot)) ∧
      (m0.setSlots (List.replicate 5 heldSlot)).li.marker = none ∧
      (∀ sl ∈ (m0.setSlots (List.replicate 5 heldSlot)).fs.slots, sl.holders ≠ []) ∧
      m0.cu.membership = .member ∧ newerThan (13 - 2) m0.cu.agreed.lastClosed = true ∧
      newerThan (12 - 2) m0.cu.agreed.lastClosed = false ∧ m0.cp.ownership.isFull = true ∧
      decisionFor m0.lb 11 = none ∧ State.reset.cp.ownership.isFull = false :=
  ⟨rfl, rfl, by decide⟩

theorem test_fieldBegin_discard :
    shown (.fieldBegin [0x8000, 13])
        ((m0.setSlots (List.replicate 5 heldSlot)).setLb
          { m0.lb with frames := [{ frame := 11, overtaken := false }] })
        (fun t => (t.cp.totals.fieldDiscards, t.cu.overtakenCount, t.lb.newestBegun, t.lb.frames)) =
      some (1, 1, some 13, [{ frame := 11, overtaken := true }]) := by decide +kernel

theorem witness_fieldEnd :
    ∃ m o, Live openState ∧ openState.cu.membership.running = true ∧
      openState.li.marker = some m ∧ m.slot = some 0 ∧ m.field = 12 ∧
      ((openState.fs.slots[0]?).bind (·.occupant)) = some o ∧ openState.fa.pending.length < 16 ∧
      busKind 0xC090 = 3 ∧ busKind 0x8000 = 2 ∧ openState.cu.membership = .member ∧
      newerThan m.field openState.cu.agreed.lastClosed = true ∧
      (∀ x ∈ openState.cu.timers, x.field ≠ m.field) ∧ openState.cp.ownership.isFull = true ∧
      openState.lb.frames.length < 3 :=
  ⟨_, _, rfl, rfl, rfl, rfl, rfl, rfl, by decide, by decide, by decide, rfl, by decide,
    by decide, by decide, by decide⟩

theorem test_fieldEnd :
    shown (.fieldEnd [0xC090, 12]) openState
        (fun t => (t.cp.totals.lostSeg, t.cu.timers, t.lb.frames.map (·.frame))) =
        some (2, [{ field := 12, handed := false }], [12]) ∧
      shown (.fieldEnd [0xC090, 12])
        (closedSlots.setLi
          { closedSlots.li with marker := some { field := 12, parity := .top, slot := none } })
        (fun t => (t.cu.timers, t.lb.lastEnded, t.lb.frames.length)) =
        some ([{ field := 12, handed := false }], some 12, 0) := by decide +kernel

theorem witness_discardedEnd :
    ∃ m, Live (openState.setLi { openState.li with marker := some m }) ∧ m.slot = none ∧
      (openState.setLi { openState.li with marker := some m }).li.marker = some m ∧
      openState.fa.pending.length < 16 ∧
      16 ≤ (openState.setFa
        { openState.fa with
          pending := List.replicate 16 (unread 1) }).fa.pending.length ∧
      openState.cu.membership = .member ∧
      newerThan m.field openState.cu.agreed.lastClosed = true ∧ m.field ∉ openState.cu.heldExpiries ∧
      openState.pli.urgent = [] ∧ openState.cu.timers = [] ∧ openState.cp.ownership.isFull = true ∧
      joinQueued openState = false :=
  ⟨{ field := 12, parity := .top, slot := none }, rfl, rfl, rfl, by decide, by decide, rfl,
    by decide, by decide, rfl, rfl, by decide, by decide⟩

theorem witness_ignoredRecords :
    ∃ m, Live openState ∧ openState.li.marker = some m ∧ m.field = 12 ∧ (12#16 : FieldNo) ≠ 13 ∧
      (station 0 .stopped).cu.membership.running = false ∧ busKind 0x4000 = 1 ∧
      busKind 0xFFFF = 3 ∧ busParity 0x4000 = m.parity ∧ busParity 0x6000 ≠ m.parity ∧
      openState.cp.ownership.inWindow m.parity 144 = true ∧
      openState.cp.ownership.inWindow m.parity 145 = false :=
  ⟨_, rfl, rfl, rfl, by decide, rfl, by decide, by decide, by decide, by decide, by decide,
    by decide⟩

theorem test_strayLine :
    shown (.lineRecord [0x6000, 12]) openState (fun t => t.cp.totals.strayLines) = some 1 ∧
      shown (.lineRecord [0x4000]) openState (fun t => t.cp.totals.strayLines) = some 1 := by
  decide +kernel

/-- A record of field line 5 with one span, and 1440 samples of value 9. -/
def spanRecord : List Word16 := [3, 2] ++ List.replicate 1440 9

theorem witness_keptRecord :
    ∃ m sl o old, Live openState ∧ busKind 0x4205 = 1 ∧ openState.li.marker = some m ∧
      m.slot = some 0 ∧ m.parity = busParity 0x4205 ∧
      openState.cp.ownership.inWindow m.parity ((0x4205#16).toNat % 512) = true ∧
      openState.fs.slots[0]? = some sl ∧ sl.occupant = some o ∧
      (o.table.find? fun e => e.line == (0x4205#16).toNat % 512) = some old ∧
      recordWellFormed 0x4205 spanRecord = true ∧ busOverflow 0x4205 = false ∧
      busSpanCount 0x4205 = 1 ∧ recordWellFormed 0x4005 (spanRecord.drop 2) = true ∧
      busSpanCount 0x4005 = 0 ∧ recordWellFormed 0x4205 [] = false ∧ busOverflow 0x5005 = true :=
  ⟨_, _, _, _, rfl, by decide, rfl, rfl, by decide, by decide, rfl, rfl, rfl, by decide +kernel,
    by decide, by decide, by decide +kernel, by decide, by decide, by decide⟩

theorem test_lineRecord :
    shown (.lineRecord (0x4205 :: 12 :: spanRecord)) openState
        (fun t => (t.li.duplicates, (entryAt t 0 5).map (fun e => (e.state, e.spans)))) =
      some (1, some (.dropout, [{ start := 3, length := 2 }])) := by decide +kernel

/-! ## Waits, hand-overs and timers -/

/-- The Consensus Unit changed. -/
def consensus (f : Consensus → Consensus) (s : State) : State := s.setCu (f s.cu)

/-- At the end of the listen period, of the SNAPSHOT wait and of the isolation wait. -/
def listened : State := consensus (fun c => { c with listenCount := 2 }) (station 0 .listening)
def waited : State := consensus (fun c => { c with snapshotWait := 4 }) (station 0 .joining)
def rested : State := consensus (fun c => { c with isolationWait := 4 }) (station 0 .isolated)

theorem witness_waits :
    Live listened ∧ Live waited ∧ Live rested ∧ listened.cu.membership = .listening ∧
      listened.cu.listenCount = 2 ∧ joinQueued listened = false ∧
      listened.pli.urgent.length < 8 ∧ waited.cu.membership = .joining ∧
      waited.cu.snapshotWait = 4 ∧ joinQueued waited = false ∧
      rested.cu.membership = .isolated ∧ rested.cu.isolationWait = 4 ∧
      rested.pli.attached = true ∧
      8 ≤ (withUrgent (List.replicate 8 .leave) listened).pli.urgent.length ∧
      m0.cu.membership ≠ .listening ∧ m0.cu.membership ≠ .joining ∧
      m0.cu.membership ≠ .isolated :=
  ⟨rfl, rfl, rfl, by decide⟩

theorem test_listenPeriodEnd :
    shown .listenPeriodEnd listened
        (fun t => t.pli.urgent.map fun q => match q with | .join _ f _ => f | _ => false) =
      some [true] := by decide +kernel

theorem test_snapshotWaitEnd :
    shown .snapshotWaitEnd waited (fun t => (t.pli.urgent.length, t.cu.foundingBar)) =
      some (1, false) := by decide +kernel

theorem test_isolationWaitEnd :
    shown .isolationWaitEnd rested (fun t => t.cu.membership) = some .listening := by
  decide +kernel

/-- The analysis of a discarded field 12 at the head of the list, with its vote timer's expiry held. -/
def analysed : State :=
  consensus (fun c => { c with heldExpiries := [12] })
    (m0.setFa
      { m0.fa with pending := [{ unread 12 with start := some .nodata }] })

theorem witness_handover :
    ∃ a, Live analysed ∧ analysed.fa.pending = [a] ∧ a.field = 12 ∧
      analysed.cu.membership = .member ∧
      newerThan a.field analysed.cu.agreed.lastClosed = true ∧
      analysed.pli.urgent.length < 7 ∧ a.field ∈ analysed.cu.heldExpiries ∧
      a.field ∉ m0.cu.heldExpiries ∧ (∀ x ∈ analysed.pli.urgent, False) ∧
      Queued.close a.field ∉ analysed.pli.urgent ∧ m0.fa.pending = [] ∧
      8 ≤ (withUrgent (List.replicate 8 .leave) analysed).pli.urgent.length ∧
      (station 0 .isolated).cu.membership ≠ .member :=
  ⟨_, rfl, rfl, rfl, rfl, by decide, by decide, by decide, by decide,
    by simp [analysed, consensus, station, State.afterReset, State.setFa, State.setCu], by decide,
    rfl, by decide, by decide⟩

/-- A CLOSED slot of field f. -/
def closedField (f : FieldNo) (p : Parity) (table : List LineEntry) : Slot :=
  { occupant := some
      { closed := true, field := f, parity := p, claim := f, declared := none, table := table }
    holders := [] }

/-- A VALID entry of one value. -/
def validLine (l : Nat) (v : Sample) : LineEntry :=
  { line := l, state := .valid, spans := [], samples := some (plain v) }

/-- Fields 10 and 12 (TOP) and 11 (BOTTOM) held for the analysis of field 12; a core of two lines. -/
def analysing (current : List LineEntry) : State :=
  let s := m0.setFs
    { slots :=
        [closedField 10 .top [validLine 0 50], closedField 11 .bottom [validLine 0 70],
          closedField 12 .top current, Slot.free, Slot.free]
      claimCounter := 13 }
  s.setCp { s.cp with ownership := { s.cp.ownership with coreLow := 0, coreHigh := 2 } }

/-- The analysis of field 12, begun or not. -/
def analysis12 (start : Option AnalysisStart) : Analysis :=
  { field := 12, claim := some 12, start := start
    held := { current := some 2, previous := some 1, beforePrevious := some 0 } }

theorem wholeLines (y : Nat) :
    (viewFrameLine (analysing [validLine 0 40]) (asFound (analysing [validLine 0 40]) 2) y).y.length =
      720 := by
  have h : asFound (analysing [validLine 0 40]) 2 = some { slot := 2, parity := .top } := rfl
  rw [h]
  simp only [viewFrameLine]
  split
  · generalize y / 2 = l
    match l with
    | 0 => decide +kernel
    | n + 1 =>
      have blank : viewLine (analysing [validLine 0 40]) 2 (n + 1) = LineView.blank := rfl
      rw [blank]
      decide +kernel
  · decide +kernel

/-- The same with no core line to read. -/
def coreless : State :=
  (analysing [validLine 0 40]).setCp
    { m0.cp with ownership := { m0.cp.ownership with coreLow := 0, coreHigh := 0 } }

theorem witness_figures :
    settleStart (analysing [validLine 0 40]) (analysis12 none) = .reading 2 1 0 ∧
      slotParity (analysing [validLine 0 40]) 2 = some .top ∧
      (positionsOf (analysing [validLine 0 40]) .top 2 1 0).filter PositionRead.counted ≠ [] ∧
      slotParity coreless 2 = some .top ∧
      (positionsOf coreless .top 2 1 0).filter PositionRead.counted = [] ∧
      (analysis12 none).start = none :=
  ⟨by decide, by decide, by decide +kernel, by decide, by decide, rfl⟩

/-- A VALID entry that shows its first four positions alone. -/
def fourSamples (v : Sample) : LineEntry :=
  { validLine 0 v with samples := some { plain v with y := List.replicate 4 v } }

theorem test_figures :
    analysisResult (analysing [fourSamples 40]) (analysis12 (some (.reading 2 1 0))) =
      some
        { d1 := 120, d2 := 40, comb := 0, stillTotal := 40, stillCount := 4, samples := 4 } := by
  decide +kernel

theorem test_analysisHandover :
    shown .analysisHandover analysed (fun t => t.pli.urgent) =
        some [.report 12 none 0 0, .close 12] ∧
      shown .analysisHandover
        ((analysing [validLine 0 40]).setFa
          { (analysing [validLine 0 40]).fa with
            pending := [{ unread 11 with start := some .nodata }, analysis12 none] })
        (fun t => t.fa.pending.map (·.start)) =
      some [some (.reading 2 1 0)] := by decide +kernel

/-- Station 0 with the vote timers of fields 12 and 13 running, the result of 12 handed over, and the
CLOSEs of fields 10, 11 and 14 owed. -/
def timing : State :=
  consensus
    (fun c =>
      { c with
        timers := [{ field := 12, handed := true }, { field := 13, handed := false }]
        owedCloses := [10, 11, 14] })
    m0

/-- LEAVING with the LEAVE owed. -/
def owing : State := consensus (fun c => { c with leaveOwed := true }) (station 0 .leaving)

theorem witness_timers :
    Live timing ∧ timing.cu.membership = .member ∧
      ({ field := 12, handed := true } : VoteTimer) ∈ timing.cu.timers ∧
      ({ field := 13, handed := false } : VoteTimer) ∈ timing.cu.timers ∧
      (∀ x ∈ timing.cu.timers, x.field ≠ 14) ∧
      (∀ y ∈ timing.cu.timers, y.field = 12 → y = { field := 12, handed := true }) ∧
      newerThan 12 timing.cu.agreed.lastClosed = true ∧
      newerThan 10 timing.cu.agreed.lastClosed = false ∧ timing.pli.urgent.length < 8 ∧
      Queued.close 12 ∉ timing.pli.urgent ∧
      Queued.close 12 ∈ (withUrgent [.close 12] timing).pli.urgent ∧
      8 ≤ (withUrgent (List.replicate 8 .leave) timing).pli.urgent.length ∧
      (11 : FieldNo) ∈ timing.cu.owedCloses ∧ (station 0 .listening).cu.membership ≠ .member ∧
      owing.cu.membership = .leaving ∧ owing.cu.leaveOwed = true ∧ owing.pli.urgent.length < 8 :=
  ⟨rfl, by decide⟩

theorem witness_owedOrder :
    WithinHalf 9 (12 :: timing.cu.owedCloses) ∧ OldestFirst timing.cu.owedCloses := by
  change WithinHalf 9 [12, 10, 11, 14] ∧ OldestFirst [10, 11, 14]
  constructor
  · simp [WithinHalf]
  · simp only [OldestFirst, List.pairwise_cons, List.mem_cons, List.not_mem_nil, or_false,
      forall_eq_or_imp, forall_eq, IsEmpty.forall_iff, implies_true, List.Pairwise.nil, and_true]
    decide

theorem test_voteTimerExpiry :
    shown (.voteTimerExpiry 12) timing (fun t => (t.pli.urgent, t.cu.timers.length)) =
        some ([.close 12], 1) ∧
      shown (.voteTimerExpiry 13) timing (fun t => (t.pli.urgent, t.cu.heldExpiries)) =
        some ([], [13]) := by decide +kernel

theorem test_closeRequeue :
    shown .closeRequeue timing (fun t => (t.pli.urgent, t.cu.owedCloses)) =
      some ([.close 11, .close 14], []) := by decide +kernel

theorem test_leaveRequeue :
    shown .leaveRequeue owing (fun t => (t.pli.urgent, t.cu.leaveOwed)) =
      some ([.leave], false) := by decide +kernel

/-! ## The line -/

/-- A HALO toward station 1. -/
def toBelow : HaloParcel := { addressee := 1, frame := 12, line := 285, samples := plain 5 }

/-- Station 0 with a HALO queued. -/
def withBulk (s : State) : State := s.setPli { s.pli with bulk := [toBelow] }

/-- Detached. -/
def detached (s : State) : State := s.setPli { s.pli with attached := false }

theorem witness_idlePoint :
    Live m0 ∧ m0.cu.membership.running = true ∧ m0.pli.attached = true ∧ m0.pli.tx = none ∧
      m0.pli.urgent = [] ∧ m0.pli.bulk = [] ∧ (detached m0).pli.attached = false ∧
      ¬(m0.cu.membership = .isolated ∧ m0.cu.isolationWait = 4) ∧
      (detached rested).cu.membership = .isolated ∧ (detached rested).cu.isolationWait = 4 ∧
      (station 0 .stopped).cu.membership.running = false ∧
      (withUrgent [.leave] m0).pli.urgent = [.leave] ∧
      (withUrgent [.leave] m0).pli.urgentAttempts < 8 ∧
      kindPriority (queuedKind .leave) * 8 + m0.cp.station.val = 8 ∧
      (withBulk m0).pli.urgent = [] ∧ (withBulk m0).pli.bulk = [toBelow] ∧
      (withBulk m0).pli.bulkAttempts < 8 ∧
      8 ≤ (m0.setPli { m0.pli with urgent := [.leave], urgentAttempts := 8 }).pli.urgentAttempts ∧
      8 ≤ ((withBulk m0).setPli { (withBulk m0).pli with bulkAttempts := 8 }).pli.bulkAttempts ∧
      lengthInRange (contentKind .leave) (contentLength .leave) = true ∧
      lengthInRange (contentKind (.close 3)) (contentLength (.close 3)) = true :=
  ⟨rfl, by decide, rfl, rfl, rfl, rfl, rfl, by decide, rfl, rfl, by decide, rfl, by decide,
    by decide, rfl, rfl, by decide, by decide, by decide, by decide, by decide⟩

theorem witness_payload :
    toBelow.samples.cb[359]? = some 5 ∧
      toBelow.samples.y[2 * 359]? = some 5 ∧ toBelow.samples.cr[359]? = some 5 ∧
      toBelow.samples.y[2 * 359 + 1]? = some 5 :=
  ⟨by decide +kernel, by decide +kernel, by decide +kernel, by decide +kernel⟩

theorem test_payload :
    (contentWords (.bankSelect (.named .bankB) 7 12)).drop 1 = [7, 12] ∧
      (contentWords (.loopSet .held 900)).drop 1 = [900] ∧
      (contentWords (.report 11 none 1 2)).head? = some 11 ∧
      (contentWords (.join 9 true [1, 2, 3])).drop 2 = [1, 2, 3] ∧
      low10 (contentWord (.halo toBelow) 3) = 5 := by
  refine ⟨by decide, by decide, by decide, by decide, ?_⟩
  rw [contentWord, low10_sampleUnder]
  decide +kernel

theorem test_idlePoint :
    shown (.idlePoint (some 8)) (withUrgent [.leave] m0) (fun t => t.pli.tx.isSome) = some true ∧
      shown (.idlePoint (some 7)) (withUrgent [.leave] m0) (fun t => t.pli.tx.isSome) =
        some false ∧
      shown (.idlePoint none) (withUrgent [.close 11] m0)
        (fun t => t.pli.tx.map fun x => (x.sent.payload, intact x.sent)) =
        some (some ([11], true)) := by decide +kernel

theorem witness_detach :
    Live m0 ∧ m0.pli.attached = true ∧ m0.pli.idleMonitor = true ∧ m0.pli.urgentDiscards < 2 ∧
      2 ≤ (m0.setPli { m0.pli with urgentDiscards := 2 }).pli.urgentDiscards ∧
      (detached m0).pli.attached = false ∧ m0.cu.membership = .member ∧
      (station 0 .leaving).cu.membership = .leaving ∧
      (station 0 .isolated).cu.membership = .isolated := ⟨rfl, by decide⟩

theorem test_idleMonitorExpiry :
    shown .idleMonitorExpiry timing
        (fun t => (t.cu.membership, t.pli.attached, t.cu.timers, t.cp.events)) =
      some (.isolated, false, [], 8) := by decide +kernel

theorem test_ownTransmissionNotSeen :
    shown .ownTransmissionNotSeen owing (fun t => (t.cu.membership, t.cp.events)) =
      some (.stopped, 8) := by decide +kernel

theorem test_isolationNotice :
    shown .isolationNotice (m0.setPli { m0.pli with urgentDiscards := 2 })
        (fun t => (t.cu.membership, t.pli.urgentDiscards)) = some (.isolated, 0) := by
  decide +kernel

/-- Station 0's LEAVE on the line. -/
def ownLeave : Parcel := { sender := 0, epoch := 0, content := .leave }

/-- Its reading, with the check of R40. -/
def leaveReading (epoch : Epoch) : Reading :=
  let r : Reading :=
    { complete := true, priority := 1, station := 0, epoch := epoch, length := 0, payload := []
      check := 0, content := .leave }
  { r with check := crc16 (checkedBits r) }

/-- A transmission carrying a withdrawal mark. -/
def marked (cause : MarkCause) (s : State) : State :=
  s.setPli
    { s.pli with
      urgent := [.report 9 none 1 2]
      tx := some { beginTransmission false ownLeave with mark := some cause } }

theorem witness_cutAndVoid :
    ∃ x y, Live m0 ∧ m0.pli.tx = none ∧ (sending ownLeave .leave m0).pli.tx = some x ∧
      x.mark = none ∧ (marked .withdrawn m0).pli.tx = some y ∧ y.mark = some .withdrawn ∧
      y.bulk = false ∧ (marked .withdrawn m0).pli.urgent.head? = some (.report 9 none 1 2) ∧
      (detached m0).pli.attached = false ∧ m0.pli.attached = true :=
  ⟨_, _, rfl, rfl, rfl, rfl, rfl, rfl, rfl, rfl, rfl, rfl⟩

theorem test_parcelCutShort :
    shown .parcelCutShort (sending ownLeave .leave m0)
        (fun t => (t.pli.urgent, t.pli.urgentAttempts, t.pli.tx.isSome)) =
        some ([.leave], 0, false) ∧
      shown .parcelCutShort (marked .withdrawn m0)
        (fun t => (t.pli.urgent, t.hx.up.release, t.hx.down.release)) = some ([], 1, 2) := by
  decide +kernel

theorem test_parcelVoid :
    shown (.parcelVoid (leaveReading 0)) (sending ownLeave .leave m0)
        (fun t => (t.pli.urgentAttempts, t.pli.ackDrive)) = some (1, .recessive) := by
  decide +kernel

theorem witness_memberReceivers :
    Live m0 ∧ m0.pli.attached = true ∧ intact (leaveReading 0) = true ∧
      intact (leaveReading 1) = true ∧ m0.cu.membership = .member ∧
      (leaveReading 0).content = .leave ∧
      (station 0 .listening).cu.membership = .listening :=
  ⟨rfl, rfl, by decide +kernel, by decide +kernel, rfl, rfl, rfl⟩

theorem test_staleLeave :
    shown (.parcelVoid (leaveReading 1)) m0 (fun t => t.pli.ackDrive) = some .void := by
  decide +kernel

/-- The head of the Urgent Queue has used up its attempts. -/
def usedUp (q : Queued) (s : State) : State :=
  s.setPli { s.pli with urgent := [q, .leave], urgentAttempts := 8 }

/-- The head of the Bulk Queue has; its set is followed in the down direction. -/
def bulkUsedUp : State :=
  ((withBulk m0).setPli { (withBulk m0).pli with bulkAttempts := 8 }).setDir .lower
    { Direction.reset 4 with
      credit := 1
      outbound := [{ frame := 12, remaining := 1, taken := 0, lossCounted := false }] }

theorem witness_discard :
    ∃ r, Live (usedUp .leave m0) ∧ 8 ≤ (usedUp .leave m0).pli.urgentAttempts ∧
      (usedUp .leave m0).pli.urgent = .leave :: [.leave] ∧ m0.pli.urgentAttempts < 8 ∧
      m0.pli.bulkAttempts < 8 ∧ bulkUsedUp.pli.urgentAttempts < 8 ∧
      8 ≤ bulkUsedUp.pli.bulkAttempts ∧ bulkUsedUp.pli.bulk = toBelow :: [] ∧
      sideOf bulkUsedUp toBelow.addressee = some .lower ∧
      (dirOf bulkUsedUp .lower).outbound = [r] ∧ r.frame = toBelow.frame ∧ r.remaining = 1 ∧
      r.taken = 0 :=
  ⟨_, rfl, by decide, rfl, by decide, by decide, by decide, by decide, rfl, by decide, rfl, rfl,
    rfl, rfl⟩

theorem test_parcelDiscard :
    shown .parcelDiscard (usedUp (.bankSelect .bankA 0 14) m0)
        (fun t => (t.pli.urgent, t.pli.urgentDiscards, t.cp.events)) =
        some ([.leave], 1, 0x204) ∧
      shown .parcelDiscard bulkUsedUp
        (fun t => (t.hx.down.setsLost, t.hx.down.credit, t.hx.down.outbound.length)) =
        some (1, 2, 0) := by decide +kernel

/-! ## Takes -/

/-- A parcel of station 1 with its content. -/
def from1 (c : Content) : Parcel := { sender := 1, epoch := 0, content := c }

theorem notOwn_of_idle {s : State} (h : s.pli.tx = none) (p : Parcel) : NotOwn s p := by
  intro x hx
  rw [h] at hx
  cases hx

theorem witness_outside :
    Live (station 0 .listening) ∧ (station 0 .listening).pli.attached = true ∧
      NotOwn (station 0 .listening) (from1 .leave) ∧
      NotOwn m0 { sender := 3, epoch := 0, content := .leave } ∧
      voidsIntact m0 { sender := 3, epoch := 0, content := .leave } = true ∧
      (detached m0).pli.attached = false ∧ (station 0 .joining).cu.membership = .joining ∧
      (station 0 .isolated).cu.membership = .isolated :=
  ⟨rfl, rfl, notOwn_of_idle rfl _, notOwn_of_idle rfl _, by decide, rfl, rfl, rfl⟩

theorem test_outside :
    shown (.takeClose 1 0 11) (station 0 .listening)
        (fun t => (t.cu.heard, t.cu.foundingBar, t.cu.agreed.lastClosed)) =
      some ([1], true, some 10) := by decide +kernel

theorem known1 : Known m0 1 0 := by
  refine ⟨rfl, ?_⟩
  exact ⟨{ station := 1, standing := .active, missed := 0 }, by decide, rfl⟩

theorem witness_force_loop_select :
    Live m0 ∧ m0.pli.attached = true ∧ Applies m0 ∧ Applies (station 0 .leaving) ∧
      Known m0 1 0 ∧ m0.cu.agreed.bank.pending = none ∧ m0.lb.lastBegun = none ∧
      (bankOf m0 .bankA).state = .ready ∧ (bankOf m0 .bankA).digest = 0 ∧
      newerThan 11 m0.cu.agreed.lastClosed = true ∧
      newerThan 10 m0.cu.agreed.lastClosed = false :=
  ⟨rfl, rfl, Or.inl rfl, Or.inr rfl, known1, rfl, rfl, rfl, rfl, by decide, by decide⟩

theorem test_takeForce :
    shown (.takeForce 1 0 .film32 9) m0 (fun t => t.cu.agreed.cadence) =
        some (.forcedFilm .threeTwo 4) ∧
      shown (.takeForce 1 0 (.other 5) 9) m0 (fun t => t.cu.agreed.cadence) = some .video := by
  decide +kernel

theorem test_takeLoopSet :
    shown (.takeLoopSet 1 0 .held 1024) m0 (fun t => (t.cu.agreed.loop.mode, t.cu.agreed.loop.t)) =
      some (.held, 1023) := by decide +kernel

theorem test_takeBankSelect :
    shown (.takeBankSelect 1 0 (.named .bankA) 0 10) m0
        (fun t => (t.sc.outgoing.map (·.switchFrame), t.cu.agreed.bank.pending.isNone)) =
        some (some 10, true) ∧
      shown (.takeBankSelect 1 0 (.named .bankA) 0 14) m0
        (fun t => t.cu.agreed.bank.pending.map (·.target)) = some (some 14) := by decide +kernel

/-- Station 1's report of round 11 is in, station 0's is not. -/
def oneReport : Round :=
  { field := 11, expected := [0, 1], reports := [{ station := 1, figures := none }] }

/-- With round 11 open. -/
def opened (r : Round) : State := agreeing (fun a => { a with openRounds := [r] }) m0

/-- Station 0's REPORT of round 11. -/
def report0 : Parcel := { sender := 0, epoch := 0, content := .report 11 none 0 0 }

theorem known0 (r : Round) : Known (opened r) 0 0 :=
  ⟨rfl, { station := 0, standing := .active, missed := 0 }, List.Mem.head _, rfl⟩

theorem witness_reportOpens :
    Live m0 ∧ Known m0 1 0 ∧ newerThan 11 m0.cu.agreed.lastClosed = true ∧
      openRound m0.cu.agreed 11 = none ∧ (∀ x ∈ m0.cu.agreed.openRounds, twoNewer 11 x.field = false) ∧
      (∃ x ∈ activeStations m0.cu.agreed.roster, x ≠ 1) ∧
      newerThan 10 m0.cu.agreed.lastClosed = false ∧
      openRound (opened oneReport).cu.agreed 11 = some oneReport ∧
      hasReport oneReport 1 = true ∧ hasReport oneReport 0 = false ∧
      (∃ x ∈ (opened { oneReport with field := 13 }).cu.agreed.openRounds,
        twoNewer x.field 11 = true) ∧
      (∃ x ∈ ({ oneReport with expected := [0, 1, 2] } : Round).expected,
        x ≠ 0 ∧ hasReport oneReport x = false) ∧
      neighbourOf m0 .lower = some 1 ∧ neighbourOf m0 .upper ≠ some 1 ∧
      neighbourOf (station 1 .member) .upper = some 0 ∧ NotNeighbour m0 2 :=
  ⟨rfl, known1, by decide, rfl, by decide, by decide, by decide, rfl, by decide, by decide,
    by decide, by decide, by decide, by decide, by decide, by decide, by decide⟩

theorem test_takeReport :
    shown (.takeReport 1 0 11 none 3 0)
        (m0.setDir .lower { Direction.reset 4 with credit := 0 })
        (fun t => (t.hx.down.credit, t.cu.agreed.openRounds.map (·.field))) =
      some (2, [11]) := by decide +kernel

theorem witness_reportCompletes :
    Live (opened oneReport) ∧ Known (opened oneReport) 0 0 ∧
      newerThan 11 (opened oneReport).cu.agreed.lastClosed = true ∧
      (opened oneReport).cu.agreed.openRounds = [oneReport] ∧ oneReport.field = 11 ∧
      hasReport oneReport 0 = false ∧
      (∀ x ∈ oneReport.expected, x = 0 ∨ hasReport oneReport x = true) ∧
      (∀ e ∈ (opened oneReport).cu.agreed.roster,
        (missedCount
          { oneReport with reports := oneReport.reports ++ [{ station := 0, figures := none }] }
          e).missed < 3) ∧
      (opened oneReport).cp.ownership.isFull = true ∧
      newerThan 11 (opened oneReport).lb.lastBegun = true ∧
      closureGap (opened oneReport).cu.agreed.lastClosed 11 = 0 ∧
      (opened oneReport).lb.decisions = [] ∧ Reaches 11 11 ∧ Reaches 12 11 ∧ ¬Reaches 11 12 :=
  ⟨rfl, known0 _, by decide, rfl, rfl, by decide, by decide, by decide, by decide, by decide,
    by decide, rfl, Or.inl rfl, Or.inr (by decide), by unfold Reaches; decide⟩

/-- R186: a closure reaches its target and newer fields, and at a distance of 32768 neither. -/
theorem test_closureReaches :
    let p : PendingSelection := { bank := .bankB, digest := 0, target := 5 }
    [4, 5, 6, 32772, 32773].map (fun n => closureReaches { pair with lastClosed := some n } p) =
        [false, true, true, true, false] ∧
      takeReaches { pair with lastClosed := some 32773 } p = true := by decide

theorem test_reportCompletes :
    shown (.takeReport 0 0 11 none 0 0) (opened oneReport)
        (fun t =>
          (t.cu.agreed.lastClosed, t.cu.completeCount, t.lb.decisions.map (·.field))) =
      some (some 11, 1, [11]) := by decide +kernel

/-- One DATA report. -/
def dataReport (d1 d2 n : Nat) : List RoundReport :=
  [{ station := 1
     figures := some
       { d1 := d1, d2 := d2, comb := 0, stillTotal := 90, stillCount := 10, samples := n } }]

theorem test_signature :
    let c625 := { twoBands with mode525 := false }
    let c525 := { twoBands with mode525 := true }
    classify c625 (dataReport 300 300 100) = .still ∧
      classify c625 (dataReport 301 300 100) = .motion ∧
      classify c525 (dataReport 400 100 100) = .repeated ∧
      classify c625 (dataReport 400 100 100) = .motion ∧
      classify c625 (dataReport 100 400 100) = .pairPrev ∧
      classify c625 [{ station := 1, figures := none }] = .none := by decide

theorem test_roundStep :
    let c625 := { twoBands with mode525 := false }
    let f := sumReports (dataReport 1 1 1)
    roundStep c625 .pairPrev f .video = (.candidate .twoTwo 1 1, false) ∧
      roundStep c625 .motion f (.candidate .twoTwo 1 5) = (.film .twoTwo 0, false) ∧
      roundStep c625 .motion f (.film .twoTwo 0) = (.video, true) ∧
      roundStep c625 .none f (.film .threeTwo 4) = (.film .threeTwo 0, false) := by decide

theorem test_loopStep :
    loopStep 3 (sumReports (dataReport 1 1 1))
        { mode := .auto, t := 64, history := [12, 12, 12], trendUp := false, trendDown := false } =
      { mode := .auto, t := 46, history := [9, 12, 12, 12], trendUp := false, trendDown := true } := by
  decide

/-- With these rounds open. -/
def openedAll (rs : List Round) : State := agreeing (fun a => { a with openRounds := rs }) m0

theorem witness_closeOpenRounds :
    Live (openedAll [oneReport, { oneReport with field := 12 }]) ∧ newer 12 oneReport.field = true ∧
      newer 13 12 = true ∧
      (∀ e ∈ (openedAll []).cu.agreed.roster, (missedCount oneReport e).missed < 3) ∧
      (∃ x ∈ oneReport.expected, hasReport oneReport x = false) :=
  ⟨rfl, by decide, by decide, by decide, by decide⟩

theorem test_closeOpenRounds :
    (∀ rs ∈ [[oneReport, { oneReport with field := 12 }], [oneReport]],
      shown (.takeClose 1 0 12) (openedAll rs)
        (fun t => (t.cu.agreed.lastClosed, t.cu.agreed.openRounds, t.cu.closedCount)) =
        some (some 12, [], 2)) ∧
      ∀ rs ∈ [[{ oneReport with field := 12 }, { oneReport with field := 13 }],
          [{ oneReport with field := 13 }]],
        shown (.takeClose 1 0 12) (openedAll rs)
          (fun t => (t.cu.agreed.lastClosed, t.cu.agreed.openRounds, t.cu.closedCount)) =
          some (some 12, [{ oneReport with field := 13 }], 1) := by decide +kernel

theorem witness_close :
    Live m0 ∧ Known m0 1 0 ∧ newerThan 10 m0.cu.agreed.lastClosed = false ∧
      newerThan 11 m0.cu.agreed.lastClosed = true ∧ m0.cu.agreed.openRounds = [] ∧
      Known (opened oneReport) 0 0 ∧ (opened oneReport).cu.agreed.openRounds = [oneReport] ∧
      oneReport.field = 11 :=
  ⟨rfl, known1, by decide, by decide, rfl, known0 _, rfl, rfl⟩

theorem test_takeClose :
    shown (.takeClose 1 0 12) m0
        (fun t => (t.cu.agreed.lastClosed, t.cu.closedCount, t.cu.agreed.roster.map (·.missed))) =
      some (some 12, 1, [1, 1]) := by decide +kernel

theorem witness_leave :
    Live m0 ∧ m0.pli.attached = true ∧ Applies m0 ∧ Known m0 1 0 ∧ Known m0 0 0 ∧
      NotOwn m0 (from1 .leave) ∧ m0.cu.agreed.openRounds = [] ∧ m0.pli.tx = none ∧
      OwnUrgent (sending ownLeave .leave (station 0 .leaving)) ownLeave ∧
      (1 : Station) ≠ m0.cp.station ∧ (0 : Station) = m0.cp.station := by
  refine ⟨rfl, rfl, Or.inl rfl, known1, ⟨rfl, ?_⟩, notOwn_of_idle rfl _, rfl, rfl,
    ⟨_, rfl, rfl, rfl⟩, by decide, rfl⟩
  exact ⟨{ station := 0, standing := .active, missed := 0 }, by decide, rfl⟩

theorem test_takeLeave :
    shown (.takeLeave 1 0) m0 (fun t => (t.cu.agreed.roster.length, t.cu.agreed.epoch)) =
        some (1, 1) ∧
      shown (.takeLeave 0 0) (sending ownLeave .leave (station 0 .leaving))
        (fun t => (t.cu.membership, t.pli.urgent)) = some (.stopped, []) := by decide +kernel

theorem witness_join :
    Live m0 ∧ m0.pli.attached = true ∧ Applies m0 ∧
      SameConfiguration m0 (configDigest twoBands) (configWords twoBands) ∧
      rosterEntry m0.cu.agreed.roster 2 = none ∧ rosterEntry m0.cu.agreed.roster 1 ≠ none ∧
      m0.cu.agreed.openRounds = [] ∧
      (lineAfterTake m0 (from1 .leave)).tx = none ∧
      (activeStations m0.cu.agreed.roster).head? = some m0.cp.station ∧
      (lineAfterTake m0 (from1 .leave)).urgent.length < 8 ∧
      (activeStations (station 1 .member).cu.agreed.roster).head? ≠
        some (station 1 .member).cp.station :=
  ⟨rfl, rfl, Or.inl rfl, ⟨rfl, rfl⟩, rfl, by decide, rfl, rfl, by decide, by decide, by decide⟩

theorem test_takeJoin :
    shown (.takeJoin 2 9 (configDigest twoBands) true (configWords twoBands)) m0
        (fun t => (t.cu.agreed.roster.length, t.cu.agreed.epoch, t.pli.urgent)) =
      some (3, 1, [.snapshot 2]) := by decide +kernel

/-- Station 0's own JOIN. -/
def ownJoin (founding : Bool) : Parcel :=
  { sender := 0, epoch := 0
    content := .join (configDigest twoBands) founding (configWords twoBands) }

/-- Its founding JOIN on the line. -/
def joiningOwn (founding : Bool) : State :=
  sending (ownJoin founding) (.join (configDigest twoBands) founding (configWords twoBands))
    (station 0 .listening)

theorem witness_ownJoin :
    Live (joiningOwn true) ∧ (joiningOwn true).pli.attached = true ∧
      (joiningOwn true).cu.membership = .listening ∧
      OwnUrgent (joiningOwn true) (ownJoin true) ∧ (joiningOwn true).cu.foundingBar = false ∧
      (joiningOwn true).sc.bankA.state = .ready ∧
      ((joiningOwn true).setBank .bankA Bank.cleared).sc.bankA.state ≠ .ready ∧
      (consensus (fun c => { c with foundingBar := true }) (joiningOwn true)).cu.foundingBar =
        true ∧
      (station 0 .joining).cu.membership = .joining :=
  ⟨rfl, rfl, rfl, ⟨_, rfl, rfl, rfl⟩, rfl, rfl, by decide, rfl, rfl⟩

theorem test_ownJoin :
    shown (.takeJoin 0 0 (configDigest twoBands) true (configWords twoBands)) (joiningOwn true)
        (fun t => (t.cu.membership, t.cu.agreed.roster.length, t.cu.agreed.lastClosed)) =
      some (.member, 1, none) := by decide +kernel

/-- Station 1 as JOINING beside station 0. -/
def oneJoining : AgreedState :=
  { pair with
    roster :=
      [{ station := 0, standing := .active, missed := 0 },
        { station := 1, standing := .joining, missed := 1 }] }

theorem witness_snapshot :
    Live m0 ∧ m0.pli.attached = true ∧ Applies m0 ∧ Known m0 1 0 ∧
      isJoining m0.cu.agreed 1 = false ∧
      isJoining (agreeing (fun _ => oneJoining) m0).cu.agreed 1 = true ∧
      (station 1 .joining).cu.membership = .joining ∧ (1 : Station) = (station 1 .joining).cp.station ∧
      isJoining oneJoining 1 = true ∧
      bankMatches (station 1 .joining) oneJoining.bank.active oneJoining.bank.digest = true ∧
      oneJoining.bank.pending = none ∧
      bankMatches (station 1 .joining) oneJoining.bank.active 5 = false :=
  ⟨rfl, rfl, Or.inl rfl, known1, by decide, by decide, rfl, rfl, by decide, by decide, rfl,
    by decide⟩

theorem test_takeSnapshot :
    shown (.takeSnapshot 0 0 1 oneJoining) (station 1 .joining)
        (fun t => (t.cu.membership, t.cu.agreed.epoch, t.cu.agreed.roster.map (·.standing))) =
        some (.member, 1, [.active, .active]) ∧
      shown (.takeSnapshot 0 0 1 oneJoining) (agreeing (fun _ => oneJoining) m0)
        (fun t => (t.cu.agreed.epoch, t.cu.agreed.roster.map (·.standing))) =
        some (1, [.active, .active]) := by decide +kernel

/-- The entry of station n has missed three rounds. -/
def missing (n : Station) : State :=
  agreeing
    (fun a =>
      { a with
        roster := a.roster.map fun e => if e.station = n then { e with missed := 3 } else e })
    m0

theorem witness_removal :
    Live m0 ∧ Applies m0 ∧ (∀ e ∈ m0.cu.agreed.roster, e.missed < 3) ∧
      (∃ e ∈ (missing 1).cu.agreed.roster, 3 ≤ e.missed) ∧
      (missing 1).cu.agreed.openRounds = [] ∧
      (∀ e ∈ (missing 1).cu.agreed.roster, 3 ≤ e.missed → e.station ≠ (missing 1).cp.station) ∧
      (∃ e ∈ (missing 0).cu.agreed.roster, e.station = (missing 0).cp.station) ∧
      (∀ e ∈ (missing 0).cu.agreed.roster, e.station = (missing 0).cp.station → 3 ≤ e.missed) ∧
      (station 0 .listening).cu.membership = .listening :=
  ⟨rfl, Or.inl rfl, by decide, by decide, rfl, by decide, by decide, by decide, rfl⟩

theorem test_missedRoundRemoval :
    shown .missedRoundRemoval (missing 1) (fun t => (t.cu.agreed.roster.length, t.cu.membership)) =
        some (1, .member) ∧
      shown .missedRoundRemoval (missing 0) (fun t => t.cu.membership) = some .isolated := by
  decide +kernel

/-- A HALO from the station below, frame 12, line 288. -/
def fromBelow : HaloParcel := { addressee := 0, frame := 12, line := 288, samples := plain 5 }

/-- The slot of index 0 of the down direction, changed. -/
def slotted (sl : ReceiveSlot) (d : Direction) : State :=
  m0.setDir .lower { d with slots := [sl, ReceiveSlot.empty 4] }

/-- A slot FILLING with frame 12. -/
def filling : ReceiveSlot :=
  { state := .filling, frame := some 12
    received := [none, some (plain 1), some (plain 1), some (plain 1)] }

theorem witness_halo :
    ∃ r, Live m0 ∧ Known m0 1 0 ∧ NotOwn m0 (from1 (.halo fromBelow)) ∧
      fromBelow.addressee = m0.cp.station ∧ sideOf m0 1 = some .lower ∧
      neighbourCounts m0 .lower = true ∧
      neighbourCounts (station 0 .leaving) .lower = false ∧ toBelow.addressee ≠ m0.cp.station ∧
      (dirOf bulkUsedUp .lower).outbound = [r] ∧ r.frame = toBelow.frame ∧
      (dirOf (slotted filling (Direction.reset 4)) .lower).slots[0]? = some filling ∧
      filling.frame = some fromBelow.frame ∧ filling.state ≠ .inUse ∧
      expectedPlace m0.cp.ownership .lower fromBelow.line = some 0 ∧
      (∀ sl ∈ (dirOf m0 .lower).slots, sl.frame ≠ some fromBelow.frame) ∧
      notNewerThan fromBelow.frame (some 12) = true ∧
      notNewerThan fromBelow.frame (dirOf m0 .lower).letGo = false ∧
      staleFrame m0 fromBelow.frame = false ∧
      staleFrame (m0.setLb { m0.lb with lastRequested := some 12 }) fromBelow.frame = true ∧
      (dirOf m0 .lower).slots[0]? = some (ReceiveSlot.empty 4) ∧
      buildFrame m0 ≠ some fromBelow.frame :=
  ⟨_, rfl, known1, notOwn_of_idle rfl _, rfl, by decide, by decide, by decide, by decide, rfl, rfl,
    rfl, rfl, by decide, by decide, by decide, by decide, by decide, by decide, by decide, rfl,
    by decide⟩

theorem test_takeHalo :
    shown (.takeHalo 1 0 fromBelow) m0
        (fun t => t.hx.down.slots.map fun sl => (sl.state, receivedCount sl)) =
        some [(.filling, 1), (.free, 0)] ∧
      shown (.takeHalo 1 0 fromBelow) (slotted filling (Direction.reset 4))
        (fun t => t.hx.down.slots.map fun sl => (sl.state, receivedCount sl)) =
        some [(.complete, 4), (.free, 0)] := by decide +kernel

/-- A slot of a frame in a state, waiting for its first line. -/
def slotOf (st : ReceiveState) (f : FieldNo) : ReceiveSlot :=
  { filling with state := st, frame := some f }

/-- Both slots of the down direction, the lower side UNRESOLVED. -/
def bothSlots (a b : ReceiveSlot) : State :=
  (m0.setDir .lower { Direction.reset 4 with slots := [a, b] }).setSide .lower
    (some { lines := none })

/-- The last HALO of a set on the line. -/
def lastOfSet : State :=
  (bulkUsedUp).setPli
    { bulkUsedUp.pli with
      bulkAttempts := 0
      tx := some (beginTransmission true { sender := 0, epoch := 0, content := .halo toBelow }) }

theorem witness_halo_slots :
    ¬NotOwn lastOfSet { sender := 0, epoch := 0, content := .halo toBelow } ∧
      Known lastOfSet 0 0 ∧ sideOf lastOfSet toBelow.addressee = some .lower ∧
      (slotOf .inUse 12).state = .inUse ∧ (slotOf .inUse 12).frame = some fromBelow.frame ∧
      sideUnresolved (bothSlots (slotOf .inUse 12) (slotOf .complete 11)) .lower = true ∧
      (∀ x ∈ (slotOf .inUse 12).received.set 0 (some fromBelow.samples), x ≠ none) ∧
      (∀ x ∈ (dirOf (bothSlots (slotOf .inUse 11) (slotOf .complete 10)) .lower).slots,
        x.state ≠ .free ∧ x.frame ≠ some fromBelow.frame) ∧
      (dirOf (bothSlots (slotOf .inUse 11) (slotOf .complete 10)) .lower).slots[1]? =
        some (slotOf .complete 10) ∧
      newer 11 10 = true ∧
      staleFrame (bothSlots (slotOf .inUse 11) (slotOf .complete 10)) fromBelow.frame = false := by
  refine ⟨fun h => h _ rfl rfl, ⟨rfl, ?_⟩, by decide, rfl, rfl, by decide, by decide, by decide,
    rfl, by decide, by decide⟩
  exact ⟨{ station := 0, standing := .active, missed := 0 }, by decide, rfl⟩

theorem test_takeHalo_slots :
    shown (.takeHalo 0 0 toBelow) lastOfSet (fun t => (t.hx.down.outbound, t.hx.down.credit)) =
        some ([], 1) ∧
      shown (.takeHalo 1 0 fromBelow) (bothSlots (slotOf .inUse 12) (slotOf .complete 11))
        (fun t => t.hx.lowerSide.map fun r => r.lines.map fun ls => ls.map haloLineCode) =
        some (some (some [0, 0, 0, 0])) ∧
      shown (.takeHalo 1 0 fromBelow) (bothSlots (slotOf .complete 11) (slotOf .complete 10))
        (fun t => (t.hx.down.slots.map (·.frame), t.hx.down.release, t.hx.down.letGo)) =
        some ([some 11, some 12], 1, some 10) := by decide +kernel

/-! ## Builds, rows and output -/

/-- A halo set of three lines for frame 12. -/
def smallSet : HaloSet := { frame := 12, lines := [(285, plain 1), (286, plain 2), (287, plain 3)] }

/-- The set pending in the down direction, with a credit. -/
def pendingDown (credit : Nat) : State :=
  m0.setDir .lower { Direction.reset 4 with credit := credit, pending := some smallSet }

theorem witness_pendingSet :
    Live m0 ∧ m0.hx.up.pending = none ∧ m0.hx.down.pending = none ∧
      (dirOf (pendingDown 1) .lower).pending = some smallSet ∧
      (dirOf (pendingDown 1) .upper).pending = none ∧
      neighbourOf (pendingDown 1) .lower = some 1 ∧ 1 ≤ (dirOf (pendingDown 1) .lower).credit ∧
      (pendingDown 1).pli.bulk.length + smallSet.lines.length ≤ 16 ∧
      (pendingDown 1).cu.membership = .member ∧ (dirOf (pendingDown 0) .lower).credit = 0 ∧
      16 < (List.replicate 14 toBelow).length + smallSet.lines.length :=
  ⟨rfl, rfl, rfl, rfl, rfl, by decide, by decide, by decide, rfl, rfl, by decide⟩

/-- Station 1 between two others, with a set pending toward each, the one below of frame 12. -/
def middle (frame : FieldNo) : State :=
  let c : ConfigItems :=
    { twoBands with
      ruleCount := 3
      rules := [⟨192, 0, .full⟩, ⟨384, 1, .full⟩, ⟨576, 2, .full⟩] ++
        List.replicate 5 { limit := 0, owner := 0, kind := .full } }
  let s := station 1 .member
  ((s.setCp { s.cp with config := c, ownership := deriveOwnership c 1 }).setDir .lower
      { Direction.reset 4 with pending := some smallSet }).setDir .upper
    { Direction.reset 3 with pending := some { frame := frame, lines := [(192, plain 1)] } }

theorem witness_pendingSets :
    Live (middle 13) ∧ (middle 13).hx.up.pending ≠ none ∧
      (middle 13).hx.down.pending = some smallSet ∧ neighbourOf (middle 13) .upper = some 0 ∧
      neighbourOf (middle 13) .lower = some 2 ∧ (middle 13).cu.membership = .member ∧
      newer 13 smallSet.frame = true ∧ newer 12 smallSet.frame = false :=
  ⟨rfl, by decide, rfl, by decide, by decide, rfl, by decide, by decide⟩

theorem test_pendingSetOffer :
    shown .pendingSetOffer (pendingDown 1)
        (fun t => (t.pli.bulk.map (·.line), t.hx.down.credit, t.hx.down.setsSent)) =
        some ([285, 286, 287], 0, 1) ∧
      shown .pendingSetOffer (pendingDown 0) (fun t => t.pli.bulk.length) = some 0 ∧
      shown .pendingSetOffer (middle 13) (fun t => t.pli.bulk.map (·.line)) =
        some [285, 286, 287, 192] ∧
      shown .pendingSetOffer (middle 12) (fun t => t.pli.bulk.map (·.line)) =
        some [192, 285, 286, 287] := by
  decide +kernel

/-- Station 0 with fields 10 (BOTTOM lines), 11 and 12 held, frame 11 at the head of the frame list
and field 12 ended. -/
def readyToBuild (decisions : List DecisionRecord) : State :=
  let s := m0.setFs
    { slots :=
        [closedField 10 .top [], closedField 11 .bottom [validLine 0 40, validLine 1 60],
          closedField 12 .top [], Slot.free, Slot.free]
      claimCounter := 13 }
  s.setLb
    { s.lb with
      frames := [{ frame := 11, overtaken := false }], lastEnded := some 12
      decisions := decisions }

/-- The decision to build frame 11 by WEAVE_NEXT. -/
def weave : DecisionRecord :=
  { field := 11, signature := .pairPrev, cadence := .film .twoTwo 0, t := 64 }

theorem witness_buildStart :
    ∃ e, Live (readyToBuild [weave]) ∧ (readyToBuild [weave]).lb.frames = e :: [] ∧
      e.overtaken = false ∧ fieldHeld (readyToBuild [weave]) e.frame = true ∧
      (readyToBuild [weave]).lb.build = none ∧ (readyToBuild [weave]).op.fb0 = none ∧
      (readyToBuild [weave]).lb.lastEnded = some (e.frame + 1) ∧
      decisionFor (readyToBuild [weave]).lb e.frame = some weave ∧
      decisionFor (readyToBuild []).lb e.frame = none ∧ Applies (readyToBuild []) ∧
      (bankOf (readyToBuild [weave]) (chosenBank (readyToBuild [weave]) e.frame)).state = .ready ∧
      lookupField (readyToBuild [weave]) (e.frame - 1) = some 0 :=
  ⟨_, rfl, rfl, rfl, by decide, rfl, rfl, rfl, rfl, rfl, Or.inl rfl, by decide, by decide⟩

/-- The same with an unheld frame 9 before it, an outgoing bank, and slots of frames 11 and 9. -/
def readyHalo : State :=
  let s := readyToBuild [weave]
  ((s.setLb { s.lb with
    frames := [{ frame := 9, overtaken := false }, { frame := 11, overtaken := false }] }).setSc
      { s.sc with outgoing := some { bank := .bankB, digest := 0, switchFrame := 11 } }).setDir .lower
    { Direction.reset 4 with slots := [slotOf .filling 11, slotOf .complete 9] }

theorem witness_buildStart_halo :
    fieldHeld readyHalo 9 = false ∧ fieldHeld readyHalo 11 = true ∧
      readyHalo.sc.outgoing = some { bank := .bankB, digest := 0, switchFrame := 11 } ∧
      Reaches 11 11 ∧ ¬Reaches 10 11 ∧ olderFrames 11 (dirOf readyHalo .lower) = [9] ∧
      readyHalo.cp.ownership.seam .upper = .pictureEdge ∧
      readyHalo.cp.ownership.seam .lower = .peer 1 ∧ neighbourCounts readyHalo .lower = true ∧
      slotHolding 11 (dirOf readyHalo .lower) = some (slotOf .filling 11) ∧
      (∃ x ∈ (slotOf .filling 11).received, x = none) ∧
      slotHolding 11 (dirOf (readyToBuild []) .lower) = none ∧
      newer 11 10 = true ∧ (11 - 10 : FieldNo).toNat ≤ 4 ∧ newer 10 11 = false :=
  ⟨by decide, by decide, rfl, Or.inl rfl, by unfold Reaches; decide, by decide, by decide,
    by decide, by decide, by decide +kernel, ⟨none, by simp [slotOf, filling], rfl⟩, by decide,
    by decide, by decide, by decide⟩

theorem test_buildStart_halo :
    shown .buildStart readyHalo
        (fun t =>
          (t.lb.build.map (·.frame), t.sc.outgoing.isNone,
            t.hx.down.slots.map fun sl => (sl.state, sl.frame))) =
        some (some 11, true, [(.inUse, some 11), (.free, none)]) ∧
      shown .buildStart readyHalo
        (fun t => (t.hx.down.release, t.hx.down.letGo, sideUnresolved t .lower)) =
        some (1, some 9, true) := by decide +kernel

theorem test_buildStart :
    shown .buildStart (readyToBuild [weave])
        (fun t =>
          (t.lb.build.map (·.effective), t.sc.scaling.map (·.bank), t.op.fb0.map (·.frame))) =
        some (some .weaveNext, some (some .bankA), some 11) ∧
      shown .buildStart (readyToBuild []) (fun t => t.lb.build.isNone) = some true := by
  decide +kernel

/-- A build of frame 11 by BOB with `k` lines BUILT. -/
def building (k : Nat) : BuildRecord :=
  { phase := .lines, frame := 11, agreed := true, pairing := .bob, effective := .bob, t := 64
    signature := .motion, beforePrevious := none, previous := none
    current := some { slot := 1, parity := .bottom }, following := none, built := k, repairs := [] }

/-- With that build in progress. -/
def inLines (k : Nat) : State :=
  (readyToBuild []).setLb
    { (readyToBuild []).lb with
      build := some (building k)
      lines := List.replicate 288 { samples := none, repaired := false } }

theorem witness_buildLine :
    Live (inLines 1) ∧ (inLines 1).lb.build = some (building 1) ∧ (building 1).phase = .lines ∧
      (building 1).built < (inLines 1).cp.ownership.coreHigh - (inLines 1).cp.ownership.coreLow ∧
      1 = lineInOrder (inLines 1).cp.ownership (building 1).built ∧
      (building 1).current = some { slot := 1, parity := .bottom } ∧ (building 1).repairs = [] ∧
      lineParity 1 = .bottom ∧ entryAt (inLines 1) 1 (1 / 2) = some (validLine 0 40) ∧
      2 = lineInOrder (inLines 2).cp.ownership (building 2).built ∧ lineParity 2 ≠ .bottom ∧
      (building 2).effective = .bob ∧ entryAt (inLines 2) 1 ((2 - 1) / 2) = some (validLine 0 40) ∧
      entryAt (inLines 2) 1 ((2 + 1) / 2) = some (validLine 1 60) ∧
      (inLines 288).cp.ownership.coreHigh - (inLines 288).cp.ownership.coreLow ≤
        (building 288).built ∧ m0.lb.build = none :=
  ⟨rfl, rfl, rfl, by decide, by decide, rfl, rfl, rfl, rfl, by decide, by decide, rfl, rfl, rfl,
    by decide, rfl⟩

/-- A build of frame 11 under an effective pairing with `k` lines BUILT, between fields 10 and 12,
with the tables of fields 10 and 11 given. -/
def pairedBuild (p : Pairing) (k : Nat) : BuildRecord :=
  { building k with
    effective := p, previous := some { slot := 0, parity := .top }
    following := some { slot := 2, parity := .top } }

def pairedLines (p : Pairing) (k : Nat) (before own : List LineEntry) : State :=
  let s := (inLines k).setFs
    { slots :=
        [closedField 10 .top before, closedField 11 .bottom own,
          closedField 12 .top [validLine 1 50], Slot.free, Slot.free]
      claimCounter := 13 }
  s.setLb { s.lb with build := some (pairedBuild p k) }

/-- A LOST entry. -/
def lostLine (l : Nat) : LineEntry := { line := l, state := .lost, spans := [], samples := none }

theorem usable_of_plain {s : State} {slot line : Nat} {v : Sample}
    (h : entryAt s slot line = some (validLine line v)) : Usable s slot line (plain v) :=
  ⟨List.length_replicate, List.length_replicate, List.length_replicate, _, h, Or.inl rfl, rfl⟩

theorem witness_pairedLines :
    let s := pairedLines .ma 2 [validLine 1 30] [validLine 0 40, validLine 1 60]
    let l := pairedLines .weavePrev 2 [lostLine 1] [validLine 0 40, validLine 1 60]
    let r := pairedLines .bob 1 [] [lostLine 0, validLine 1 60]
    NextLine s (pairedBuild .ma 2) { slot := 1, parity := .bottom } 2 ∧
      Usable s 1 ((2 - 1) / 2) (plain 40) ∧ Usable s 1 ((2 + 1) / 2) (plain 60) ∧
      Usable s 0 (2 / 2) (plain 30) ∧ Usable s 2 (2 / 2) (plain 50) ∧
      NextLine l (pairedBuild .weavePrev 2) { slot := 1, parity := .bottom } 2 ∧
      IsLost l (pairedBuild .weavePrev 2).previous (2 / 2) ∧
      Usable l 2 (2 / 2) (plain 50) ∧
      NextLine r (pairedBuild .bob 1) { slot := 1, parity := .bottom } 1 ∧
      entryAt r 1 (1 / 2) = some (lostLine 0) ∧ (viewEntry (lostLine 0)).y.length = 720 ∧
      (viewEntry (lostLine 0)).cb.length = 360 ∧ (viewEntry (lostLine 0)).cr.length = 360 ∧
      (∀ x ∈ (pairedBuild .bob 1).repairs, x.line ≠ 1 / 2) :=
  ⟨⟨rfl, rfl, rfl, by decide, by decide⟩, usable_of_plain (by decide +kernel),
    usable_of_plain (by decide +kernel), usable_of_plain (by decide +kernel),
    usable_of_plain (by decide +kernel), ⟨rfl, rfl, rfl, by decide, by decide⟩,
    ⟨_, lostLine 1, rfl, by decide +kernel, rfl⟩, usable_of_plain (by decide +kernel),
    ⟨rfl, rfl, rfl, by decide, by decide⟩, by decide +kernel, by decide +kernel,
    by decide +kernel, by decide +kernel, by decide⟩

/-- What the core line y holds first, with its mark. -/
def builtFirst (y : Nat) (t : State) : Option (List Sample) × Bool :=
  ((coreLine t y).samples.map fun v => v.y.take 1 ++ v.cb.take 1, (coreLine t y).repaired)

/-- Lines 0 and 1 of field 11 VALID. -/
def ownLines : List LineEntry := [validLine 0 40, validLine 1 60]

theorem test_buildLine :
    shown .buildLine (inLines 2) (fun t => (builtFirst 2 t, t.lb.build.map (·.built))) =
        some ((some [50, 50], false), some 3) ∧
      shown .buildLine (pairedLines .weavePrev 2 [validLine 1 30] ownLines) (builtFirst 2) =
        some (some [30, 30], false) ∧
      shown .buildLine (pairedLines .weavePrev 2 [lostLine 1] ownLines) (builtFirst 2) =
        some (some [50, 50], false) ∧
      shown .buildLine (pairedLines .ma 2 [validLine 1 30] ownLines) (builtFirst 2) =
        some (some [43, 43], false) ∧
      shown .buildLine (pairedLines .bob 1 [] [lostLine 0, validLine 1 60])
        (builtFirst 1) = some (some [60, 60], true) := by decide +kernel

/-- The last core line is to be built, in a band of `rows` rows. -/
def lastLine (bank : Option BankName) (rows : Nat) : State :=
  let s := inLines 287
  (s.setSc
    { s.sc with
      scaling := some
        { frame := 11, agreed := true, bank := bank, digest := none, phase := .lines, rows := 0
          upper := .none, lower := .waiting, todo := [], current := none, queue := [] } }).setCp
    { s.cp with ownership := { s.cp.ownership with rowCount := rows } }

theorem witness_lastLine :
    NextLine (lastLine none 2) (building 287) { slot := 1, parity := .bottom } 284 ∧
      (building 287).built + 1 = m0.cp.ownership.coreHigh - m0.cp.ownership.coreLow ∧
      List.range' 0 2 ≠ [] ∧ interiorRows twoBands (lastLine (some .bankA) 2).cp.ownership ≠ [] ∧
      interiorRows twoBands (lastLine (some .bankA) 0).cp.ownership = [] :=
  ⟨⟨rfl, rfl, rfl, by decide, by decide⟩, by decide, by decide, by decide, by decide⟩

theorem test_lastLine :
    shown .buildLine (lastLine (some .bankA) 2)
        (fun t => (t.sc.scaling.map fun r => (r.phase, r.todo), t.lb.build.map (·.phase))) =
        some (some (.interior, [0, 1]), some .interior) ∧
      shown .buildLine (lastLine (some .bankA) 0) (fun t => t.lb.build.map (·.phase)) =
        some (some .edges) := by decide +kernel

theorem witness_formsSet :
    NextLine (inLines 6) (building 6) { slot := 1, parity := .bottom } 287 ∧
      (building 6).agreed = true ∧ neighbourCounts (inLines 6) .lower = true ∧
      neighbourOf (inLines 6) .lower = some 1 ∧ neighbourCounts (inLines 6) .upper = false ∧
      1 ≤ (dirOf (inLines 6) .lower).credit ∧ (inLines 6).pli.bulk.length + 3 ≤ 16 :=
  ⟨⟨rfl, rfl, rfl, by decide, by decide⟩, rfl, by decide, by decide, by decide, by decide,
    by decide⟩

theorem test_formsSet :
    shown .buildLine (inLines 6)
        (fun t => (t.pli.bulk.map (·.line), t.hx.down.credit, t.hx.down.setsSent)) =
      some ([285, 286, 287], 1, 1) := by decide +kernel

/-- The lower side UNRESOLVED, its slot FILLING with frame 11, the timer running. -/
def halting : State :=
  let s := (inLines 2).setDir .lower
    { Direction.reset 4 with
      slots := [{ filling with frame := some 11 }, ReceiveSlot.empty 4] }
  s.setHx { s.hx with lowerSide := some { lines := none }, timer := true }

/-- The Scaler in EDGES, writing a side or none. -/
def edging (current : Option Side) (s : State) : State :=
  s.setSc
    { s.sc with
      scaling := some
        { frame := 11, agreed := true, bank := some .bankA, digest := none, phase := .edges, rows := 0
          upper := .waiting, lower := .waiting, todo := [], current := current, queue := [] } }

theorem witness_haloExpiry_edges :
    ∃ r, (edging none halting).sc.scaling = some r ∧ r.phase = .edges ∧ r.queue = [] ∧
      edgeOf r .lower = .waiting ∧ r.current = none ∧
      sideUnresolved (edging none halting) .lower = true ∧
      sideUnresolved (edging none halting) .upper = false ∧
      sideUnresolved (halting.setSide .upper (some { lines := none })) .upper = true :=
  ⟨_, rfl, rfl, rfl, rfl, rfl, by decide, by decide, by decide⟩

theorem witness_haloExpiry :
    Live halting ∧ halting.lb.build = some (building 2) ∧ halting.hx.timer = true ∧
      sideUnresolved halting .lower = true ∧ sideUnresolved halting .upper = false ∧
      slotHolding (building 2).frame (dirOf halting .lower) =
        some { filling with frame := some 11 } ∧
      slotHolding (building 2).frame (dirOf m0 .lower) = none ∧ m0.hx.timer = false :=
  ⟨rfl, rfl, rfl, by decide, by decide, rfl, rfl, rfl⟩

theorem test_haloWaitExpiry :
    shown .haloWaitExpiry halting
        (fun t => t.hx.lowerSide.map fun r => (r.lines.map fun ls => ls.map haloLineCode)) =
        some (some (some [2, 0, 0, 0])) ∧
      [none, some Side.upper].map (fun x =>
        shown .haloWaitExpiry (edging x halting)
          (fun t => t.sc.scaling.map fun r => (r.current, r.todo.length, r.queue))) =
        [some (some (some .lower, 7, [])), some (some (some .upper, 0, [.lower]))] := by
  decide +kernel

/-- A black build of frame 11 whose last row is to be written, or the one before it. -/
def blackRecord (phase : BuildPhase) (rows : List Nat) : ScalingRecord :=
  { frame := 11, agreed := true, bank := none, digest := none, phase := phase, rows := 5
    upper := .none, lower := .waiting, todo := rows, current := some .lower, queue := [] }

/-- With its buffer. -/
def writing (rows : List Nat) : State :=
  ((inLines 288).setSc { (inLines 288).sc with scaling := some (blackRecord .edges rows) }).setOp
    { (inLines 288).op with fb0 := some { state := .building, frame := 11, rows := [] } }

theorem witness_rowWrite :
    ∃ h, Live (writing [539]) ∧
      (writing [539]).sc.scaling = some (blackRecord .edges [539]) ∧
      (blackRecord .edges [539]).todo = 539 :: [] ∧
      (writing [538, 539]).sc.scaling = some (blackRecord .edges [538, 539]) ∧
      (blackRecord .edges [539]).phase ≠ .lines ∧ (writing [539]).op.fb0 = some h ∧
      h.state = .building ∧ h.frame = (blackRecord .edges [539]).frame ∧
      (writing [539]).op.fb1 = none ∧ (blackRecord .edges [539]).current = some .lower ∧
      (blackRecord .edges [539]).queue = [] ∧ edgeOf (blackRecord .edges [539]) .upper ≠ .waiting ∧
      m0.sc.scaling = none ∧ Bank.cleared.vertical.length = 512 ∧
      Bank.cleared.horizontal.length = 512 ∧ m0.cp.ownership.coreLow < m0.cp.ownership.coreHigh ∧
      288 = m0.cp.ownership.coreHigh + 0 :=
  ⟨_, rfl, rfl, rfl, rfl, by decide, rfl, rfl, rfl, rfl, rfl, rfl, by decide, rfl,
    by decide +kernel, by decide +kernel, by decide, by decide⟩

/-- The record of a build with a bank, in a phase with rows to write. -/
def scalingRecord (phase : BuildPhase) (current : Option Side) (queue : List Side) : ScalingRecord :=
  { blackRecord phase [7] with
    bank := some .bankA, upper := .waiting, lower := .waiting, current := current, queue := queue }

/-- Both sides RESOLVED, every line of the lower one CLAMPED and every line of the upper one FILL. -/
def resolved : State :=
  let s := inLines 288
  (s.setSide .upper (some { lines := some (List.replicate 3 .fill) })).setSide .lower
    (some { lines := some (clampedLines .lower) })

theorem witness_rowWrite_edges :
    bufferAt ((writing [539]).setOp
        { (writing [539]).op with
          fb0 := none, fb1 := some { state := .building, frame := 11, rows := [] } }) true =
      some { state := .building, frame := 11, rows := [] } ∧
      Ready resolved (scalingRecord .interior none []) .upper ∧
      Ready resolved (scalingRecord .interior none []) .lower ∧
      ¬Ready (inLines 288) (scalingRecord .interior none []) .upper ∧
      edgeOf (scalingRecord .interior none []) .upper = .waiting ∧
      (∀ side, edgeOf { blackRecord .interior [7] with lower := .written } side ≠ .waiting) ∧
      (scalingRecord .edges (some .upper) [.lower]).queue = [.lower] ∧
      edgeOf (scalingRecord .edges (some .upper) [.lower]) .lower = .waiting ∧
      (blackRecord .interior [7]).bank = none :=
  ⟨rfl, ⟨by decide, rfl⟩, ⟨by decide, rfl⟩, by unfold Ready; decide, rfl,
    by intro side; cases side <;> decide, rfl, rfl, rfl⟩

theorem witness_rowFlags :
    resolved.cp.ownership.coreLow < resolved.cp.ownership.coreHigh ∧
      539 * 576 / 1080 + 4 - 3 = resolved.cp.ownership.coreHigh + 0 ∧
      HaloRead resolved (539 * 576 / 1080 + 4 - 3) .clamped ∧
      sideRecord resolved .upper = some { lines := some [.fill, .fill, .fill] } ∧
      (scalingRecord .edges none []).bank = some .bankA :=
  ⟨by decide, by decide, ⟨.lower, 0, clampedLines .lower, Or.inr ⟨rfl, by decide⟩, rfl, by decide⟩,
    by decide, rfl⟩

theorem test_rowWrite :
    shown .rowWrite (writing [539])
        (fun t => (t.op.fb0.map (fun h => (h.state, h.rows.map (·.row))), t.lb.build.isNone)) =
        some (some (.complete, [539]), true) ∧
      shown .rowWrite (writing [538, 539])
        (fun t => t.sc.scaling.map fun r => (r.rows, r.todo)) = some (some (6, [539])) ∧
      (afterRow resolved (scalingRecord .interior none [])).current = some .upper ∧
      (afterRow resolved (scalingRecord .interior none [])).queue = [.lower] := by
  decide +kernel

/-- The two Frame Buffers. -/
def buffers (a b : Option Held) : State := m0.setOp { m0.op with fb0 := a, fb1 := b }

/-- A buffer of frame n in a state. -/
def held (st : BufferState) (n : FieldNo) : Option Held :=
  some { state := st, frame := n, rows := [] }

theorem witness_outputStart :
    Live m0 ∧ (station 0 .offline).cu.membership = .offline ∧ m0.cu.membership.running = true ∧
      m0.cp.ownership.isFull = true ∧ State.reset.cp.ownership.isFull = false ∧
      bufferAt (buffers (held .complete 12) (held .showing 11)) false = held .complete 12 ∧
      bufferAt (buffers (held .complete 12) (held .showing 11)) true = held .showing 11 ∧
      newer 14 13 = true ∧ newer 12 11 = true ∧ newer 13 12 = true ∧
      bufferAt (buffers (held .building 14) none) false = held .building 14 ∧
      bufferAt m0 false = none ∧ bufferAt m0 true = none :=
  ⟨rfl, rfl, rfl, by decide, by decide, rfl, rfl, by decide, by decide, by decide, rfl, rfl, rfl⟩

theorem test_outputStart :
    shown (.outputStart 12) (buffers (held .complete 12) (held .showing 11))
        (fun t => (t.op.lastAnswer, t.op.fb0.map (·.state), t.op.fb1.isNone)) =
        some (.shown, some .showing, true) ∧
      shown (.outputStart 11) (buffers (held .building 11) (held .showing 10))
        (fun t => (t.op.lastAnswer, t.op.fb0.isNone, t.cp.totals.lateFrames)) =
        some (.repeated, true, 1) ∧
      [12, 13].map (fun k =>
        shown (.outputStart k) (buffers (held .building 11) (held .complete 12))
          (fun t => (t.op.lastAnswer, t.op.fb1.map (·.state)))) =
        [some (.shown, some .showing), some (.black, none)] := by decide +kernel

/-- A set being sent, a set pending and a slot holding a frame, all passed at output start 13. -/
def passing (st : ReceiveState) : State :=
  (buffers (held .building 11) none).setDir .lower
    { Direction.reset 4 with
      credit := 0, pending := some smallSet
      outbound := [{ frame := 12, remaining := 3, taken := 0, lossCounted := false }]
      slots := [slotOf st 11, slotOf .filling 14] }

theorem test_outputStart_halo :
    shown (.outputStart 13) (withBulk ((passing .complete).setOp { m0.op with fb0 := none }))
        (fun t =>
          (t.hx.down.credit, t.hx.down.pending.isNone, t.hx.down.outbound.length,
            t.hx.down.slots.map (·.frame))) =
        some (1, true, 0, [none, some 14]) ∧
      shown (.outputStart 13) (withBulk ((passing .complete).setOp { m0.op with fb0 := none }))
        (fun t => (t.hx.down.release, t.hx.down.letGo, t.pli.bulk.length)) =
        some (1, some 11, 0) ∧
      shown (.outputStart 13) (passing .inUse)
        (fun t => (t.hx.down.slots.map (·.frame), t.hx.down.release, t.hx.down.letGo)) =
        some ([none, some 14], 1, some 11) := by decide +kernel

theorem witness_outputAbandons :
    ∃ h, Live (buffers (held .building 11) (held .showing 10)) ∧
      bufferAt (buffers (held .building 11) (held .showing 10)) false = some h ∧
      h.state = .building ∧ h.frame = 11 ∧ newer 12 h.frame = true ∧
      (∀ g, bufferAt (buffers (held .building 11) (held .showing 10)) (!false) = some g →
        g.state ≠ .building) ∧
      bufferAt (buffers (held .building 11) (held .showing 10)) true = held .showing 10 ∧
      bufferAt (buffers (held .building 11) (held .complete 12)) true = held .complete 12 ∧
      newer 13 12 = true ∧ bufferAt (buffers (held .building 11) none) true = none :=
  ⟨_, rfl, rfl, rfl, rfl, by decide, by
    intro g hg
    cases hg
    decide, rfl, rfl, by decide, rfl⟩

/-- An emission of black, from row n. -/
def emitting (n : Nat) : State :=
  m0.setOp
    { m0.op with
      emission := some
        { requested := 12, source := .black, shown := none, repeats := false, next := n } }

theorem witness_rowEmit :
    ∃ e, Live (emitting 539) ∧ (emitting 539).op.emission = some e ∧ e.source = .black ∧
      e.next < 4096 ∧ m0.op.emission = none ∧
      (emitting 539).cp.ownership.firstRow + (emitting 539).cp.ownership.rowCount ≤ e.next + 1 ∧
      538 + 1 < (emitting 538).cp.ownership.firstRow + (emitting 538).cp.ownership.rowCount :=
  ⟨_, rfl, rfl, rfl, by decide, rfl, by decide, by decide⟩

theorem test_rowEmit :
    shown .rowEmit (emitting 539)
        (fun t => (t.op.emission.isNone, t.op.lastRow.take 8, t.op.lastRow.length)) =
      some (true, [539, 12, 0, 32, 512, 64, 512, 64], 3844) := by decide +kernel

theorem witness_alike :
    Live m0 ∧ Live (station 1 .member) ∧ Applies m0 ∧ Applies (station 1 .member) ∧
      m0.pli.attached = true ∧ (station 1 .member).pli.attached = true ∧
      voidsIntact m0 (from1 .leave) = false ∧ voidsIntact (station 1 .member) (from1 .leave) = false ∧
      m0.cp.config = (station 1 .member).cp.config ∧
      m0.cu.agreed = (station 1 .member).cu.agreed ∧
      (station 1 .joining).cu.membership = .joining ∧
      isJoining (agreeing (fun _ => oneJoining) m0).cu.agreed (station 1 .joining).cp.station =
        true :=
  ⟨rfl, rfl, Or.inl rfl, Or.inl rfl, rfl, rfl, by decide, by decide, rfl, rfl, rfl, by decide⟩

theorem witness_invariants :
    TimersSafe m0 ∧ SendSafe (sending ownLeave .leave m0) ∧ LineSafe m0 ∧ LockSafe m0 := by
  refine ⟨⟨fun h => absurd rfl h⟩, ⟨?_⟩, ⟨fun _ => rfl, ?_, by decide, by decide, by decide⟩,
    fun _ => rfl⟩
  · intro x hx
    cases hx
    rfl
  · intro h
    cases h

theorem test_timeLeft_afterExpiry :
    shown .haloWaitExpiry halting (fun t => readItem t 0x451) = some (some 0) := by decide +kernel

theorem test_haloItems : (haloItems m0.hx).length = 49 := by decide +kernel

end Sys2Proof.Tests
end

section
/-! SUPPORT. The Staging Page (R179): what a WRITE to an entry answers and leaves, what a read of an
entry gives, and that a commit leaves the page as it stands. -/

namespace Sys2Proof.Machine

/-! ## A transaction as a command's effect (R204, R205, R214) -/

theorem exec_stagingPageWrite (item : Word16) (v : Word32) (s : State) :
    exec (.stagingPageWrite item v) s = live (transact kindWrite item (writeStaging item v)) s :=
  rfl

theorem exec_commitComplete (s : State) : exec .commitComplete s = live commitStep s :=
  rfl

/-- A command that leaves the queue alone answers its effect's own state. -/
theorem live_next_of_pending {f : State → State} {s : State} (h : Live s)
    (hp : (f s).pending = s.pending) : live f s = .next (f s) := by
  rw [live_next h, ← hp]
  rfl

/-- R214: what a command can answer: its effect on a live station, nothing under the reset pin. -/
theorem live_next_cases {f : State → State} {s t : State} (h : live f s = .next t) :
    t = (f s).setPending s.pending ∨ t = s := by
  cases hr : s.cp.resetHeld with
  | false =>
    rw [live_next hr] at h
    exact .inl (Host.Outcome.next.inj h).symm
  | true =>
    rw [live_held hr] at h
    exact .inr (Host.Outcome.next.inj h).symm

@[simp] theorem transact_pending (kind : Byte) (item : Word16) (carry : State → Reply) (s : State) :
    (transact kind item carry s).pending = (carry (shiftOut s)).state.pending := rfl

theorem live_transact_refuse {kind : Byte} {item : Word16} {carry : State → Reply} {s : State}
    {code : ResultCode} (h : Live s) (hc : carry (shiftOut s) = refuse code (shiftOut s)) :
    ∃ t, live (transact kind item carry) s = .next t ∧ Answered t kind item code 0 ∧
      Transacted s t :=
  ⟨_, live_next_of_pending h (by simp [hc, refuse]), transact_refuse hc⟩

theorem live_transact_accept {kind : Byte} {item : Word16} {carry : State → Reply} {s u : State}
    (h : Live s) (hc : carry (shiftOut s) = accept u) (hp : u.pending = s.pending) :
    ∃ t, live (transact kind item carry) s = .next t ∧ Answered t kind item .ok 0 ∧
      Transacted u t :=
  ⟨_, live_next_of_pending h (by simp [hc, accept, hp]), transact_accept hc⟩

theorem sc_eq_of_transacted {u t : State} (h : Transacted u t) : t.sc = u.sc := by
  unfold Transacted at h
  rw [h, State.setCp_sc]

/-! ## Coefficients (R179) -/

theorem coefficientOf_inRange {v : Word32} (low : -2048 ≤ v.toInt) (high : v.toInt ≤ 2047) :
    coefficientOf v = some (BitVec.ofInt 12 v.toInt) :=
  if_pos ⟨low, high⟩

theorem coefficientOf_outOfRange {v : Word32} (h : v.toInt < -2048 ∨ 2047 < v.toInt) :
    coefficientOf v = none :=
  if_neg (by omega)

/-- A value in the range is the sign extension of the twelve bits that are kept of it. -/
theorem signExtend_ofInt_toInt {v : Word32} (low : -2048 ≤ v.toInt) (high : v.toInt ≤ 2047) :
    (BitVec.ofInt 12 v.toInt).signExtend 32 = v := by
  have kept : (BitVec.ofInt 12 v.toInt).toInt = v.toInt := by
    rw [BitVec.toInt_ofInt]
    exact Int.bmod_eq_of_le (by omega) (by omega)
  rw [BitVec.signExtend, kept, BitVec.ofInt_toInt]

/-! ## The Staging Page (R179, R181, R207) -/

theorem writeStaging_accepted {item : Word16} {v : Word32} {c : Coeff} (low : 0x40 ≤ item.toNat)
    (high : item.toNat ≤ 0x7F) (hv : coefficientOf v = some c) (s : State) :
    writeStaging item v s =
      accept (s.setSc { s.sc with staging := s.sc.staging.set (item.toNat - 0x40) c }) := by
  simp only [writeStaging, low, high, hv, and_self, if_true]

theorem writeStaging_badValue {item : Word16} {v : Word32}
    (h : (item.toNat < 0x40 ∨ 0x7F < item.toNat) ∨ coefficientOf v = none) (s : State) :
    writeStaging item v s = refuse .badValue s := by
  rw [writeStaging]
  split
  case isTrue entry =>
    obtain outside | hv := h
    · omega
    · rw [hv]
  case isFalse => rfl

theorem readItem_staging {item : Nat} (low : 0x40 ≤ item) (high : item ≤ 0x7F) (s : State) :
    readItem s item = (s.sc.staging[item - 0x40]?).map fun c => c.signExtend 32 := by
  rw [readItem, if_neg (by omega), if_neg (by omega), if_pos (by omega)]

/-- R179: a WRITE that is not taken as a coefficient of an entry answers BAD_VALUE alone. -/
theorem exec_stagingPageWrite_badValue {s : State} {item : Word16} {v : Word32} (h : Live s)
    (hbad : (item.toNat < 0x40 ∨ 0x7F < item.toNat) ∨ coefficientOf v = none) :
    ∃ t, exec (.stagingPageWrite item v) s = .next t ∧ Answered t 2 item .badValue 0 ∧
      Transacted s t := by
  rw [exec_stagingPageWrite]
  exact live_transact_refuse h (writeStaging_badValue hbad _)

/-- R179: a WRITE of a coefficient to an entry replaces that entry and answers OK. -/
theorem exec_stagingPageWrite_accepted {s : State} {item : Word16} {v : Word32} {c : Coeff}
    (h : Live s) (low : 0x40 ≤ item.toNat) (high : item.toNat ≤ 0x7F)
    (hv : coefficientOf v = some c) :
    ∃ t, exec (.stagingPageWrite item v) s = .next t ∧ Answered t 2 item .ok 0 ∧
      Transacted
        (s.setSc { s.sc with staging := s.sc.staging.set (item.toNat - 0x40) c }) t := by
  rw [exec_stagingPageWrite]
  obtain ⟨t, next, answer, rest⟩ :=
    live_transact_accept (kind := kindWrite) (item := item) h
      (writeStaging_accepted low high hv (shiftOut s)) rfl
  exact ⟨t, next, answer, transacted_shiftOut rest⟩

/-- R179: a WRITE to one of the 64 entries, by the range of its value. -/
theorem exec_stagingPageWrite_entry {s : State} {item : Word16} {v : Word32} (h : Live s)
    (low : 0x40 ≤ item.toNat) (high : item.toNat ≤ 0x7F) (size : s.sc.staging.length = 64) :
    ∃ t code, exec (.stagingPageWrite item v) s = .next t ∧ Answered t 2 item code 0 ∧
      Transacted (s.setSc { s.sc with staging := t.sc.staging }) t ∧
      (-2048 ≤ v.toInt → v.toInt ≤ 2047 →
        code = .ok ∧ readItem t item.toNat = some v ∧
          ∀ e, e < 64 → e + 0x40 ≠ item.toNat → t.sc.staging[e]? = s.sc.staging[e]?) ∧
      ((v.toInt < -2048 ∨ 2047 < v.toInt) → code = .badValue ∧ t.sc.staging = s.sc.staging) := by
  by_cases range : -2048 ≤ v.toInt ∧ v.toInt ≤ 2047
  · obtain ⟨vLow, vHigh⟩ := range
    obtain ⟨t, next, answer, rest⟩ :=
      exec_stagingPageWrite_accepted h low high (coefficientOf_inRange vLow vHigh)
    have page : t.sc.staging =
        s.sc.staging.set (item.toNat - 0x40) (BitVec.ofInt 12 v.toInt) := by
      rw [sc_eq_of_transacted rest, State.setSc_sc]
    have read : readItem t item.toNat = some v := by
      rw [readItem_staging low high, page, List.getElem?_set_self (by omega), Option.map_some,
        signExtend_ofInt_toInt vLow vHigh]
    refine ⟨t, .ok, next, answer, page ▸ rest, fun _ _ => ⟨rfl, read, ?_⟩, by omega⟩
    intro e _ other
    rw [page, List.getElem?_set_ne (by omega)]
  · have outside : v.toInt < -2048 ∨ 2047 < v.toInt := by omega
    obtain ⟨t, next, answer, rest⟩ :=
      exec_stagingPageWrite_badValue (item := item) h (.inr (coefficientOf_outOfRange outside))
    have page : t.sc.staging = s.sc.staging := by rw [sc_eq_of_transacted rest]
    exact ⟨t, .badValue, next, answer, page ▸ rest, by omega, fun _ => ⟨rfl, page⟩⟩

/-- R179, R181: the commit works from its own copy, so its completion leaves the page. -/
theorem exec_commitComplete_staging {s t : State} (h : exec .commitComplete s = .next t) :
    t.sc.staging = s.sc.staging := by
  rw [exec_commitComplete] at h
  obtain rfl | rfl := live_next_cases h
  · simp only [State.setPending_sc, commitStep_frame]
  · rfl

theorem afterReset_staging (straps : Station) :
    (State.afterReset straps).sc.staging = List.replicate 64 0 := rfl

/-- Settles O3: the two kinds of WRITE, the commit and the reset, each by its own lemma. -/
theorem stagingPageHoldsWhatIsWritten : Obligations.StagingPageHoldsWhatIsWritten := by
  refine ⟨?write, ?noEntry, ?commit, ?reset⟩
  case write => exact fun s item v => exec_stagingPageWrite_entry
  case noEntry => exact fun s item v h outside => exec_stagingPageWrite_badValue h (.inl outside)
  case commit => exact fun s t => exec_commitComplete_staging
  case reset =>
    intro n e he
    rw [afterReset_staging, List.getElem?_replicate_of_lt he]

end Sys2Proof.Machine
end

section
/-! SUPPORT. EVENT_CLEAR (R219): which flags an accepted value leaves set, what the command answers and
leaves, and ATTENTION read flag by flag (R218). -/

namespace Sys2Proof.Machine

/-! ## The flags (R217, R218) -/

/-- R218: ATTENTION is asserted exactly while some flag is both set and enabled. -/
theorem attention_iff (s : State) : attention s = true ↔
    ∃ b, b < 12 ∧ s.cp.events.getLsbD b = true ∧ s.cp.enables.getLsbD b = true := by
  rw [attention, bne_iff_ne]
  constructor
  · intro nonzero
    by_contra noFlag
    refine nonzero (BitVec.eq_of_getLsbD_eq fun b hb => ?_)
    have notBoth : ¬ (s.cp.events.getLsbD b = true ∧ s.cp.enables.getLsbD b = true) :=
      fun both => noFlag ⟨b, hb, both⟩
    simpa using notBoth
  · rintro ⟨b, _, isSet, enabled⟩ zero
    have bit : (s.cp.events &&& s.cp.enables).getLsbD b = true := by
      rw [BitVec.getLsbD_and, isSet, enabled, Bool.and_self]
    simp [zero] at bit

/-- R219: the flags left set once those named by a value are cleared. -/
def flagsLeft (events : BitVec 12) (named : Word32) : BitVec 12 := events &&& ~~~(named.setWidth 12)

theorem getLsbD_flagsLeft (events : BitVec 12) (named : Word32) {b : Nat} (hb : b < 12) :
    (flagsLeft events named).getLsbD b = (events.getLsbD b && !named.getLsbD b) := by
  simp [flagsLeft, hb]

/-! ## The command (R219) -/

theorem exec_eventClear (v : Word32) (s : State) :
    exec (.eventClear v) s = live (action 0x108 (eventClearAction v)) s :=
  rfl

theorem eventClearAction_accepted {v : Word32} (h : v.toNat < 4096) (s : State) :
    eventClearAction v s = accept (s.setCp { s.cp with events := flagsLeft s.cp.events v }) :=
  if_pos h

theorem eventClearAction_badValue {v : Word32} (h : 4096 ≤ v.toNat) (s : State) :
    eventClearAction v s = refuse .badValue s :=
  if_neg (Nat.not_lt.mpr h)

theorem exec_eventClear_accepted {s : State} {v : Word32} (h : Live s) (hv : v.toNat < 4096) :
    ∃ t, exec (.eventClear v) s = .next t ∧ Answered t 3 0x108 .ok 0 ∧
      Transacted (s.setCp { s.cp with events := flagsLeft s.cp.events v }) t := by
  rw [exec_eventClear]
  obtain ⟨t, next, answer, rest⟩ :=
    answered_accepted (item := 0x108) h (eventClearAction_accepted hv (shiftOut s)) rfl
  exact ⟨t, next, answer, transacted_shiftOut rest⟩

theorem exec_eventClear_badValue {s : State} {v : Word32} (h : Live s) (hv : 4096 ≤ v.toNat) :
    ∃ t, exec (.eventClear v) s = .next t ∧ Answered t 3 0x108 .badValue 0 ∧ Transacted s t := by
  rw [exec_eventClear]
  exact answered_refused h (eventClearAction_badValue hv (shiftOut s))

theorem events_eq_of_transacted {u t : State} (h : Transacted u t) : t.cp.events = u.cp.events := by
  unfold Transacted at h
  rw [h, State.setCp_cp]

/-- Settles O5: a value with a bit of 12 to 31 set is refused; any other leaves exactly the flags it
does not name. -/
theorem eventClearClearsTheFlagsNamed : Obligations.EventClearClearsTheFlagsNamed := by
  intro s v h
  by_cases hv : v.toNat < 4096
  · obtain ⟨t, next, answer, rest⟩ := exec_eventClear_accepted h hv
    have left : t.cp.events = flagsLeft s.cp.events v := by
      rw [events_eq_of_transacted rest, State.setCp_cp]
    refine ⟨t, .ok, next, answer, left ▸ rest, by omega, fun _ => ⟨rfl, ?_⟩, attention_iff t⟩
    intro b hb
    rw [left, getLsbD_flagsLeft _ _ hb]
  · obtain ⟨t, next, answer, rest⟩ := exec_eventClear_badValue h (Nat.not_lt.mp hv)
    have kept : t.cp.events = s.cp.events := events_eq_of_transacted rest
    exact ⟨t, .badValue, next, answer, kept ▸ rest, fun _ => ⟨rfl, kept⟩, by omega, attention_iff t⟩

end Sys2Proof.Machine
end

section
/-! SUPPORT. Every command as one effect on the state: what a command answers is its effect on a live
station (R204, R214), so that what each effect keeps, every step keeps. -/

namespace Sys2Proof.Machine

/-- The effect of each command on a station whose reset pin is not held. -/
def effectOf : Instr → State → State
  | .powerOnReset straps => resetStation straps
  | .fieldBegin words => fieldBeginEffect words
  | .lineRecord words => lineRecordEffect words
  | .fieldEnd words => fieldEndEffect words
  | .listenPeriodEnd => listenEnd
  | .snapshotWaitEnd => snapshotEnd
  | .isolationWaitEnd => isolationEnd
  | .analysisHandover => handOverHead
  | .voteTimerExpiry field => timerExpiry field
  | .closeRequeue => closeRequeue
  | .leaveRequeue => leaveRequeue
  | .idlePoint others => idlePointStep others
  | .idleMonitorExpiry => monitorExpiry
  | .ownTransmissionNotSeen => transmissionNotSeen
  | .parcelCutShort => cutShort
  | .parcelVoid reading => parcelVoidStep reading
  | .parcelDiscard => parcelDiscardStep
  | .isolationNotice => isolationNotice
  | .takeClose sender epoch field =>
    memberTake { sender := sender, epoch := epoch, content := .close field }
  | .takeLeave sender epoch => takeLeaveEffect sender epoch
  | .takeSnapshot sender epoch joiner carried => takeSnapshotEffect sender epoch joiner carried
  | .takeJoin sender epoch digest founding words => takeJoinEffect sender epoch digest founding words
  | .takeForce sender epoch code phase =>
    memberTake { sender := sender, epoch := epoch, content := .force code phase }
  | .takeLoopSet sender epoch code value =>
    memberTake { sender := sender, epoch := epoch, content := .loopSet code value }
  | .takeBankSelect sender epoch bank digest target =>
    memberTake { sender := sender, epoch := epoch, content := .bankSelect bank digest target }
  | .takeReport sender epoch field figures up down =>
    takeReportEffect sender epoch field figures up down
  | .missedRoundRemoval => missedRemoval
  | .takeHalo sender epoch parcel => takeHaloEffect sender epoch parcel
  | .pendingSetOffer => offerPendingSets
  | .buildStart => testHead
  | .buildLine => buildLineStep
  | .haloWaitExpiry => haloExpiry
  | .rowWrite => rowWriteStep
  | .commitComplete => commitStep
  | .outputStart frame => outputStartStep frame
  | .rowEmit => emitRow
  | .transactionIncomplete edges => transactionIncompleteEffect edges
  | .noRequest => shiftOut
  | .configWrite item value => transact kindWrite item (writeConfig item value)
  | .stagingPageWrite item value => transact kindWrite item (writeStaging item value)
  | .eventEnablesWrite value => transact kindWrite enablesItem (writeEnables value)
  | .writeOther bytes => takeTransaction bytes
  | .start _ => action 0x100 startAction
  | .stop _ => action 0x101 stopAction
  | .reset _ straps => resetTaken straps
  | .force value => action 0x103 (forceAction value)
  | .loop value => action 0x104 (loopAction value)
  | .selectBank value => action 0x105 (selectAction value)
  | .commitPage value => action 0x106 (commitAction value)
  | .clearBank value => action 0x107 (clearAction value)
  | .eventClear value => action 0x108 (eventClearAction value)
  | .segmentMark _ => action 0x109 segmentAction
  | .programmeClear _ => action 0x10A clearTotalsAction
  | .resetPinDrivenLow => holdReset

/-- Every command but the release of the reset pin acts on a live station alone. -/
theorem exec_eq_live (i : Instr) (s : State) :
    exec i s = live (effectOf i) s ∨
      ∃ straps, i = .powerOnReset straps ∧
        exec i s = .next ((resetStation straps s).setPending s.pending) := by
  cases i
  case powerOnReset straps => exact .inr ⟨straps, rfl, rfl⟩
  all_goals exact .inl rfl

/-- What a command answers on a live station: its effect, with the queue as it stood. -/
theorem exec_live {i : Instr} {s : State} (h : Live s) :
    exec i s = .next ((effectOf i s).setPending s.pending) := by
  obtain eq | ⟨straps, rfl, eq⟩ := exec_eq_live i s
  · rw [eq, live_next h]
  · exact eq

/-- What a command answers on any station: its effect, or under the held reset pin nothing. -/
theorem exec_next_cases {i : Instr} {s t : State} (h : exec i s = .next t) :
    t = (effectOf i s).setPending s.pending ∨ t = s := by
  obtain eq | ⟨straps, rfl, eq⟩ := exec_eq_live i s
  · exact live_next_cases (eq ▸ h)
  · exact .inl (Host.Outcome.next.inj (eq ▸ h)).symm

/-- R204: every command answers a next state, and none touches the queue. -/
theorem exec_answers (i : Instr) (s : State) : ∃ t, exec i s = .next t ∧ t.pending = s.pending := by
  obtain eq | ⟨straps, rfl, eq⟩ := exec_eq_live i s
  · exact ⟨_, eq, rfl⟩
  · exact ⟨_, eq, rfl⟩

theorem step_of_pending_nil {s : State} (h : s.pending = []) : step s = .next s := by
  rw [step, h]

theorem step_of_pending_cons {s : State} {c : Instr} {rest : List Instr} (h : s.pending = c :: rest) :
    step s = exec c (s.setPending rest) := by
  rw [step, h]

/-- A property that ignores the queue and that every command's effect keeps, every step keeps. -/
theorem step_keeps {keeps : State → State → Prop} (refl : ∀ s, keeps s s)
    (trans : ∀ s t u, keeps s t → keeps t u → keeps s u)
    (queue : ∀ s q, keeps s (s.setPending q)) (effect : ∀ i s, keeps s (effectOf i s))
    {s t : State} (h : step s = .next t) : keeps s t := by
  cases hq : s.pending with
  | nil =>
    rw [step_of_pending_nil hq] at h
    exact Host.Outcome.next.inj h ▸ refl s
  | cons c rest =>
    rw [step_of_pending_cons hq] at h
    have popped : keeps s (s.setPending rest) := queue s rest
    obtain rfl | rfl := exec_next_cases h
    · exact trans _ _ _ popped (trans _ _ _ (effect c _) (queue _ _))
    · exact popped

end Sys2Proof.Machine
end

section
/-! SUPPORT. The station as a whole (spec/95, R204, R205, R214): the front command, the held reset pin,
and both resets. -/

namespace Sys2Proof.Machine

/-- Settles O16. -/
theorem stepRunsTheFrontCommand : Obligations.StepRunsTheFrontCommand :=
  ⟨fun _ _ _ => step_of_pending_cons rfl, fun _ => step_of_pending_nil⟩

/-- Settles O17. -/
theorem everyCommandAnswersNext : Obligations.EveryCommandAnswersNext := exec_answers

theorem exec_held {i : Instr} {s : State} (held : s.cp.resetHeld = true)
    (other : ∀ n, i ≠ .powerOnReset n) : exec i s = .next s := by
  obtain eq | ⟨straps, rfl, _⟩ := exec_eq_live i s
  · rw [eq, live_held held]
  · exact absurd rfl (other straps)

/-- Settles O18: the pin's own command by its effect, the others by what a command answers. -/
theorem heldResetPinStopsCommands : Obligations.HeldResetPinStopsCommands :=
  ⟨fun _ h => exec_live h, fun _ _ => exec_held⟩

/-! ## The bytes of a result (R205) -/

theorem bytes_of_item (v : Word16) : v.extractLsb' 8 8 ++ v.extractLsb' 0 8 = v := by
  ext i hi
  simp only [BitVec.getElem_append, BitVec.getElem_extractLsb']
  split
  · simp [BitVec.getLsbD_eq_getElem hi]
  · rw [show 8 + (i - 8) = i by omega, BitVec.getLsbD_eq_getElem hi]

theorem bytes_of_value (v : Word32) :
    v.extractLsb' 24 8 ++ v.extractLsb' 16 8 ++ v.extractLsb' 8 8 ++ v.extractLsb' 0 8 = v := by
  ext i hi
  simp only [BitVec.getElem_append, BitVec.getElem_extractLsb']
  split
  · simp [BitVec.getLsbD_eq_getElem hi]
  · split
    · rw [show 8 + (i - 8) = i by omega, BitVec.getLsbD_eq_getElem hi]
    · split
      · rw [show 16 + (i - 8 - 8) = i by omega, BitVec.getLsbD_eq_getElem hi]
      · rw [show 24 + (i - 8 - 8 - 8) = i by omega, BitVec.getLsbD_eq_getElem hi]

/-- R205: the eight bytes that carry a result give back its four fields. -/
theorem resultBytes_fields (r : PortResult) :
    (resultBytes r)[0] = r.kind ∧ (resultBytes r)[1] ++ (resultBytes r)[2] = r.item ∧
      (resultBytes r)[3] = resultNumber r.code ∧
      (resultBytes r)[4] ++ (resultBytes r)[5] ++ (resultBytes r)[6] ++ (resultBytes r)[7] =
        r.value :=
  ⟨rfl, bytes_of_item r.item, rfl, bytes_of_value r.value⟩

/-- Settles O19: both resets by their effect; the bytes shifted out are the previous result's. -/
theorem resetRestoresEveryBlock : Obligations.ResetRestoresEveryBlock := by
  intro s n v
  refine ⟨rfl, fun live => ⟨_, exec_live live, rfl, ?_⟩⟩
  exact resultBytes_fields s.cp.result

/-- Settles O1: neither row takes a request, so both are the shift out of the previous result. -/
theorem untakenAndEmptyTransactionsKeepTheResult :
    Obligations.UntakenAndEmptyTransactionsKeepTheResult := by
  intro s edges live
  refine ⟨_, exec_live (i := .transactionIncomplete edges) live, exec_live live, rfl, ?_⟩
  exact resultBytes_fields s.cp.result

/-! ## Reset values (R214) -/

theorem afterReset_bank (n : Station) (b : BankName) : bankOf (State.afterReset n) b = Bank.cleared := by
  cases b <;> rfl

theorem cleared_coefficient_zero {x : Coeff}
    (h : x ∈ Bank.cleared.vertical ∨ x ∈ Bank.cleared.horizontal) : x = 0 := by
  obtain h | h := h <;> exact List.eq_of_mem_replicate h

theorem directionReset_values (n : Nat) :
    (Direction.reset n).slots.length = 2 ∧ ∀ sl ∈ (Direction.reset n).slots, sl.state = .free := by
  simp [Direction.reset, ReceiveSlot.empty]

theorem directionReset_safe (n : Nat) : DirectionSafe (Direction.reset n) :=
  ⟨Nat.le_refl 2, Nat.zero_le 3, rfl⟩

theorem cleared_tables :
    Bank.cleared.vertical.length = 512 ∧ Bank.cleared.horizontal.length = 512 :=
  ⟨List.length_replicate, List.length_replicate⟩

/-- Settles O20: block by block from the reset state; the slots, the banks and the totals by what their
lists hold. -/
theorem resetValuesAreTheRules : Obligations.ResetValuesAreTheRules := by
  rintro n s rfl
  have noAttention : attention (State.afterReset n) = false := by simp [attention, State.afterReset]
  refine ⟨rfl, rfl, rfl, ?slots, rfl, rfl, rfl, rfl,
    rfl, rfl, rfl, rfl, rfl, rfl, rfl, rfl, rfl, rfl,
    rfl, rfl, rfl, rfl, rfl, rfl, rfl, rfl, rfl, rfl, rfl, rfl,
    rfl, rfl, rfl, rfl, rfl, rfl, rfl, rfl, rfl, rfl, rfl, rfl, rfl, rfl, rfl,
    ?directions, rfl, rfl, rfl, rfl, rfl, rfl, ?banks, rfl, rfl, rfl, rfl, rfl, rfl,
    rfl, rfl, rfl, rfl, rfl, rfl, noAttention, rfl, rfl, rfl, rfl, rfl, rfl, rfl, rfl, rfl,
    ?totals, rfl, rfl, rfl, rfl, rfl, rfl, rfl, rfl, rfl, rfl, rfl, rfl⟩
  case slots =>
    intro sl hsl
    obtain rfl : sl = Slot.free := List.eq_of_mem_replicate hsl
    exact ⟨rfl, rfl⟩
  case directions =>
    rintro d (rfl | rfl)
    · exact ⟨rfl, rfl, rfl, rfl, rfl, rfl, rfl, rfl, directionReset_values 3⟩
    · exact ⟨rfl, rfl, rfl, rfl, rfl, rfl, rfl, rfl, directionReset_values 4⟩
  case banks =>
    intro b
    rw [afterReset_bank]
    exact ⟨rfl, rfl, rfl, cleared_tables.1, cleared_tables.2, fun _ => cleared_coefficient_zero⟩
  case totals =>
    intro v hv
    exact List.eq_of_mem_replicate (n := 14) hv

/-- Settles O59: of a station after reset every queue, list and table has its reset size. -/
theorem resetMeetsTheInvariants : Obligations.ResetMeetsTheInvariants := by
  intro n
  refine ⟨?line, fun started => absurd rfl started, ?halo, ?store, ?coefficients,
    ⟨fun _ => ⟨rfl, rfl, rfl⟩⟩, ?send⟩
  case line => constructor <;> simp [State.afterReset]
  case halo => exact ⟨directionReset_safe 3, directionReset_safe 4⟩
  case store => constructor <;> simp [State.afterReset]
  case coefficients =>
    refine ⟨List.length_replicate, fun b => ?_, (fun c hc => nomatch hc), fun b hb => ?_⟩
    · rw [afterReset_bank]
      exact cleared_tables
    · rw [afterReset_bank] at hb
      cases hb
  case send => exact ⟨fun x hx => nomatch hx⟩

end Sys2Proof.Machine
end

section
/-! SUPPORT. What every step keeps (the invariants of Safety.lean): `Keeps s t` says that each invariant
passes from `s` to `t`, and each operation has one lemma that says it keeps them. Part 1: the parts of
the state the invariants read, and the operations of the single blocks. -/

namespace Sys2Proof.Machine

/-- Each invariant that holds of `s` holds of `t`. -/
structure Keeps (s t : State) : Prop where
  line : LineSafe s → LineSafe t
  lock : LockSafe s → LockSafe t
  timers : TimersSafe s → TimersSafe t
  send : SendSafe s → SendSafe t
  halo : HaloSafe s → HaloSafe t
  store : StoreSafe s → StoreSafe t
  coefficients : CoefficientSafe s → CoefficientSafe t

/-! ## The parts the invariants read -/

/-- What they read of the Consensus Unit, with the lock. -/
@[simp] def consensusPart (s : State) : Membership × List VoteTimer × List FieldNo × List FieldNo × Bool :=
  (s.cu.membership, s.cu.timers, s.cu.heldExpiries, s.cu.owedCloses, s.cp.lock)

/-- What they read of the Peer Line Interface. -/
@[simp] def linePart (s : State) : Bool × Option Transmission × Nat × Nat × Nat :=
  (s.pli.attached, s.pli.tx, s.pli.urgent.length, s.pli.bulk.length, s.pli.urgentDiscards)

/-- What they read of Halo Exchange. -/
@[simp] def haloPart (s : State) : Direction × Direction := (s.hx.up, s.hx.down)

/-- What they read of the Field Store, the Field Analyser and the Line Builder. -/
@[simp] def storePart (s : State) : Nat × Nat × Nat × Nat :=
  (s.fs.slots.length, s.fa.pending.length, s.lb.frames.length, s.lb.decisions.length)

/-- What they read of the Scaler. -/
@[simp] def coefficientPart (s : State) : List Coeff × Bank × Bank × Option Commit :=
  (s.sc.staging, s.sc.bankA, s.sc.bankB, s.sc.commit)

section Transfer

variable {s t : State}

theorem lineSafe_of_eq (hc : consensusPart t = consensusPart s) (hl : linePart t = linePart s)
    (h : LineSafe s) : LineSafe t := by
  simp only [consensusPart, linePart, Prod.mk.injEq] at hc hl
  obtain ⟨hm, -⟩ := hc
  obtain ⟨ha, ht, hu, hb, hd⟩ := hl
  exact ⟨by rw [ha, hm]; exact h.attachedRuns, by rw [ht, ha]; exact h.sendsAttached,
    hu ▸ h.urgentFits, hb ▸ h.bulkFits, hd ▸ h.discardsFit⟩

theorem lockSafe_of_eq (hc : consensusPart t = consensusPart s) (h : LockSafe s) : LockSafe t := by
  simp only [consensusPart, Prod.mk.injEq] at hc
  obtain ⟨hm, -, -, -, hl⟩ := hc
  rwa [LockSafe, hm, hl]

theorem timersSafe_of_eq (hc : consensusPart t = consensusPart s) (h : TimersSafe s) :
    TimersSafe t := by
  simp only [consensusPart, Prod.mk.injEq] at hc
  obtain ⟨hm, ht, hh, ho, -⟩ := hc
  exact ⟨by rw [hm, ht, hh, ho]; exact h.membersOnly⟩

theorem sendSafe_of_eq (ht : t.pli.tx = s.pli.tx) (h : SendSafe s) : SendSafe t :=
  ⟨by rw [ht]; exact h.drivesItsParcel⟩

theorem haloSafe_of_eq (hh : haloPart t = haloPart s) (h : HaloSafe s) : HaloSafe t := by
  simp only [haloPart, Prod.mk.injEq] at hh
  obtain ⟨hu, hd⟩ := hh
  exact ⟨hu ▸ h.upSafe, hd ▸ h.downSafe⟩

theorem storeSafe_of_eq (hs : storePart t = storePart s) (h : StoreSafe s) : StoreSafe t := by
  simp only [storePart, Prod.mk.injEq] at hs
  obtain ⟨hl, ha, hf, hd⟩ := hs
  exact ⟨hl ▸ h.fiveSlots, ha ▸ h.analysesFit, hf ▸ h.framesFit, hd ▸ h.decisionsFit⟩

theorem coefficientSafe_of_eq (hc : coefficientPart t = coefficientPart s) (h : CoefficientSafe s) :
    CoefficientSafe t := by
  simp only [coefficientPart, Prod.mk.injEq] at hc
  obtain ⟨hs, hA, hB, hm⟩ := hc
  have hb (b : BankName) : bankOf t b = bankOf s b := by
    cases b
    · exact hA
    · exact hB
  exact ⟨hs ▸ h.stagingSize, fun b => hb b ▸ h.tableSizes b, hm ▸ h.commitSize,
    fun b => hb b ▸ h.readyWhole b⟩

end Transfer

namespace Keeps

theorem refl (s : State) : Keeps s s := ⟨id, id, id, id, id, id, id⟩

theorem trans {s t u : State} (h : Keeps s t) (k : Keeps t u) : Keeps s u :=
  ⟨k.line ∘ h.line, k.lock ∘ h.lock, k.timers ∘ h.timers, k.send ∘ h.send, k.halo ∘ h.halo,
    k.store ∘ h.store, k.coefficients ∘ h.coefficients⟩

theorem foldl {α : Type} {f : State → α → State} (h : ∀ s a, Keeps s (f s a)) :
    ∀ (l : List α) (s : State), Keeps s (l.foldl f s)
  | [], s => refl s
  | a :: l, s => (h s a).trans (foldl h l (f s a))

theorem ite {c : Prop} [Decidable c] {s t u : State} (ht : c → Keeps s t) (hu : ¬ c → Keeps s u) :
    Keeps s (if c then t else u) := by
  split
  · exact ht ‹_›
  · exact hu ‹_›

section Parts

variable {s t : State}

/-- An operation that changes no part an invariant reads. -/
theorem same
    (h : (consensusPart t, linePart t, haloPart t, storePart t, coefficientPart t) =
      (consensusPart s, linePart s, haloPart s, storePart s, coefficientPart s)) : Keeps s t := by
  obtain ⟨hc, hl, hh, hs, hk⟩ : consensusPart t = consensusPart s ∧ linePart t = linePart s ∧
      haloPart t = haloPart s ∧ storePart t = storePart s ∧
      coefficientPart t = coefficientPart s := by
    simpa only [Prod.mk.injEq] using h
  have ht : t.pli.tx = s.pli.tx := congrArg (fun p => p.2.1) hl
  exact ⟨lineSafe_of_eq hc hl, lockSafe_of_eq hc, timersSafe_of_eq hc, sendSafe_of_eq ht,
    haloSafe_of_eq hh, storeSafe_of_eq hs, coefficientSafe_of_eq hk⟩

/-- An operation of the Peer Line Interface. -/
theorem ofLine
    (h : (consensusPart t, haloPart t, storePart t, coefficientPart t) =
      (consensusPart s, haloPart s, storePart s, coefficientPart s))
    (line : LineSafe s → LineSafe t) (send : SendSafe s → SendSafe t) : Keeps s t := by
  simp only [Prod.mk.injEq (consensusPart t), Prod.mk.injEq (haloPart t),
    Prod.mk.injEq (storePart t)] at h
  obtain ⟨hc, hh, hs, hk⟩ := h
  exact ⟨line, lockSafe_of_eq hc, timersSafe_of_eq hc, send, haloSafe_of_eq hh, storeSafe_of_eq hs,
    coefficientSafe_of_eq hk⟩

/-- An operation of the Consensus Unit. -/
theorem ofConsensus
    (h : (linePart t, haloPart t, storePart t, coefficientPart t) =
      (linePart s, haloPart s, storePart s, coefficientPart s))
    (line : LineSafe s → LineSafe t) (lock : LockSafe s → LockSafe t)
    (timers : TimersSafe s → TimersSafe t) : Keeps s t := by
  simp only [Prod.mk.injEq (linePart t), Prod.mk.injEq (haloPart t),
    Prod.mk.injEq (storePart t)] at h
  obtain ⟨hl, hh, hs, hk⟩ := h
  have ht : t.pli.tx = s.pli.tx := congrArg (fun p => p.2.1) hl
  exact ⟨line, lock, timers, sendSafe_of_eq ht, haloSafe_of_eq hh, storeSafe_of_eq hs,
    coefficientSafe_of_eq hk⟩

/-- An operation of Halo Exchange. -/
theorem ofHalo
    (h : (consensusPart t, linePart t, storePart t, coefficientPart t) =
      (consensusPart s, linePart s, storePart s, coefficientPart s))
    (halo : HaloSafe s → HaloSafe t) : Keeps s t := by
  simp only [Prod.mk.injEq (consensusPart t), Prod.mk.injEq (linePart t),
    Prod.mk.injEq (storePart t)] at h
  obtain ⟨hc, hl, hs, hk⟩ := h
  have ht : t.pli.tx = s.pli.tx := congrArg (fun p => p.2.1) hl
  exact ⟨lineSafe_of_eq hc hl, lockSafe_of_eq hc, timersSafe_of_eq hc, sendSafe_of_eq ht, halo,
    storeSafe_of_eq hs, coefficientSafe_of_eq hk⟩

/-- An operation of the Field Store, the Field Analyser or the Line Builder. -/
theorem ofStore
    (h : (consensusPart t, linePart t, haloPart t, coefficientPart t) =
      (consensusPart s, linePart s, haloPart s, coefficientPart s))
    (store : StoreSafe s → StoreSafe t) : Keeps s t := by
  simp only [Prod.mk.injEq (consensusPart t), Prod.mk.injEq (linePart t),
    Prod.mk.injEq (haloPart t)] at h
  obtain ⟨hc, hl, hh, hk⟩ := h
  have ht : t.pli.tx = s.pli.tx := congrArg (fun p => p.2.1) hl
  exact ⟨lineSafe_of_eq hc hl, lockSafe_of_eq hc, timersSafe_of_eq hc, sendSafe_of_eq ht,
    haloSafe_of_eq hh, store, coefficientSafe_of_eq hk⟩

/-- An operation of the Scaler. -/
theorem ofCoefficients
    (h : (consensusPart t, linePart t, haloPart t, storePart t) =
      (consensusPart s, linePart s, haloPart s, storePart s))
    (coefficients : CoefficientSafe s → CoefficientSafe t) : Keeps s t := by
  simp only [Prod.mk.injEq (consensusPart t), Prod.mk.injEq (linePart t),
    Prod.mk.injEq (haloPart t)] at h
  obtain ⟨hc, hl, hh, hs⟩ := h
  have ht : t.pli.tx = s.pli.tx := congrArg (fun p => p.2.1) hl
  exact ⟨lineSafe_of_eq hc hl, lockSafe_of_eq hc, timersSafe_of_eq hc, sendSafe_of_eq ht,
    haloSafe_of_eq hh, storeSafe_of_eq hs, coefficients⟩

end Parts

end Keeps

/-! ## Marks, counts and flags -/

theorem setPending_keeps (s : State) (q : List Instr) : Keeps s (s.setPending q) := .same (by simp)

theorem drawn_keeps (s : State) : Keeps s s.drawn := .same (by simp)

theorem raise_keeps (s : State) (e : Event) : Keeps s (s.raise e) := .same (by simp)

theorem setTotals_keeps (s : State) (t : Totals) : Keeps s (s.setTotals t) := .same (by simp)

theorem setAgreed_keeps (s : State) (a : AgreedState) : Keeps s (s.setAgreed a) := .same (by simp)

theorem drive_keeps (s : State) (a : AckDrive) : Keeps s (s.drive a) := .same (by simp)

theorem shiftOut_keeps (s : State) : Keeps s (shiftOut s) := .same (by simp)

theorem counted_keeps (s : State) (t : Totals) (e : Event) : Keeps s ((s.setTotals t).raise e) :=
  (setTotals_keeps s t).trans (raise_keeps _ e)

theorem setLi_keeps (s : State) (v : Intake) : Keeps s (s.setLi v) := .same (by simp)

theorem setOp_keeps (s : State) (v : OutputPort) : Keeps s (s.setOp v) := .same (by simp)

/-! ## The Field Store -/

@[simp] theorem setSlots_slots (s : State) (v : List Slot) : (s.setSlots v).fs.slots = v := rfl

@[simp] theorem setSlot_slots (s : State) (i : Nat) (v : Slot) :
    (s.setSlot i v).fs.slots = s.fs.slots.set i v := rfl

@[simp] theorem updateOccupant_slots_length (s : State) (i : Nat) (f : Occupant → Occupant) :
    (s.updateOccupant i f).fs.slots.length = s.fs.slots.length := by
  simp [State.updateOccupant]

@[simp] theorem addHolder_slots_length (h : Holder) (s : State) (i : Nat) :
    (addHolder h s i).fs.slots.length = s.fs.slots.length := by
  unfold addHolder
  split
  · rfl
  · simp

@[simp] theorem dropHolder_slots_length (h : Holder) (s : State) :
    (dropHolder h s).fs.slots.length = s.fs.slots.length := by
  simp [dropHolder]

@[simp] theorem holdFields_slots_length (h : Holder) (s : State) (fields : List FieldNo) :
    (holdFields h s fields).fs.slots.length = s.fs.slots.length :=
  keeps_foldl (fun t : State => t.fs.slots.length) _ (fun t i => addHolder_slots_length h t i) _ _

theorem updateOccupant_keeps (s : State) (i : Nat) (f : Occupant → Occupant) :
    Keeps s (s.updateOccupant i f) := .same (by simp)

theorem setSlot_keeps (s : State) (i : Nat) (v : Slot) : Keeps s (s.setSlot i v) := .same (by simp)

theorem dropHolder_keeps (h : Holder) (s : State) : Keeps s (dropHolder h s) := .same (by simp)

theorem holdFields_keeps (h : Holder) (s : State) (fields : List FieldNo) :
    Keeps s (holdFields h s fields) := .same (by simp)

theorem claimSlot_keeps (s : State) (i : Nat) (f : FieldNo) (p : Parity) :
    Keeps s (claimSlot s i f p) := .same (by simp [claimSlot])

theorem freeUnheld_keeps (s : State) : Keeps s (freeUnheld s) := .same (by simp [freeUnheld])

theorem dropOpenField_keeps (s : State) : Keeps s (dropOpenField s) := by
  unfold dropOpenField
  have cleared : Keeps s (s.setLi { s.li with marker := none }) := setLi_keeps _ _
  split
  · exact cleared
  · split
    · exact cleared
    · exact cleared.trans (setSlot_keeps _ _ _)

/-! ## Release counts -/

theorem returnCounts_keeps (s : State) (q : Queued) : Keeps s (returnCounts q s) :=
  .ofHalo (by simp) returnCounts_safe

/-! ## The Peer Line Interface -/

/-- An operation that keeps who is attached and sends, and only shortens the queues. -/
theorem lineSafe_shrink {s t : State} (hm : t.cu.membership = s.cu.membership)
    (ha : t.pli.attached = s.pli.attached) (ht : t.pli.tx.isSome = true → s.pli.tx.isSome = true)
    (hu : t.pli.urgent.length ≤ s.pli.urgent.length) (hb : t.pli.bulk.length ≤ s.pli.bulk.length)
    (hd : t.pli.urgentDiscards ≤ s.pli.urgentDiscards) (h : LineSafe s) : LineSafe t :=
  ⟨by rw [ha, hm]; exact h.attachedRuns, by rw [ha]; exact fun x => h.sendsAttached (ht x),
    hu.trans h.urgentFits, hb.trans h.bulkFits, hd.trans h.discardsFit⟩

theorem pushUrgent_keeps {q : Queued} {s : State} (room : s.pli.urgent.length < 8) :
    Keeps s (pushUrgent q s) := by
  refine .ofLine (by simp) (fun h => ?_) (sendSafe_of_eq rfl)
  refine ⟨h.attachedRuns, h.sendsAttached, ?_, h.bulkFits, h.discardsFit⟩
  simpa [pushUrgent] using room

theorem requestUrgent_keeps (q : Queued) (s : State) : Keeps s (requestUrgent q s) := by
  unfold requestUrgent
  split
  case h_1 ha => exact pushUrgent_keeps (urgentAnswer_accepted ha).1
  case h_2 => exact .refl s

theorem pushBulk_keeps {ps : List HaloParcel} {s : State} (room : bulkAccepts ps s = true) :
    Keeps s (pushBulk ps s) :=
  .ofLine (by simp)
    (fun h => ⟨h.attachedRuns, h.sendsAttached, h.urgentFits, bulkAccepts_fits room, h.discardsFit⟩)
    (sendSafe_of_eq rfl)

theorem sent_of_none {p : LineInterface} (h : p.tx = none) :
    ∀ x, p.tx = some x → x.sent = drivenParts x.parcel := by
  intro x hx
  rw [h] at hx
  cases hx

theorem withdrawnUrgent_sent {hit : Queued → Bool} {p : LineInterface}
    (h : ∀ x, p.tx = some x → x.sent = drivenParts x.parcel) :
    ∀ x, (withdrawnUrgent hit p).tx = some x → x.sent = drivenParts x.parcel := by
  unfold withdrawnUrgent
  split
  · exact h
  · split
    · split
      · exact markTx_sent h
      · exact h
    · split <;> exact h

theorem withdrawnBulk_sent {hit : HaloParcel → Bool} {p : LineInterface}
    (h : ∀ x, p.tx = some x → x.sent = drivenParts x.parcel) :
    ∀ x, (withdrawnBulk hit p).tx = some x → x.sent = drivenParts x.parcel := by
  unfold withdrawnBulk
  split
  · exact h
  · split
    · split
      · exact markTx_sent h
      · exact h
    · split <;> exact h

theorem withdrawUrgent_keeps (hit : Queued → Bool) (s : State) : Keeps s (withdrawUrgent hit s) := by
  have withdrawn : Keeps s (s.setPli (withdrawnUrgent hit s.pli)) := by
    obtain ⟨hu, hb, ha, ht, hd⟩ := withdrawnUrgent_keeps hit s.pli
    refine .ofLine (by simp) (lineSafe_shrink rfl ha (fun x => ht ▸ x) hu (Nat.le_of_eq ?_)
      (Nat.le_of_eq hd)) fun h => ⟨withdrawnUrgent_sent h.drivesItsParcel⟩
    exact congrArg List.length hb
  exact withdrawn.trans (.foldl (fun t q => returnCounts_keeps t q) _ _)

theorem withdrawBulk_keeps (hit : HaloParcel → Bool) (s : State) : Keeps s (withdrawBulk hit s) := by
  obtain ⟨hb, hu, ha, ht, hd⟩ := withdrawnBulk_keeps hit s.pli
  refine .ofLine (by simp) (lineSafe_shrink (by simp) ha (fun x => ht ▸ x) (Nat.le_of_eq ?_) hb
    (Nat.le_of_eq hd)) fun h => ⟨withdrawnBulk_sent h.drivesItsParcel⟩
  exact congrArg List.length hu

theorem markFlushed_sent {p : LineInterface}
    (h : ∀ x, p.tx = some x → x.sent = drivenParts x.parcel) :
    ∀ x, (markFlushed p).tx = some x → x.sent = drivenParts x.parcel := by
  intro x hx
  obtain ⟨y, hy, rfl⟩ := Option.map_eq_some_iff.mp hx
  exact h y hy

theorem flush_keeps (s : State) : Keeps s (flush s) := by
  refine .ofLine (by simp) (lineSafe_shrink (by simp) (by simp) (fun x => by simpa using x) ?_ ?_
    (Nat.zero_le _)) fun h => ⟨markFlushed_sent h.drivesItsParcel⟩
  · simp only [flush, State.setPli_pli, markFlushed]
    split
    · exact List.length_take_le' _ _
    · exact Nat.zero_le _
  · simp only [flush, State.setPli_pli, markFlushed]
    split
    · exact List.length_take_le' _ _
    · exact Nat.zero_le _

/-- R42, R44: what is offered is driven with its own parts, by an attached station. -/
theorem offered_some {s : State} {t : Transmission} (h : offered s = some t) :
    s.pli.attached = true ∧ t.sent = drivenParts t.parcel := by
  unfold offered at h
  split at h
  case isTrue may =>
    simp only [Bool.and_eq_true] at may
    refine ⟨may.1.1, ?_⟩
    split at h
    · split at h
      · exact Option.some.inj h ▸ rfl
      · cases h
    · split at h
      · cases h
      · split at h
        · exact Option.some.inj h ▸ rfl
        · cases h
  case isFalse => cases h

theorem contend_keeps (others : Option (Fin 128)) (s : State) : Keeps s (contend others s) := by
  unfold contend
  split
  case h_1 => exact .refl s
  case h_2 t ht =>
    obtain ⟨attached, sent⟩ := offered_some ht
    split
    · refine .ofLine (by simp)
        (fun h => ⟨h.attachedRuns, fun _ => attached, h.urgentFits, h.bulkFits, h.discardsFit⟩)
        fun _ => ⟨fun x hx => ?_⟩
      exact Option.some.inj hx ▸ sent
    · exact .refl s

theorem dropSent_keeps (t : Transmission) (s : State) : Keeps s (s.setPli (dropSent t s.pli)) := by
  refine .ofLine (by simp) (lineSafe_shrink rfl (by simp) (by simp) ?_ ?_ (by simp))
    fun _ => ⟨sent_of_none (by simp)⟩
  · simp only [State.setPli_pli, dropSent]
    split <;> simp
  · simp only [State.setPli_pli, dropSent]
    split <;> simp

theorem completeSend_keeps (s : State) : Keeps s (completeSend s) := by
  unfold completeSend
  split
  case h_1 => exact .refl s
  case h_2 t _ =>
    refine (dropSent_keeps t s).trans ?_
    split
    · exact .refl _
    · exact .ofLine (by simp) (lineSafe_shrink rfl rfl id (Nat.le_refl _) (Nat.le_refl _)
        (Nat.zero_le _)) (sendSafe_of_eq rfl)

theorem removeMarked_keeps (t : Transmission) (cause : MarkCause) (s : State) :
    Keeps s (removeMarked t cause s) := by
  unfold removeMarked
  have removed := dropSent_keeps t s
  split
  · exact removed
  · split
    · exact removed
    · split
      · exact removed
      · exact removed.trans (returnCounts_keeps _ _)

theorem voidSend_keeps (s : State) : Keeps s (voidSend s) := by
  unfold voidSend
  split
  · exact .refl s
  · split
    · exact removeMarked_keeps _ _ s
    · exact .ofLine (by simp) (lineSafe_shrink rfl (by simp) (by simp) (by simp) (by simp) (by simp))
        fun _ => ⟨sent_of_none (by simp)⟩

theorem cutShort_keeps (s : State) : Keeps s (cutShort s) := by
  unfold cutShort
  split
  · exact .refl s
  · split
    · exact removeMarked_keeps _ _ s
    · exact .ofLine (by simp) (lineSafe_shrink rfl rfl (by simp) (Nat.le_refl _) (Nat.le_refl _)
        (Nat.le_refl _)) fun _ => ⟨sent_of_none rfl⟩

/-- R45: nothing is in transmission once the parcel is cut short. -/
@[simp] theorem cutShort_tx (s : State) : (cutShort s).pli.tx = none := by
  unfold cutShort
  split
  · assumption
  · split
    · simp only [removeMarked]
      split
      · simp
      · split
        · simp
        · split <;> simp
    · rfl

theorem attach_keeps {s : State} (runs : s.cu.membership.running = true) : Keeps s (attach s) :=
  .ofLine (by simp)
    (fun h => ⟨fun _ => runs, fun _ => rfl, h.urgentFits, h.bulkFits, h.discardsFit⟩)
    (sendSafe_of_eq rfl)

theorem detached_keeps (s : State) (h : s.pli.tx = none) :
    Keeps s (s.setPli { s.pli with attached := false }) :=
  .ofLine (by simp)
    (fun k => ⟨fun x => (by cases x), fun x => absurd x (by simp [h]), k.urgentFits, k.bulkFits,
      k.discardsFit⟩)
    (sendSafe_of_eq rfl)

theorem detach_keeps (s : State) : Keeps s (detach s) :=
  (cutShort_keeps s).trans (detached_keeps _ (cutShort_tx s))

@[simp] theorem detach_tx (s : State) : (detach s).pli.tx = none := cutShort_tx s

@[simp] theorem detach_attached (s : State) : (detach s).pli.attached = false := rfl

end Sys2Proof.Machine
end

section
/-! SUPPORT. What every step keeps, part 2: Halo Exchange, the Scaler, the Field Analyser, the Line
Builder and the Output Port. -/

namespace Sys2Proof.Machine

/-! ## Direction records (R150, R155 to R161) -/

theorem onlySlots_credit {d d' : Direction} (h : OnlySlots d d') : d'.credit = d.credit := by
  rw [OnlySlots] at h
  rw [h]

theorem releaseSlots_safe (pick : ReceiveSlot → FieldNo → Bool) {d : Direction}
    (h : DirectionSafe d) : DirectionSafe (releaseSlots pick d) := by
  obtain ⟨only, ⟨none, some, _⟩, slots⟩ := releaseSlots_does pick d
  refine ⟨onlySlots_credit only ▸ h.creditFits, ?_, ?_⟩
  · by_cases gone : (d.slots.filterMap fun sl => sl.frame.filter (pick sl)) = []
    · exact none gone ▸ h.releaseFits
    · exact some gone ▸ Nat.min_le_left _ _
  · rw [slots, List.length_map]
    exact h.twoSlots

theorem setDir_haloSafe {s : State} {side : Side} {d : Direction} (hd : DirectionSafe d)
    (h : HaloSafe s) : HaloSafe (s.setDir side d) := by
  cases side
  · exact ⟨hd, h.downSafe⟩
  · exact ⟨h.upSafe, hd⟩

theorem dirOf_safe {s : State} (h : HaloSafe s) (side : Side) : DirectionSafe (dirOf s side) := by
  cases side
  · exact h.upSafe
  · exact h.downSafe

theorem setDir_keeps {s : State} {side : Side} {d : Direction}
    (h : DirectionSafe (dirOf s side) → DirectionSafe d) : Keeps s (s.setDir side d) :=
  .ofHalo (by simp) fun k => setDir_haloSafe (h (dirOf_safe k side)) k

theorem bothDirections_keeps {f : Direction → Direction}
    (h : ∀ d, DirectionSafe d → DirectionSafe (f d)) (s : State) : Keeps s (bothDirections f s) :=
  .ofHalo (by simp) fun k => ⟨h _ k.upSafe, h _ k.downSafe⟩

theorem clearedDirection_safe (side : Side) (d : Direction) :
    DirectionSafe (clearedDirection side d) :=
  atRest_safe (clearedDirection_atRest side d)

theorem supersede_safe {d : Direction} (h : DirectionSafe d) : DirectionSafe (supersede d) := by
  unfold supersede
  split
  · exact ⟨h.creditFits, h.releaseFits, h.twoSlots⟩
  · exact h

theorem outboundEvent_safe (event : Outbound → Outbound) (f : FieldNo) {d : Direction}
    (h : DirectionSafe d) : DirectionSafe (outboundEvent event f d) := by
  have counted : DirectionSafe { d with outbound := (countOutbound event f d.outbound).1 } :=
    ⟨h.creditFits, h.releaseFits, h.twoSlots⟩
  unfold outboundEvent
  dsimp only
  split
  · exact raiseCredit_safe counted
  · exact counted

theorem countLostSet_safe (f : FieldNo) {d : Direction} (h : DirectionSafe d) :
    DirectionSafe (countLostSet f d) := by
  unfold countLostSet
  split
  · exact ⟨h.creditFits, h.releaseFits, h.twoSlots⟩
  · exact h

theorem dropStaleOutbound_safe (k : FieldNo) {d : Direction} (h : DirectionSafe d) :
    DirectionSafe (dropStaleOutbound k d) :=
  raiseCredit_safe ⟨h.creditFits, h.releaseFits, h.twoSlots⟩

theorem dropStalePending_safe (k : FieldNo) {d : Direction} (h : DirectionSafe d) :
    DirectionSafe (dropStalePending k d) := by
  unfold dropStalePending
  split
  · exact h
  · split
    · exact supersede_safe h
    · exact h

theorem prepareSlot_safe (s : State) (side : Side) (i : Nat) (f : FieldNo) {d : Direction}
    (h : DirectionSafe d) : DirectionSafe (prepareSlot s side i f d) := by
  unfold prepareSlot
  split
  · exact h
  · split
    · exact h
    · have sized (x : ReceiveSlot) : (d.slots.set i x).length = 2 := by
        rw [List.length_set, h.twoSlots]
      dsimp only
      split
      · exact ⟨h.creditFits, h.releaseFits, sized _⟩
      · next g _ =>
        have noted : DirectionSafe (noteRelease g d) := noteRelease_safe h
        exact ⟨noted.creditFits, noted.releaseFits, sized _⟩

theorem markInUse_safe (frame : FieldNo) {d : Direction} (h : DirectionSafe d) :
    DirectionSafe (markInUse frame d) :=
  ⟨h.creditFits, h.releaseFits, by rw [markInUse, List.length_map, h.twoSlots]⟩

/-! ## Halo Exchange and the Scaler -/

theorem toldResolved_keeps (side : Side) (s : State) : Keeps s (toldResolved side s) :=
  .same (by simp)

theorem resolveSide_keeps (side : Side) (lines : List HaloLine) (s : State) :
    Keeps s (resolveSide side lines s) := .same (by simp)

theorem expireSide_keeps (frame : FieldNo) (s : State) (side : Side) :
    Keeps s (expireSide frame s side) := .same (by simp)

theorem onBothSides_keeps {act : State → Side → State} (h : ∀ s side, Keeps s (act s side))
    (s : State) : Keeps s (onBothSides act s) := by
  unfold onBothSides
  dsimp only
  split
  · exact (drawn_keeps s).trans (.foldl h _ _)
  · exact .foldl h _ _

theorem resetDirection_keeps (s : State) (side : Side) : Keeps s (resetDirection s side) := by
  unfold resetDirection
  split
  · exact .refl s
  · dsimp only
    have withdrawn (n : Station) : Keeps s
        (withdrawBulk (fun p => p.addressee == n)
          (s.setDir side (clearedDirection side (dirOf s side)))) :=
      (setDir_keeps fun _ => clearedDirection_safe side _).trans (withdrawBulk_keeps _ _)
    split
    · exact (withdrawn _).trans (resolveSide_keeps _ _ _)
    · exact withdrawn _

theorem resetDirections_keeps (s : State) : Keeps s (resetDirections s) :=
  onBothSides_keeps resetDirection_keeps s

theorem bulkAccepts_setDir (ps : List HaloParcel) (s : State) (side : Side) (d : Direction) :
    bulkAccepts ps (s.setDir side d) = bulkAccepts ps s := by
  simp [bulkAccepts]

theorem offerSet_keeps (side : Side) (set : HaloSet) (s : State) : Keeps s (offerSet side set s) := by
  unfold offerSet
  split
  · exact .refl s
  · dsimp only
    split
    · next may =>
      have room := (Bool.and_eq_true _ _ ▸ may).2
      refine (setDir_keeps fun h => ?_).trans (pushBulk_keeps (by rw [bulkAccepts_setDir, room]))
      exact ⟨(Nat.sub_le _ _).trans h.creditFits, h.releaseFits, h.twoSlots⟩
    · exact setDir_keeps fun h => ⟨h.creditFits, h.releaseFits, h.twoSlots⟩

theorem offerNew_keeps (side : Side) (set : HaloSet) (s : State) : Keeps s (offerNew side set s) :=
  (setDir_keeps supersede_safe).trans (offerSet_keeps _ _ _)

theorem formSet_keeps (side : Side) (s : State) : Keeps s (formSet side s) := by
  unfold formSet
  split
  · exact .refl s
  · split
    · exact offerNew_keeps _ _ s
    · exact .refl s

theorem offerPending_keeps (s : State) (side : Side) : Keeps s (offerPending s side) := by
  unfold offerPending
  split
  · exact .refl s
  · exact offerSet_keeps _ _ s

theorem offerPendingSets_keeps (s : State) : Keeps s (offerPendingSets s) :=
  .foldl offerPending_keeps _ s

theorem ownHaloTaken_keeps (p : HaloParcel) (s : State) : Keeps s (ownHaloTaken p s) := by
  unfold ownHaloTaken
  split
  · exact .refl s
  · exact setDir_keeps (outboundEvent_safe _ _)

theorem ownHaloLost_keeps (p : HaloParcel) (s : State) : Keeps s (ownHaloLost p s) := by
  unfold ownHaloLost
  split
  · exact .refl s
  · exact setDir_keeps fun h => outboundEvent_safe _ _ (countLostSet_safe _ h)

theorem haloOutputNotice_keeps (k : FieldNo) (s : State) : Keeps s (haloOutputNotice k s) :=
  (withdrawBulk_keeps _ s).trans
    (bothDirections_keeps
      (fun _ h => releaseSlots_safe _ (dropStalePending_safe k (dropStaleOutbound_safe k h))) _)

theorem returnCredit_keeps (n : Station) (up down : Nat) (s : State) :
    Keeps s (returnCredit n up down s) := by
  unfold returnCredit
  split
  · exact .refl s
  · split
    · exact setDir_keeps raiseCredit_safe
    · exact .refl s

theorem resolveIfFull_keeps (side : Side) (i : Nat) (s : State) : Keeps s (resolveIfFull side i s) :=
  .same (by simp)

theorem placeHalo_keeps (side : Side) (i : Nat) (p : HaloParcel) (s : State) :
    Keeps s (placeHalo side i p s) := by
  refine Keeps.trans (setDir_keeps fun h => ?_) (resolveIfFull_keeps _ _ _)
  have prepared := prepareSlot_safe s side i p.frame h
  exact ⟨prepared.creditFits, prepared.releaseFits, by rw [List.length_modify, prepared.twoSlots]⟩

theorem receiveHalo_keeps (n : Station) (p : HaloParcel) (s : State) :
    Keeps s (receiveHalo n p s) := by
  unfold receiveHalo
  split
  · exact .refl s
  · split
    · split
      · exact .refl s
      · exact setDir_keeps noteRelease_safe
      · exact placeHalo_keeps _ _ p s
    · exact .refl s

theorem startHalo_keeps (frame : FieldNo) (agreed : Bool) (s : State) :
    Keeps s (startHalo frame agreed s) :=
  (bothDirections_keeps
    (f := fun d => markInUse frame (releaseSlots (fun _ f => newer frame f) d))
    (fun _ h => markInUse_safe _ (releaseSlots_safe _ h)) s).trans (.same rfl)

theorem endHalo_keeps (s : State) : Keeps s (endHalo s) :=
  (bothDirections_keeps (f := releaseSlots fun sl _ => sl.state == .inUse)
    (fun _ h => releaseSlots_safe _ h) s).trans (.same rfl)

theorem restDirections_keeps (s : State) : Keeps s (restDirections s) :=
  .ofHalo (by simp) fun _ => restDirections_safe s

/-! ## Coefficient banks (R177 to R183) -/

theorem bankOf_setBank (s : State) (n b : BankName) (v : Bank) :
    bankOf (s.setBank n v) b = if b = n then v else bankOf s b := by
  cases n <;> cases b <;> rfl

/-- A bank that keeps its sizes, and is READY only when whole, may replace any bank. -/
theorem setBank_keeps {s : State} {n : BankName} {v : Bank}
    (sizes : CoefficientSafe s → v.vertical.length = 512 ∧ v.horizontal.length = 512)
    (ready : v.state = .ready → v.pages = BitVec.allOnes 16) : Keeps s (s.setBank n v) := by
  refine .ofCoefficients (by simp) fun h => ⟨by simpa using h.stagingSize, fun b => ?_, by
    simpa using h.commitSize, fun b => ?_⟩
  · rw [bankOf_setBank]
    split
    · exact sizes h
    · exact h.tableSizes b
  · rw [bankOf_setBank]
    split
    · exact ready
    · exact h.readyWhole b

theorem writePage_length {g : Nat} {page table : List Coeff} (hg : g ≤ 7) (hp : page.length = 64)
    (ht : table.length = 512) : (writePage g page table).length = 512 := by
  simp only [writePage, List.length_append, List.length_take, List.length_drop]
  omega

theorem commitInto_tables {c : Commit} {b : Bank} (hg : c.page ≤ 7) (hp : c.coeffs.length = 64)
    (ht : b.vertical.length = 512 ∧ b.horizontal.length = 512) :
    (commitInto c b).vertical.length = 512 ∧ (commitInto c b).horizontal.length = 512 := by
  obtain ⟨hv, hh⟩ := ht
  constructor
  · simp only [commitInto]
    split
    · exact writePage_length hg hp hv
    · exact hv
  · simp only [commitInto]
    split
    · exact writePage_length hg hp hh
    · exact hh

theorem commitInto_ready {c : Commit} {b : Bank} (h : (commitInto c b).state = .ready) :
    (commitInto c b).pages = BitVec.allOnes 16 := by
  by_contra part
  simp only [commitInto] at h part
  rw [if_neg part] at h
  cases h

theorem commitStep_keeps (s : State) : Keeps s (commitStep s) := by
  unfold commitStep
  split
  case h_1 => exact .refl s
  case h_2 c hc =>
    have written : Keeps s (s.setBank c.bank (commitInto c (bankOf s c.bank))) :=
      setBank_keeps
        (fun h => commitInto_tables (h.commitSize c hc).1 (h.commitSize c hc).2
          (h.tableSizes c.bank)) commitInto_ready
    refine (written.trans (.ofCoefficients (by simp) fun h => ?_)).trans (raise_keeps _ _)
    exact ⟨h.stagingSize, h.tableSizes, fun c hc => (nomatch hc), h.readyWhole⟩

theorem beginCommit_keeps {b : BankName} {t : TableName} {page : Nat} (hp : page ≤ 7) (s : State) :
    Keeps s (beginCommit b t page s) := by
  have writing : Keeps s (s.setBank b { bankOf s b with state := .writing }) :=
    setBank_keeps (fun h => h.tableSizes b) (fun h => (nomatch h))
  refine writing.trans (.ofCoefficients (by simp) fun h => ⟨h.stagingSize, h.tableSizes, ?_, h.readyWhole⟩)
  intro c hc
  obtain rfl := Option.some.inj hc
  exact ⟨hp, by simpa using h.stagingSize⟩

theorem clearBank_keeps (b : BankName) (s : State) : Keeps s (s.setBank b Bank.cleared) :=
  setBank_keeps (fun _ => cleared_tables) (fun h => (nomatch h))

theorem setStaging_keeps (i : Nat) (v : Coeff) (s : State) :
    Keeps s (s.setSc { s.sc with staging := s.sc.staging.set i v }) :=
  .ofCoefficients (by simp) fun h =>
    ⟨by simpa using h.stagingSize, h.tableSizes, h.commitSize, h.readyWhole⟩

theorem startScaling_keeps (n : FieldNo) (agreed : Bool) (s : State) :
    Keeps s (startScaling n agreed s) := .same (by simp)

theorem dropScaling_keeps (s : State) : Keeps s (dropScaling s) := .same (by simp)

theorem dropOutgoing_keeps (s : State) : Keeps s (dropOutgoing s) := .same (by simp)

/-! ## The Line Builder -/

theorem dropOldest_length_le {α : Type} (n : Nat) (xs : List α) : (dropOldest n xs).length ≤ n := by
  rw [dropOldest, List.length_drop]
  omega

theorem overtakenNotice_keeps (n : FieldNo) (s : State) : Keeps s (overtakenNotice n s) :=
  .same (by simp [overtakenNotice, markOvertaken])

theorem builderBegin_keeps (g : FieldNo) (s : State) : Keeps s (builderBegin g s) := by
  unfold builderBegin
  split
  · have begun : Keeps s (s.setLb { s.lb with newestBegun := some g }) := .same (by simp)
    unfold selfOvertaken
    split
    · exact begun.trans (overtakenNotice_keeps _ _)
    · exact begun
  · exact .refl s

theorem builderEnd_keeps (f : FieldNo) (slot : Option Nat) (s : State) :
    Keeps s (builderEnd f slot s) := by
  unfold builderEnd
  split
  · have ended : Keeps s (s.setLb { s.lb with lastEnded := some f }) := .same (by simp)
    dsimp only
    split
    · refine ended.trans (.ofStore (by simp) fun h => ?_)
      exact ⟨h.fiveSlots, h.analysesFit, dropOldest_length_le 3 _, h.decisionsFit⟩
    · exact ended
  · exact .refl s

theorem placeDecision_keeps (d : DecisionRecord) (s : State) : Keeps s (placeDecision d s) := by
  unfold placeDecision
  split
  · exact .ofStore (by simp) fun h =>
      ⟨h.fiveSlots, h.analysesFit, h.framesFit, dropOldest_length_le 8 _⟩
  · exact .refl s

theorem builderOutputNotice_keeps (k : FieldNo) (s : State) : Keeps s (builderOutputNotice k s) :=
  .ofStore (by simp) fun h =>
    ⟨h.fiveSlots, h.analysesFit, (List.length_filter_le _ _).trans h.framesFit,
      (List.length_filter_le _ _).trans h.decisionsFit⟩

theorem pruneHeads_length_le (s : State) (frames : List FrameEntry) :
    (pruneHeads s frames).length ≤ frames.length := by
  induction frames with
  | nil => exact Nat.le_refl 0
  | cons e rest ih =>
    rw [pruneHeads]
    split
    · exact Nat.le_refl _
    · exact ih.trans (Nat.le_succ _)

theorem grantBuffer_keeps (n : FieldNo) (s : State) : Keeps s (grantBuffer n s) := .same (by simp)

theorem countUnagreed_keeps (s : State) : Keeps s (countUnagreed s) := .same (by simp)

theorem startBuild_keeps (n : FieldNo) (agreed : Bool) {rest : List FrameEntry} {s : State}
    (shorter : rest.length ≤ s.lb.frames.length) : Keeps s (startBuild n agreed rest s) := by
  have recorded : Keeps s (s.setLb (builderStarted s n agreed rest)) :=
    .ofStore (by simp) fun h =>
      ⟨h.fiveSlots, h.analysesFit, shorter.trans h.framesFit,
        (List.length_filter_le _ _).trans h.decisionsFit⟩
  have told : Keeps s
      (startHalo n agreed (startScaling n agreed (grantBuffer n
        (holdFields .build (s.setLb (builderStarted s n agreed rest)) [n - 2, n - 1, n, n + 1])))) :=
    (((recorded.trans (holdFields_keeps _ _ _)).trans (grantBuffer_keeps _ _)).trans
      (startScaling_keeps _ _ _)).trans (startHalo_keeps _ _ _)
  unfold startBuild
  dsimp only
  split
  · exact told
  · exact told.trans (countUnagreed_keeps _)

theorem testHead_keeps (s : State) : Keeps s (testHead s) := by
  have pruned : Keeps s (s.setLb { s.lb with frames := pruneHeads s s.lb.frames }) :=
    .ofStore (by simp) fun h =>
      ⟨h.fiveSlots, h.analysesFit, (pruneHeads_length_le s _).trans h.framesFit, h.decisionsFit⟩
  unfold testHead
  dsimp only
  split
  · exact pruned
  · next e rest hf =>
    split
    · exact pruned
    · refine pruned.trans (startBuild_keeps _ _ ?_)
      rw [hf]
      exact Nat.le_succ _

theorem writeBack_keeps (slot : Nat) (b : BuildRecord) (l : Nat) (y cb cr : List (Nat × FillStep))
    (s : State) : Keeps s (writeBack slot b l y cb cr s) :=
  .same (by simp [writeBack])

theorem repairAt_keeps (s : State) (y : Nat) : Keeps s (repairAt s y) := by
  unfold repairAt
  split
  · exact .refl s
  · split
    · exact .refl s
    · split
      · exact .refl s
      · split
        · exact .refl s
        · split
          · exact writeBack_keeps _ _ _ _ _ _ s
          · exact .refl s

theorem handToScaler_keeps (s : State) : Keeps s (handToScaler s) := .same (by simp)

theorem lineNotices_keeps (built : Nat) (s : State) : Keeps s (lineNotices built s) := by
  have told : Keeps s
      (if built = 4 then formSet .upper s else if built = 7 then formSet .lower s else s) := by
    split
    · exact formSet_keeps _ s
    · split
      · exact formSet_keeps _ s
      · exact .refl s
  unfold lineNotices
  dsimp only
  split
  · exact told.trans (handToScaler_keeps _)
  · exact told

theorem buildLineStep_keeps (s : State) : Keeps s (buildLineStep s) := by
  unfold buildLineStep
  split
  · exact .refl s
  · split
    · have repaired (ys : List Nat) : Keeps s (ys.foldl repairAt s) := .foldl repairAt_keeps ys s
      have counted (y : Nat) (line : CoreLine) (u : State) : Keeps u (countLine (putLine y line u)) :=
        .same (by simp)
      unfold buildNextLine
      dsimp only
      split
      · exact repaired _
      · exact ((repaired _).trans (counted _ _ _)).trans (lineNotices_keeps _ _)
    · exact .refl s

theorem releaseBuild_keeps (s : State) : Keeps s (releaseBuild s) :=
  Keeps.trans (t := s.setLb { s.lb with build := none }) (.same (by simp)) (dropHolder_keeps _ _)

theorem finishBuild_keeps (n : FieldNo) (s : State) : Keeps s (finishBuild n s) :=
  (((releaseBuild_keeps s).trans (t := releaseBuild s) (.same (by simp))).trans
    (endHalo_keeps (completeBuffer n (releaseBuild s)))).trans (dropScaling_keeps _)

theorem abandonBuild_keeps (n : FieldNo) (s : State) : Keeps s (abandonBuild n s) :=
  (((Keeps.same (t := freeBuilding n s) (by simp)).trans (releaseBuild_keeps _)).trans
    (dropScaling_keeps _)).trans (endHalo_keeps _)

theorem stopBuilder_keeps (s : State) : Keeps s (stopBuilder s) := by
  have emptied (u : State) : Keeps u (u.setLb { u.lb with frames := [], decisions := [] }) :=
    .ofStore (by simp) fun h => ⟨h.fiveSlots, h.analysesFit, Nat.zero_le _, Nat.zero_le _⟩
  unfold stopBuilder
  dsimp only
  split
  · exact emptied s
  · exact (abandonBuild_keeps _ s).trans (emptied _)

theorem writeRow_keeps (r : ScalingRecord) (row : Nat) (s : State) : Keeps s (writeRow r row s) := by
  have written (stored : StoredRow) : Keeps s (countClamped stored (storeRow r.frame stored s)) :=
    .same (by simp)
  have advanced (u : State) (next : ScalingRecord) :
      Keeps u (followScaler (u.setSc { u.sc with scaling := some next })) := .same (by simp)
  unfold writeRow
  dsimp only
  split
  · exact ((written _).trans (advanced _ _)).trans (finishBuild_keeps _ _)
  · exact (written _).trans (advanced _ _)

theorem rowWriteStep_keeps (s : State) : Keeps s (rowWriteStep s) := by
  unfold rowWriteStep
  split
  · exact .refl s
  · split
    · exact .refl s
    · split
      · exact .refl s
      · exact writeRow_keeps _ _ s

theorem haloExpiry_keeps (s : State) : Keeps s (haloExpiry s) := by
  unfold haloExpiry
  split
  · exact .refl s
  · split
    · next b _ _ => exact (onBothSides_keeps (expireSide_keeps b.frame) s).trans (.same rfl)
    · exact .refl s

/-! ## The Output Port -/

theorem abandonOvertaken_keeps (k : FieldNo) (s : State) : Keeps s (abandonOvertaken k s) := by
  unfold abandonOvertaken
  split
  · exact .refl s
  · split
    · next j _ _ => exact (abandonBuild_keeps j s).trans (.same (by simp))
    · split
      · exact abandonBuild_keeps _ s
      · exact .refl s

theorem beginEmission_keeps (k : FieldNo) (a : Answer) (s : State) : Keeps s (beginEmission k a s) :=
  .same (by simp)

theorem outputStartStep_keeps (k : FieldNo) (s : State) : Keeps s (outputStartStep k s) := by
  have settledState : Keeps s (settleBuffers k (abandonOvertaken k (endEmission s))) :=
    ((Keeps.same (t := endEmission s) (by simp)).trans (abandonOvertaken_keeps k _)).trans
      (.same (by simp))
  unfold outputStartStep
  split
  · split
    · exact ((settledState.trans (builderOutputNotice_keeps k _)).trans
        (haloOutputNotice_keeps k _)).trans (beginEmission_keeps _ _ _)
    · exact beginEmission_keeps _ _ s
  · exact setOp_keeps s _

theorem stopOutput_keeps (s : State) : Keeps s (stopOutput s) := .same (by simp)

theorem emitRow_keeps (s : State) : Keeps s (emitRow s) := .same (by simp)

end Sys2Proof.Machine
end

section
/-! SUPPORT. What every step keeps, part 3: the moves between membership states, the takes, Line Intake,
the timers and the Control Port. -/

namespace Sys2Proof.Machine

/-! ## Changes of the Consensus Unit -/

/-- R63, R94, R95: no vote timer runs, no expiry is held and no CLOSE is owed. -/
def NoTimers (c : Consensus) : Prop := c.timers = [] ∧ c.heldExpiries = [] ∧ c.owedCloses = []

theorem noTimers_of_safe {s : State} (h : TimersSafe s) (hm : s.cu.membership ≠ .member) :
    NoTimers s.cu := h.membersOnly hm

/-- The station stays in its membership state, and its timers stay safe. -/
theorem Keeps.retimed {s u : State} (hu : Keeps s u) {v : Consensus}
    (hm : v.membership = u.cu.membership)
    (timers : TimersSafe s → u.cu.membership ≠ .member → NoTimers v) : Keeps s (u.setCu v) where
  line h := lineSafe_shrink (s := u) hm rfl id (Nat.le_refl _) (Nat.le_refl _) (Nat.le_refl _)
    (hu.line h)
  lock h started := hu.lock h (hm ▸ started)
  timers h := ⟨fun other => timers h (hm ▸ other)⟩
  send h := sendSafe_of_eq (s := u) rfl (hu.send h)
  halo h := haloSafe_of_eq (s := u) rfl (hu.halo h)
  store h := storeSafe_of_eq (s := u) rfl (hu.store h)
  coefficients h := coefficientSafe_of_eq (s := u) rfl (hu.coefficients h)

/-- A started station moves to a state in which it runs. -/
theorem Keeps.moved {s u : State} (hu : Keeps s u) {v : Consensus}
    (started : u.cu.membership ≠ .offline) (runs : v.membership.running = true)
    (timers : TimersSafe s → v.membership ≠ .member → NoTimers v) : Keeps s (u.setCu v) where
  line h :=
    have k := hu.line h
    ⟨fun _ => runs, k.sendsAttached, k.urgentFits, k.bulkFits, k.discardsFit⟩
  lock h _ := hu.lock h started
  timers h := ⟨timers h⟩
  send h := sendSafe_of_eq (s := u) rfl (hu.send h)
  halo h := haloSafe_of_eq (s := u) rfl (hu.halo h)
  store h := storeSafe_of_eq (s := u) rfl (hu.store h)
  coefficients h := coefficientSafe_of_eq (s := u) rfl (hu.coefficients h)

theorem cancelTimers_keeps (s : State) : Keeps s (cancelTimers s) :=
  (Keeps.refl s).retimed rfl fun _ _ => ⟨rfl, rfl, rfl⟩

theorem quitMember_keeps (s : State) : Keeps s (quitMember s) := by
  unfold quitMember
  split
  · exact (cancelTimers_keeps s).trans (resetDirections_keeps _)
  · exact .refl s

/-- R63: a station that has quit MEMBER has no timers. -/
theorem quitMember_noTimers {s : State} (h : TimersSafe s) : NoTimers (quitMember s).cu := by
  unfold quitMember
  split
  · rw [(resetDirections_frame _).2.2.2.1]
    exact ⟨rfl, rfl, rfl⟩
  · next other => exact noTimers_of_safe h other

theorem enterListening_keeps {s : State} (h : s.cu.membership = .isolated) :
    Keeps s (enterListening s) :=
  (Keeps.refl s).moved (by simp [h]) rfl fun k _ => noTimers_of_safe k (by simp [h])

theorem enterJoining_keeps {s : State} (started : s.cu.membership ≠ .offline) :
    Keeps s (enterJoining s) :=
  (quitMember_keeps s).moved (by simpa using started) rfl fun k _ => quitMember_noTimers k

/-! ## Requests -/

/-- R95: in MEMBER a CLOSE may become owed. -/
theorem askClose_keeps {s u : State} (hu : Keeps s u)
    (member : TimersSafe s → u.cu.membership = .member) (n : FieldNo) : Keeps s (askClose n u) := by
  unfold askClose
  split
  · exact hu
  · split
    case h_1 ha => exact hu.trans (pushUrgent_keeps (urgentAnswer_accepted ha).1)
    case h_2 =>
      unfold oweClose
      split
      · exact hu
      · exact hu.retimed rfl fun k other => absurd (member k) other
    case h_3 => exact hu

theorem askLeave_keeps (s : State) : Keeps s (askLeave s) := by
  unfold askLeave
  split
  case h_1 ha =>
    have unowed : Keeps s (s.setCu { s.cu with leaveOwed := false }) := .same (by simp)
    exact unowed.trans (pushUrgent_keeps (urgentAnswer_accepted ha).1)
  case h_2 => exact .refl s

theorem askOwed_keeps (s : State) (n : FieldNo) : Keeps s (askOwed s n) := by
  have dropped : Keeps s
      (s.setCu { s.cu with owedCloses := s.cu.owedCloses.filter fun m => m != n }) := by
    refine Keeps.retimed (.refl s)
      (v := { s.cu with owedCloses := s.cu.owedCloses.filter fun m => m != n }) rfl
      fun k other => ?_
    obtain ⟨ht, hh, ho⟩ := noTimers_of_safe k other
    exact ⟨ht, hh, by simp [ho]⟩
  unfold askOwed
  dsimp only
  split
  · next member => exact askClose_keeps dropped (fun _ => member) n
  · exact .refl s

theorem takeCounts_keeps (s : State) : Keeps s (takeCounts s) :=
  bothDirections_keeps (f := fun d => { d with release := 0 })
    (fun _ h => ⟨h.creditFits, Nat.zero_le 3, h.twoSlots⟩) s

theorem askReport_keeps (n : FieldNo) (figures : Option Figures) (s : State) :
    Keeps s (askReport n figures s) := by
  unfold askReport
  dsimp only
  split
  case h_1 ha =>
    exact (takeCounts_keeps s).trans (pushUrgent_keeps (by simpa using (urgentAnswer_accepted ha).1))
  case h_2 => exact .refl s

/-! ## Entry to STOPPED, ISOLATED and LEAVING -/

theorem returnCounts_setCu (q : Queued) (s : State) (c : Consensus) :
    returnCounts q (s.setCu c) = (returnCounts q s).setCu c := by
  cases q <;> rfl

theorem cutShort_setCu (s : State) (c : Consensus) :
    cutShort (s.setCu c) = (cutShort s).setCu c := by
  unfold cutShort
  rw [State.setCu_pli]
  cases s.pli.tx with
  | none => rfl
  | some t =>
    cases hm : t.mark with
    | none => simp only [hm]; rfl
    | some cause =>
      cases cause with
      | flushed => simp only [hm]; rfl
      | withdrawn =>
        simp only [hm, removeMarked, State.setCu_pli]
        split
        · rfl
        · split
          · rfl
          · exact returnCounts_setCu _ (s.setPli (dropSent t s.pli)) c

theorem stopLine_setCu (s : State) (c : Consensus) :
    stopLine (s.setCu c) = (stopLine s).setCu c := by
  simp only [stopLine, detach, cutShort_setCu]
  rfl

theorem stopLine_keeps (s : State) : Keeps s (stopLine s) := by
  refine (detach_keeps s).trans (.ofLine rfl (lineSafe_shrink rfl rfl id (Nat.le_refl _)
    (Nat.le_refl _) (Nat.zero_le _)) (sendSafe_of_eq rfl))

theorem stopLine_stopConsensus_keeps {s : State} (started : s.cu.membership ≠ .offline) :
    Keeps s (stopLine (stopConsensus s)) := by
  have stopped : stopLine (stopConsensus s) = (stopLine s).setCu (stopConsensus s).cu :=
    stopLine_setCu s _
  have hu := stopLine_keeps s
  rw [stopped]
  exact {
    line := fun h =>
      have k := hu.line h
      ⟨fun x => (nomatch x), fun x => absurd x (by simp [stopLine]), k.urgentFits, k.bulkFits,
        k.discardsFit⟩
    lock := fun h _ => by simpa using h started
    timers := fun _ => ⟨fun _ => ⟨rfl, rfl, rfl⟩⟩
    send := fun h => sendSafe_of_eq (s := stopLine s) rfl (hu.send h)
    halo := fun h => haloSafe_of_eq (s := stopLine s) rfl (hu.halo h)
    store := fun h => storeSafe_of_eq (s := stopLine s) rfl (hu.store h)
    coefficients := fun h => coefficientSafe_of_eq (s := stopLine s) rfl (hu.coefficients h) }

theorem enterStopped_keeps {s : State} (started : s.cu.membership ≠ .offline) :
    Keeps s (enterStopped s) :=
  ((((((quitMember_keeps s).trans (stopLine_stopConsensus_keeps (by simpa using started))).trans
    (dropOpenField_keeps _)).trans (stopBuilder_keeps _)).trans (stopOutput_keeps _)).trans
    (dropOutgoing_keeps _)).trans (restDirections_keeps _)

theorem flushStopped_keeps {s : State} (started : s.cu.membership ≠ .offline) :
    Keeps s (flushStopped s) :=
  (flush_keeps s).trans (enterStopped_keeps (by simpa using started))

/-- R82: ISOLATED, before a station that was LEAVING goes on to STOPPED. -/
def isolated (s : State) : State :=
  let quit := cancelTimers (flush (quitMember (s.raise .isolated)))
  quit.setCu { quit.cu with membership := .isolated, isolationWait := 0, leaveOwed := false }

/-- R82: what a detach or isolation report does, by membership state. -/
theorem isolate_eq (s : State) :
    isolate s =
      if s.cu.membership = .leaving then flushStopped (isolated s)
      else if s.cu.membership = .listening ∨ s.cu.membership = .joining ∨ s.cu.membership = .member
      then isolated s else s := by
  unfold isolate
  split <;> simp_all [isolated]

theorem isolated_keeps {s : State} (started : s.cu.membership ≠ .offline) : Keeps s (isolated s) :=
  ((((raise_keeps s _).trans (quitMember_keeps _)).trans (flush_keeps _)).trans
    (cancelTimers_keeps _)).moved (by simpa using started) rfl fun _ _ => ⟨rfl, rfl, rfl⟩

theorem isolate_keeps (s : State) : Keeps s (isolate s) := by
  rw [isolate_eq]
  split
  case isTrue leaving =>
    exact (isolated_keeps (by simp [leaving])).trans (flushStopped_keeps (by simp [isolated]))
  case isFalse =>
    split
    case isTrue inside =>
      refine isolated_keeps ?_
      rintro off
      simp [off] at inside
    case isFalse => exact .refl s

theorem enterLeaving_keeps {s : State} (started : s.cu.membership ≠ .offline) :
    Keeps s (enterLeaving s) :=
  ((quitMember_keeps s).moved
    (v := { (quitMember s).cu with membership := .leaving, leaveOwed := true })
    (by simpa using started) rfl fun k _ => quitMember_noTimers k).trans (askLeave_keeps _)

theorem stopStation_keeps (s : State) : Keeps s (stopStation s) := by
  unfold stopStation
  split
  case h_1 h => exact enterLeaving_keeps (by simp [h])
  case h_2 h => exact flushStopped_keeps (by simp [h])
  case h_3 h => exact flushStopped_keeps (by simp [h])
  case h_4 h => exact flushStopped_keeps (by simp [h])
  case h_5 => exact .refl s

theorem detachReported_keeps (s : State) : Keeps s (detachReported s) :=
  (detach_keeps s).trans (isolate_keeps _)

/-! ## The local side of a take -/

theorem withdrawSnapshots_keeps (gone : List Station) (s : State) :
    Keeps s (withdrawSnapshots gone s) := .foldl (fun t _ => withdrawUrgent_keeps _ t) gone s

theorem roundClosedHere_keeps (n : FieldNo) (s : State) : Keeps s (roundClosedHere n s) := by
  unfold roundClosedHere
  refine Keeps.trans (t := s.setCu _) (Keeps.retimed (.refl s) ?_ fun k other => ?_)
    (withdrawUrgent_keeps _ _)
  · rfl
  obtain ⟨ht, hh, ho⟩ := noTimers_of_safe k other
  exact ⟨by simp [ht], by simp [hh], by simp [ho]⟩

theorem doAct_keeps (s : State) (a : Act) : Keeps s (doAct s a) := by
  cases a
  case counted k => exact .same (by cases k <;> simp [doAct, countClosure])
  case edited => exact .same (by simp [doAct])
  case removed gone => exact withdrawSnapshots_keeps gone s
  case switched o => exact .same (by simp [doAct])
  case decided d => exact placeDecision_keeps d s
  case roundClosed n => exact roundClosedHere_keeps n s

theorem rosterChanged_keeps (touched : List Station) (s : State) :
    Keeps s (rosterChanged touched s) := by
  unfold rosterChanged
  split
  · exact .refl s
  · refine (raise_keeps s _).trans (onBothSides_keeps (fun t side => ?_) _)
    split
    · exact resetDirection_keeps t side
    · exact .refl t

theorem applyRun_keeps (run : TakeRun) (s : State) : Keeps s (applyRun run s) :=
  ((setAgreed_keeps s _).trans (.foldl doAct_keeps _ _)).trans (rosterChanged_keeps _ _)

theorem checkOwnEntry_keeps (touched : List Station) (s : State) :
    Keeps s (checkOwnEntry touched s) := by
  unfold checkOwnEntry
  split
  · exact isolate_keeps s
  · exact .refl s

theorem applyTake_keeps (sender : Station) (content : Content) (s : State) :
    Keeps s (applyTake sender content s) := applyRun_keeps _ s

theorem applyTakeOwn_keeps (sender : Station) (content : Content) (s : State) :
    Keeps s (applyTakeOwn sender content s) :=
  (applyTake_keeps sender content s).trans (checkOwnEntry_keeps _ _)

theorem recordHeard_keeps (own : Bool) (sender : Station) (barring : Bool) (s : State) :
    Keeps s (recordHeard own sender barring s) := by
  unfold recordHeard
  split
  · exact .refl s
  · split
    · exact .same (by simp)
    · exact .same (by simp)
    · exact .refl s

theorem sendSnapshot_keeps (n : Station) (s : State) : Keeps s (sendSnapshot n s) := by
  unfold sendSnapshot
  split
  · exact (withdrawUrgent_keeps _ s).trans (requestUrgent_keeps _ _)
  · exact .refl s

/-! ## Takes -/

theorem takeParcel_keeps {effect : Bool → State → State} (h : ∀ own s, Keeps s (effect own s))
    (p : Parcel) (s : State) : Keeps s (takeParcel p effect s) := by
  unfold takeParcel
  split
  · split
    · split
      · exact (drive_keeps s _).trans (voidSend_keeps _)
      · exact drive_keeps s _
    · dsimp only
      split
      · exact ((drive_keeps s _).trans (completeSend_keeps _)).trans (h _ _)
      · exact (drive_keeps s _).trans (h _ _)
  · exact drive_keeps s _

theorem memberTake_keeps (p : Parcel) (s : State) : Keeps s (memberTake p s) := by
  refine takeParcel_keeps (fun own t => ?_) p s
  split
  · exact applyTakeOwn_keeps _ _ t
  · exact recordHeard_keeps _ _ _ t

theorem not_offline_of_applies {s : State} (h : s.cu.membership.applies = true) :
    s.cu.membership ≠ .offline := by
  intro off
  simp [off, Membership.applies] at h

theorem applyRun_membership (run : TakeRun) (s : State) :
    (applyRun run s).cu.membership = s.cu.membership := by
  have acts (u : State) : (run.acts.foldl doAct u).cu.membership = u.cu.membership :=
    keeps_foldl (fun t : State => t.cu.membership) doAct (fun t a => by simp) _ _
  have reset (touched : List Station) (u : State) :
      (resetTouched touched u).cu.membership = u.cu.membership := by
    refine keeps_onBothSides (fun t : State => t.cu.membership) _ (fun t side => ?_) (fun _ => rfl) u
    split
    · simp
    · rfl
  unfold applyRun rosterChanged
  split
  · simp [acts]
  · simp [acts, reset]

theorem leaveTaken_keeps (p : Parcel) (own : Bool) (s : State) : Keeps s (leaveTaken p own s) := by
  unfold leaveTaken
  split
  case isTrue applies =>
    split
    · refine (applyTake_keeps _ _ s).trans (flushStopped_keeps ?_)
      rw [applyTake, applyRun_membership]
      exact not_offline_of_applies applies
    · exact applyTakeOwn_keeps _ _ s
  case isFalse => exact recordHeard_keeps _ _ _ s

theorem decideAdoption_keeps {s : State} (joining : s.cu.membership = .joining) :
    Keeps s (decideAdoption s) := by
  unfold decideAdoption
  split
  · have member : Keeps s (s.setMembership .member) :=
      (Keeps.refl s).moved (by simp [joining]) rfl fun _ other => absurd rfl other
    exact member.trans (raise_keeps _ _)
  · exact ((raise_keeps s _).trans (raise_keeps _ _)).trans
      (enterLeaving_keeps (by simp [joining]))

theorem adopt_keeps {s : State} (joining : s.cu.membership = .joining) (sender joiner : Station)
    (carried : AgreedState) : Keeps s (adopt sender joiner carried s) :=
  (((setAgreed_keeps s _).trans (withdrawUrgent_keeps _ _)).trans
    (decideAdoption_keeps (by simpa using joining))).trans (resetDirections_keeps _)

theorem joining_of_adopts {joiner : Station} {carried : AgreedState} {s : State}
    (h : adopts joiner carried s = true) : s.cu.membership = .joining := by
  simp only [adopts, Bool.and_eq_true, beq_iff_eq] at h
  exact h.1.1

theorem snapshotTaken_keeps (p : Parcel) (joiner : Station) (carried : AgreedState) (own : Bool)
    (s : State) : Keeps s (snapshotTaken p joiner carried own s) := by
  unfold snapshotTaken
  split
  · exact applyTakeOwn_keeps _ _ s
  · have recorded := recordHeard_keeps own p.sender true s
    dsimp only
    split
    · next adopting => exact recorded.trans (adopt_keeps (joining_of_adopts adopting) _ _ _)
    · exact recorded

theorem found_keeps {s : State} (started : s.cu.membership ≠ .offline) : Keeps s (found s) := by
  have member : Keeps s
      ((s.setAgreed (foundingState s.cp.station s.sc.bankA.digest)).setMembership .member) :=
    (setAgreed_keeps s _).moved started rfl fun _ other => absurd rfl other
  exact (member.trans (raise_keeps _ _)).trans (resetDirections_keeps _)

theorem ownJoinTaken_keeps (founding : Bool) {s : State} (started : s.cu.membership ≠ .offline) :
    Keeps s (ownJoinTaken founding s) := by
  unfold ownJoinTaken
  split
  · split
    · exact found_keeps started
    · exact (raise_keeps s _).trans (flushStopped_keeps (by simpa using started))
  · exact enterJoining_keeps started

theorem joinReplacesOwn_keeps (sender : Station) (s : State) :
    Keeps s (joinReplacesOwn sender s) := by
  unfold joinReplacesOwn
  split
  · next own => exact enterJoining_keeps (by simp [own.2])
  · exact .refl s

theorem joinTaken_keeps (p : Parcel) (founding own : Bool) (s : State) :
    Keeps s (joinTaken p founding own s) := by
  have applied : Keeps s
      (sendSnapshot p.sender (joinReplacesOwn p.sender (applyTakeOwn p.sender p.content s))) :=
    ((applyTakeOwn_keeps _ _ s).trans (joinReplacesOwn_keeps _ _)).trans (sendSnapshot_keeps _ _)
  have waiting (started : s.cu.membership ≠ .offline) : Keeps s
      (if own then ownJoinTaken founding s else recordHeard own p.sender founding s) := by
    split
    · exact ownJoinTaken_keeps founding started
    · exact recordHeard_keeps _ _ _ s
  unfold joinTaken
  split
  case h_1 => exact applied
  case h_2 => exact applied
  case h_3 h => exact waiting (by simp [h])
  case h_4 h => exact waiting (by simp [h])
  case h_5 => exact .refl s

theorem reportTaken_keeps (p : Parcel) (up down : Nat) (own : Bool) (s : State) :
    Keeps s (reportTaken p up down own s) := by
  unfold reportTaken
  split
  · exact (returnCredit_keeps _ _ _ s).trans (applyTakeOwn_keeps _ _ _)
  · exact recordHeard_keeps _ _ _ s

theorem missedRemoval_keeps (s : State) : Keeps s (missedRemoval s) := by
  unfold missedRemoval
  split
  · exact (applyRun_keeps _ s).trans (checkOwnEntry_keeps _ _)
  · exact .refl s

theorem haloTaken_keeps (sender : Station) (h : HaloParcel) (own : Bool) (s : State) :
    Keeps s (haloTaken sender h own s) := by
  have recorded := recordHeard_keeps own sender true s
  have counted : Keeps s
      (if own then ownHaloTaken h (recordHeard own sender true s)
        else recordHeard own sender true s) := by
    split
    · exact recorded.trans (ownHaloTaken_keeps h _)
    · exact recorded
  exact .ite (fun _ => counted.trans (receiveHalo_keeps _ _ _)) (fun _ => counted)

/-! ## The hand-over and the field end -/

theorem beginHead_keeps (s : State) : Keeps s (beginHead s) := by
  unfold beginHead
  split
  · exact .refl s
  · next hp =>
    split
    · exact .refl s
    · exact .same (by simp [hp])

theorem markHanded_keeps (n : FieldNo) (s : State) : Keeps s (markHanded n s) := by
  refine (Keeps.refl s).retimed rfl fun k other => ?_
  obtain ⟨ht, hh, ho⟩ := noTimers_of_safe k other
  exact ⟨by simp [ht], hh, ho⟩

theorem releaseHeld_keeps {s : State} (member : s.cu.membership = .member) (n : FieldNo) :
    Keeps s (releaseHeld n s) := by
  unfold releaseHeld
  split
  · exact askClose_keeps
      (Keeps.retimed (.refl s)
        (v := { s.cu with heldExpiries := s.cu.heldExpiries.filter fun f => f != n }) rfl
        fun _ other => absurd member other) (fun _ => member) n
  · exact .refl s

theorem reportResult_keeps (n : FieldNo) (figures : Option Figures) (s : State) :
    Keeps s (reportResult n figures s) := by
  unfold reportResult
  split
  · next due =>
    exact (askReport_keeps n figures s).trans (releaseHeld_keeps (by simpa using due.1) n)
  · exact .refl s

theorem dropAnalysis_keeps (claim : Option Word16) (s : State) : Keeps s (dropAnalysis claim s) := by
  unfold dropAnalysis
  split
  · exact .refl s
  · exact dropHolder_keeps _ s

theorem handOver_keeps (n : FieldNo) (figures : Option Figures) (claim : Option Word16) (s : State) :
    Keeps s (handOver n figures claim s) := by
  have result (u : State) (r : Option AnalysisResult) :
      Keeps u (u.setFa { u.fa with lastResult := r }) := .same (by simp)
  exact (((reportResult_keeps n figures s).trans (markHanded_keeps n _)).trans
    (result _ _)).trans (dropAnalysis_keeps _ _)

theorem handOverHead_keeps (s : State) : Keeps s (handOverHead s) := by
  unfold handOverHead
  split
  · exact .refl s
  · next a rest hp =>
    have removed (f : Figures) : Keeps s (s.setFa { s.fa with pending := rest, accumulators := f }) :=
      .ofStore (by simp) fun h =>
        ⟨h.fiveSlots, (Nat.le_succ _).trans (hp ▸ h.analysesFit :), h.framesFit,
          h.decisionsFit⟩
    exact ((removed _).trans (handOver_keeps _ _ _ _)).trans (beginHead_keeps _)

theorem analyseField_keeps (f : FieldNo) (slot : Option Nat) (s : State) :
    Keeps s (analyseField f slot s) := by
  have held : Keeps s (holdAnalysis f (analysisClaim s slot) s) := by
    unfold holdAnalysis
    split
    · exact .refl s
    · exact holdFields_keeps _ s _
  unfold analyseField
  dsimp only
  split
  · exact held.trans (handOver_keeps _ _ _ _)
  · next room =>
    refine (held.trans (.ofStore (by simp) fun h => ?_)).trans (beginHead_keeps _)
    refine ⟨h.fiveSlots, ?_, h.framesFit, h.decisionsFit⟩
    have := not_le.mp room
    simp only [State.setFa_fa, List.length_append, List.length_singleton]
    exact this

theorem consensusEnd_keeps (f : FieldNo) (s : State) : Keeps s (consensusEnd f s) := by
  unfold consensusEnd
  split
  case h_1 => exact .same (by simp)
  case h_2 =>
    split
    · exact .refl s
    · exact .same (by simp)
  case h_3 => exact .same (by simp)
  case h_4 member =>
    unfold startTimer
    split
    · exact (Keeps.refl s).retimed rfl fun _ other => absurd member other
    · exact .refl s
  case h_5 => exact .refl s

theorem endField_keeps (m : OpenField) (declared : Option Nat) (s : State) :
    Keeps s (endField m declared s) := by
  have closed : Keeps s
      (match m.slot with
        | none => s
        | some i => closeSlot i declared s) := by
    split
    · exact .refl s
    · exact .same (by simp [closeSlot])
  exact (((closed.trans (setLi_keeps _ _)).trans (analyseField_keeps _ _ _)).trans
    (consensusEnd_keeps _ _)).trans (builderEnd_keeps _ _ _)

theorem openField_keeps (f : FieldNo) (p : Parity) (s : State) : Keeps s (openField f p s) := by
  unfold openField
  split
  · exact (counted_keeps s _ _).trans (setLi_keeps _ _)
  · exact (claimSlot_keeps s _ f p).trans (setLi_keeps _ _)

theorem consensusBegin_keeps (g : FieldNo) (s : State) : Keeps s (consensusBegin g s) := by
  unfold consensusBegin
  split
  · have counted : Keeps s (s.setCu { s.cu with overtakenCount := s.cu.overtakenCount + 1 }) :=
      .same (by simp)
    exact counted.trans (overtakenNotice_keeps _ _)
  · exact .refl s

theorem fieldBeginEffect_keeps (words : List Word16) (s : State) :
    Keeps s (fieldBeginEffect words s) := by
  have ended : Keeps s (implicitEnd s) := by
    unfold implicitEnd
    split
    · exact .refl s
    · exact endField_keeps _ _ s
  unfold fieldBeginEffect
  split
  · exact .refl s
  · split
    · exact ((ended.trans (openField_keeps _ _ _)).trans (builderBegin_keeps _ _)).trans
        (consensusBegin_keeps _ _)
    · exact .refl s

theorem fieldEndEffect_keeps (words : List Word16) (s : State) : Keeps s (fieldEndEffect words s) := by
  unfold fieldEndEffect
  split
  · exact .refl s
  · split
    · unfold fieldEndStep
      split
      · exact .refl s
      · split
        · exact endField_keeps _ _ s
        · exact .refl s
    · exact .refl s

theorem countStray_keeps (s : State) : Keeps s (countStray s) := setTotals_keeps s _

theorem lineRecordStep_keeps (r : LineRecord) (s : State) : Keeps s (lineRecordStep r s) := by
  have kept (i : Nat) : Keeps s (keepRecord i r s) := by
    unfold keepRecord
    split
    · exact .refl s
    · dsimp only
      split
      · exact updateOccupant_keeps s i _
      · exact (updateOccupant_keeps s i _).trans (setLi_keeps _ _)
  unfold lineRecordStep
  split
  · exact countStray_keeps s
  · split
    · exact countStray_keeps s
    · split
      · exact .refl s
      · split
        · exact kept _
        · exact .refl s

theorem lineRecordEffect_keeps (words : List Word16) (s : State) :
    Keeps s (lineRecordEffect words s) := by
  unfold lineRecordEffect
  split
  · exact .refl s
  · split
    · exact countStray_keeps s
    · exact lineRecordStep_keeps _ s

/-! ## Waits and timers -/

theorem listenEnd_keeps (s : State) : Keeps s (listenEnd s) := by
  unfold listenEnd
  split
  · exact requestUrgent_keeps _ s
  · exact .refl s

theorem snapshotEnd_keeps (s : State) : Keeps s (snapshotEnd s) := by
  unfold snapshotEnd
  split
  · dsimp only
    split
    case h_1 ha =>
      have barred : Keeps s (s.setCu { s.cu with foundingBar := false }) := .same (by simp)
      exact barred.trans (pushUrgent_keeps (urgentAnswer_accepted ha).1)
    case h_2 => exact .refl s
  · exact .refl s

theorem isolationEnd_keeps (s : State) : Keeps s (isolationEnd s) := by
  unfold isolationEnd
  split
  · next due => exact enterListening_keeps due.1
  · exact .refl s

theorem timerExpiry_keeps (n : FieldNo) (s : State) : Keeps s (timerExpiry n s) := by
  unfold timerExpiry
  split
  case h_1 => exact .refl s
  case h_2 t ht =>
    have member (k : TimersSafe s) : s.cu.membership = .member := by
      by_contra other
      simp [(noTimers_of_safe k other).1] at ht
    have stopped : Keeps s
        (s.setCu { s.cu with timers := s.cu.timers.filter fun x => x.field != n }) :=
      (Keeps.refl s).retimed rfl fun k other => absurd (member k) other
    dsimp only
    split
    · exact askClose_keeps stopped member n
    · exact stopped.retimed rfl fun k other => absurd (member k) other

theorem leaveRequeue_keeps (s : State) : Keeps s (leaveRequeue s) := by
  unfold leaveRequeue
  split
  · exact askLeave_keeps s
  · exact .refl s

/-! ## The line -/

theorem attachReported_keeps (s : State) : Keeps s (attachReported s) := by
  unfold attachReported
  split
  · next due => exact enterListening_keeps due.1
  · exact .refl s

theorem idlePointStep_keeps (others : Option (Fin 128)) (s : State) :
    Keeps s (idlePointStep others s) := by
  unfold idlePointStep
  split
  case isTrue runs =>
    refine Keeps.trans ?_ (contend_keeps others _)
    split
    · exact .refl s
    · exact (attach_keeps runs).trans (attachReported_keeps _)
  case isFalse => exact .refl s

theorem monitorExpiry_keeps (s : State) : Keeps s (monitorExpiry s) := by
  unfold monitorExpiry
  split
  · exact detachReported_keeps s
  · exact .refl s

theorem transmissionNotSeen_keeps (s : State) : Keeps s (transmissionNotSeen s) := by
  unfold transmissionNotSeen
  split
  · exact detachReported_keeps s
  · exact .refl s

theorem parcelVoidStep_keeps (r : Reading) (s : State) : Keeps s (parcelVoidStep r s) := by
  unfold parcelVoidStep
  split
  · exact (drive_keeps s _).trans (voidSend_keeps _)
  · exact drive_keeps s _

theorem joinDiscarded_keeps (s : State) : Keeps s (joinDiscarded s) := by
  unfold joinDiscarded
  split
  · next waiting =>
    refine (raise_keeps s _).trans (flushStopped_keeps ?_)
    intro off
    simp_all
  · exact .refl s

theorem urgentDiscardTold_keeps (q : Queued) (s : State) : Keeps s (urgentDiscardTold q s) := by
  unfold urgentDiscardTold
  split
  · exact joinDiscarded_keeps s
  · split
    · next leaving => exact enterStopped_keeps (by simp [leaving])
    · exact .refl s
  · exact raise_keeps s _
  · exact returnCounts_keeps s _
  · exact .refl s

theorem discardUrgent_keeps {q : Queued} {rest : List Queued} {s : State}
    (hu : s.pli.urgent = q :: rest) : Keeps s (discardUrgent q rest s) := by
  have removed : Keeps s
      (s.setPli
        { s.pli with
          urgent := rest, urgentAttempts := 0
          urgentDiscards := min 2 (s.pli.urgentDiscards + 1) }) := by
    refine .ofLine (by simp) (fun h => ?_) (sendSafe_of_eq rfl)
    have fits := h.urgentFits
    rw [hu, List.length_cons] at fits
    exact ⟨h.attachedRuns, h.sendsAttached, (Nat.le_succ _).trans fits, h.bulkFits,
      Nat.min_le_left _ _⟩
  exact (removed.trans (counted_keeps _ _ _)).trans (urgentDiscardTold_keeps q _)

theorem discardBulk_keeps {p : HaloParcel} {rest : List HaloParcel} {s : State}
    (hb : s.pli.bulk = p :: rest) : Keeps s (discardBulk p rest s) := by
  have removed : Keeps s (s.setPli { s.pli with bulk := rest, bulkAttempts := 0 }) := by
    refine .ofLine (by simp) (fun h => ?_) (sendSafe_of_eq rfl)
    have fits := h.bulkFits
    rw [hb, List.length_cons] at fits
    exact ⟨h.attachedRuns, h.sendsAttached, h.urgentFits, (Nat.le_succ _).trans fits,
      h.discardsFit⟩
  exact (removed.trans (counted_keeps _ _ _)).trans (ownHaloLost_keeps p _)

theorem parcelDiscardStep_keeps (s : State) : Keeps s (parcelDiscardStep s) := by
  unfold parcelDiscardStep
  split
  · split
    · exact .refl s
    · next hu => exact discardUrgent_keeps hu
  · split
    · split
      · exact .refl s
      · next hb => exact discardBulk_keeps hb
    · exact .refl s

theorem isolationNotice_keeps (s : State) : Keeps s (isolationNotice s) := by
  unfold isolationNotice
  split
  · exact isolate_keeps s
  · exact .refl s

/-! ## The Control Port -/

theorem transact_keeps {carry : State → Reply} (h : ∀ s, Keeps s (carry s).state) (kind : Byte)
    (item : Word16) (s : State) : Keeps s (transact kind item carry s) :=
  ((shiftOut_keeps s).trans (h _)).trans (.same (by simp [transact, storeResult]))

theorem writeConfig_keeps (item : Word16) (value : Word32) (s : State) :
    Keeps s (writeConfig item value s).state := by
  unfold writeConfig
  split
  · split
    · exact .refl s
    · split
      · exact .same (by simp [accept])
      · exact .refl s
  · exact .refl s

theorem writeStaging_keeps (item : Word16) (value : Word32) (s : State) :
    Keeps s (writeStaging item value s).state := by
  unfold writeStaging
  split
  · split
    · exact setStaging_keeps _ _ s
    · exact .refl s
  · exact .refl s

theorem writeEnables_keeps (value : Word32) (s : State) : Keeps s (writeEnables value s).state := by
  unfold writeEnables
  split
  · exact .same (by simp [accept])
  · exact .refl s

theorem startAction_keeps (s : State) : Keeps s (startAction s).state := by
  unfold startAction
  split
  case isTrue resting =>
    split
    · exact .refl s
    · split
      · refine .ofConsensus (by simp [accept, startStation, freeUnheld])
          (fun h => ⟨fun _ => rfl, ?_, ?_, ?_, ?_⟩) (fun _ _ => ?_) (fun h => ⟨fun _ => ?_⟩)
        · simpa [accept] using h.sendsAttached
        · simpa [accept] using h.urgentFits
        · simpa [accept] using h.bulkFits
        · simpa [accept] using h.discardsFit
        · rfl
        · exact noTimers_of_safe (s := s) h (by obtain r | r := resting <;> simp [r])
      · exact .refl s
  case isFalse => exact .refl s

theorem stopAction_keeps (s : State) : Keeps s (stopAction s).state := by
  have stopped : Keeps s (accept (stopStation s)).state := stopStation_keeps s
  unfold stopAction
  split
  · exact stopped
  · exact stopped
  · exact stopped
  · exact stopped
  · exact .refl s

theorem queueAction_keeps (q : Queued) (s : State) : Keeps s (queueAction q s).state := by
  unfold queueAction
  split
  · split
    case h_1 ha => exact pushUrgent_keeps (urgentAnswer_accepted ha).1
    case h_2 => exact .refl s
  · exact .refl s

theorem forceAction_keeps (value : Word32) (s : State) : Keeps s (forceAction value s).state := by
  unfold forceAction
  split
  · exact .refl s
  · split
    · exact .refl s
    · exact queueAction_keeps _ s

theorem loopAction_keeps (value : Word32) (s : State) : Keeps s (loopAction value s).state := by
  unfold loopAction
  split
  · exact .refl s
  · split
    · exact .refl s
    · exact queueAction_keeps _ s

theorem selectFrom_keeps (b : BankName) (last : FieldNo) (s : State) :
    Keeps s (selectFrom b last s).state := by
  unfold selectFrom
  split
  · exact .refl s
  · split
    · exact .refl s
    · exact .refl s
    · exact .refl s
    · exact queueAction_keeps _ s

theorem selectAction_keeps (value : Word32) (s : State) : Keeps s (selectAction value s).state := by
  unfold selectAction
  split
  · exact .refl s
  · split
    · split
      · exact .refl s
      · exact selectFrom_keeps _ _ s
    · exact .refl s

theorem argCommit_page {value : Word32} {b : BankName} {t : TableName} {page : Nat}
    (h : argCommit value = some (b, t, page)) : page ≤ 7 := by
  unfold argCommit at h
  split at h
  · simp only [Option.some.injEq, Prod.mk.injEq] at h
    omega
  · cases h

theorem commitAction_keeps (value : Word32) (s : State) : Keeps s (commitAction value s).state := by
  unfold commitAction
  split
  · exact .refl s
  · next hc =>
    split
    · exact .refl s
    · split
      · exact .refl s
      · exact beginCommit_keeps (argCommit_page hc) s

theorem clearAction_keeps (value : Word32) (s : State) : Keeps s (clearAction value s).state := by
  unfold clearAction
  split
  · exact .refl s
  · split
    · exact .refl s
    · split
      · exact .refl s
      · exact clearBank_keeps _ s

theorem eventClearAction_keeps (value : Word32) (s : State) :
    Keeps s (eventClearAction value s).state := by
  unfold eventClearAction
  split
  · exact .same (by simp [accept])
  · exact .refl s

theorem segmentAction_keeps (s : State) : Keeps s (segmentAction s).state := setTotals_keeps s _

theorem clearTotalsAction_keeps (s : State) : Keeps s (clearTotalsAction s).state :=
  setTotals_keeps s _

theorem actionRequestItem_keeps (item : Word16) (value : Word32) (s : State) :
    Keeps s (actionRequestItem item value s).state := by
  unfold actionRequestItem
  split
  · exact startAction_keeps s
  · exact stopAction_keeps s
  · exact forceAction_keeps value s
  · exact loopAction_keeps value s
  · exact selectAction_keeps value s
  · exact commitAction_keeps value s
  · exact clearAction_keeps value s
  · exact eventClearAction_keeps value s
  · exact segmentAction_keeps s
  · exact clearTotalsAction_keeps s
  · exact .refl s

theorem readRequestItem_keeps (item : Word16) (s : State) :
    Keeps s (readRequestItem item s).state := by
  unfold readRequestItem
  split
  · exact .refl s
  · dsimp only
    split
    · exact drawn_keeps s
    · exact .refl s

theorem writeRequestItem_keeps (item : Word16) (value : Word32) (s : State) :
    Keeps s (writeRequestItem item value s).state := by
  unfold writeRequestItem
  split
  · exact writeConfig_keeps item value s
  · split
    · exact writeStaging_keeps item value s
    · split
      · exact writeEnables_keeps value s
      · exact .refl s

theorem carryOut_keeps (bytes : Vector Byte 8) (r : Request) (s : State) :
    Keeps s (carryOut bytes r s).state := by
  unfold carryOut
  split
  · exact .refl s
  · split
    · exact readRequestItem_keeps _ s
    · split
      · exact writeRequestItem_keeps _ _ s
      · split
        · exact actionRequestItem_keeps _ _ s
        · exact .refl s

/-- A state that differs from the reset state in nothing the invariants read meets them all. -/
theorem keeps_reset {n : Station} (s : State) {t : State} (h : Keeps (State.afterReset n) t) :
    Keeps s t := by
  obtain ⟨line, lock, halo, store, coefficients, timers, send⟩ := resetMeetsTheInvariants n
  exact ⟨fun _ => h.line line, fun _ => h.lock lock, fun _ => h.timers timers,
    fun _ => h.send send, fun _ => h.halo halo, fun _ => h.store store,
    fun _ => h.coefficients coefficients⟩

theorem resetStation_keeps (straps : Station) (s : State) : Keeps s (resetStation straps s) :=
  keeps_reset s (.same rfl)

theorem resetTaken_keeps (straps : Station) (s : State) : Keeps s (resetTaken straps s) :=
  keeps_reset (n := straps) s (.same rfl)

theorem takeTransaction_keeps (bytes : Vector Byte 8) (s : State) :
    Keeps s (takeTransaction bytes s) := by
  unfold takeTransaction
  dsimp only
  split
  · exact shiftOut_keeps s
  · split
    · exact resetTaken_keeps _ s
    · exact transact_keeps (carryOut_keeps _ _) _ _ s

theorem holdReset_keeps (s : State) : Keeps s (holdReset s) :=
  .ofLine (by simp)
    (fun h => ⟨fun x => (nomatch x), fun x => (nomatch x), h.urgentFits, h.bulkFits, h.discardsFit⟩)
    fun _ => ⟨sent_of_none rfl⟩

/-! ## The commands -/

/-- Every command's effect keeps every invariant. -/
theorem effectOf_keeps (i : Instr) (s : State) : Keeps s (effectOf i s) := by
  cases i
  case powerOnReset straps => exact resetStation_keeps straps s
  case fieldBegin words => exact fieldBeginEffect_keeps words s
  case lineRecord words => exact lineRecordEffect_keeps words s
  case fieldEnd words => exact fieldEndEffect_keeps words s
  case listenPeriodEnd => exact listenEnd_keeps s
  case snapshotWaitEnd => exact snapshotEnd_keeps s
  case isolationWaitEnd => exact isolationEnd_keeps s
  case analysisHandover => exact handOverHead_keeps s
  case voteTimerExpiry field => exact timerExpiry_keeps field s
  case closeRequeue => exact .foldl askOwed_keeps _ s
  case leaveRequeue => exact leaveRequeue_keeps s
  case idlePoint others => exact idlePointStep_keeps others s
  case idleMonitorExpiry => exact monitorExpiry_keeps s
  case ownTransmissionNotSeen => exact transmissionNotSeen_keeps s
  case parcelCutShort => exact cutShort_keeps s
  case parcelVoid reading => exact parcelVoidStep_keeps reading s
  case parcelDiscard => exact parcelDiscardStep_keeps s
  case isolationNotice => exact isolationNotice_keeps s
  case takeClose => exact memberTake_keeps _ s
  case takeLeave => exact takeParcel_keeps (leaveTaken_keeps _) _ s
  case takeSnapshot => exact takeParcel_keeps (snapshotTaken_keeps _ _ _) _ s
  case takeJoin => exact takeParcel_keeps (joinTaken_keeps _ _) _ s
  case takeForce => exact memberTake_keeps _ s
  case takeLoopSet => exact memberTake_keeps _ s
  case takeBankSelect => exact memberTake_keeps _ s
  case takeReport => exact takeParcel_keeps (reportTaken_keeps _ _ _) _ s
  case missedRoundRemoval => exact missedRemoval_keeps s
  case takeHalo => exact takeParcel_keeps (haloTaken_keeps _ _) _ s
  case pendingSetOffer => exact offerPendingSets_keeps s
  case buildStart => exact testHead_keeps s
  case buildLine => exact buildLineStep_keeps s
  case haloWaitExpiry => exact haloExpiry_keeps s
  case rowWrite => exact rowWriteStep_keeps s
  case commitComplete => exact commitStep_keeps s
  case outputStart frame => exact outputStartStep_keeps frame s
  case rowEmit => exact emitRow_keeps s
  case transactionIncomplete => exact shiftOut_keeps s
  case noRequest => exact shiftOut_keeps s
  case configWrite item value => exact transact_keeps (writeConfig_keeps item value) _ _ s
  case stagingPageWrite item value => exact transact_keeps (writeStaging_keeps item value) _ _ s
  case eventEnablesWrite value => exact transact_keeps (writeEnables_keeps value) _ _ s
  case writeOther bytes => exact takeTransaction_keeps bytes s
  case start => exact transact_keeps startAction_keeps _ _ s
  case stop => exact transact_keeps stopAction_keeps _ _ s
  case reset => exact resetTaken_keeps _ s
  case force value => exact transact_keeps (forceAction_keeps value) _ _ s
  case loop value => exact transact_keeps (loopAction_keeps value) _ _ s
  case selectBank value => exact transact_keeps (selectAction_keeps value) _ _ s
  case commitPage value => exact transact_keeps (commitAction_keeps value) _ _ s
  case clearBank value => exact transact_keeps (clearAction_keeps value) _ _ s
  case eventClear value => exact transact_keeps (eventClearAction_keeps value) _ _ s
  case segmentMark => exact transact_keeps segmentAction_keeps _ _ s
  case programmeClear => exact transact_keeps clearTotalsAction_keeps _ _ s
  case resetPinDrivenLow => exact holdReset_keeps s

/-- Every step keeps every invariant. -/
theorem keeps_of_step {s t : State} (h : step s = .next t) : Keeps s t :=
  step_keeps Keeps.refl (fun _ _ _ => Keeps.trans) setPending_keeps effectOf_keeps h

/-- Settles O56. -/
theorem stepsKeepTheLineSafe : Obligations.StepsKeepTheLineSafe :=
  ⟨fun _ _ line lock h => ⟨(keeps_of_step h).line line, (keeps_of_step h).lock lock⟩,
    fun _ _ timers h => (keeps_of_step h).timers timers,
    fun _ _ send h => (keeps_of_step h).send send⟩

/-- Settles O57. -/
theorem stepsKeepTheStoresSafe : Obligations.StepsKeepTheStoresSafe :=
  fun _ _ halo store h => ⟨(keeps_of_step h).halo halo, (keeps_of_step h).store store⟩

/-- Settles O58. -/
theorem stepsKeepTheCoefficientsSafe : Obligations.StepsKeepTheCoefficientsSafe :=
  fun _ _ coefficients h => (keeps_of_step h).coefficients coefficients

end Sys2Proof.Machine
end

section
/-! SUPPORT. The Control Port (chapter 11): what a taken action answers and leaves, and the writes and
actions by their tests. -/

namespace Sys2Proof.Machine

/-! ## A taken request by its reply (R205) -/

/-- A request taken on a live station answers its reply's code and value, and leaves its reply's state. -/
theorem live_transact {kind : Byte} {item : Word16} {carry : State → Reply} {s : State} (h : Live s)
    (hp : (carry (shiftOut s)).state.pending = s.pending) :
    ∃ t, live (transact kind item carry) s = .next t ∧
      Answered t kind item (carry (shiftOut s)).code (carry (shiftOut s)).value ∧
      Transacted (carry (shiftOut s)).state t :=
  ⟨_, live_next_of_pending h hp, rfl, rfl⟩

theorem live_action_refuse {item : Word16} {carry : State → Reply} {s : State} {code : ResultCode}
    (h : Live s) (hc : carry (shiftOut s) = refuse code (shiftOut s)) :
    ∃ t, live (action item carry) s = .next t ∧ Answered t 3 item code 0 ∧ Transacted s t :=
  answered_refused h hc

theorem live_action_accept {item : Word16} {carry : State → Reply} {s u : State} (h : Live s)
    (hc : carry (shiftOut s) = accept (shiftOut u)) (hp : u.pending = s.pending) :
    ∃ t, live (action item carry) s = .next t ∧ Answered t 3 item .ok 0 ∧ Transacted u t := by
  obtain ⟨t, next, answer, rest⟩ := answered_accepted (item := item) h hc hp
  exact ⟨t, next, answer, transacted_shiftOut rest⟩

theorem cp_config_of_transacted {u t : State} (h : Transacted u t) : t.cp.config = u.cp.config := by
  unfold Transacted at h
  rw [h, State.setCp_cp]

theorem cp_enables_of_transacted {u t : State} (h : Transacted u t) :
    t.cp.enables = u.cp.enables := by
  unfold Transacted at h
  rw [h, State.setCp_cp]

/-! ## Configuration items (R208, R209) -/

/-- R208: the item put reads the value, and every other item reads as before. -/
def ReadsBack (c c' : ConfigItems) (item n : Nat) : Prop :=
  configItem c' item = some n ∧ ∀ other, other ≠ item → configItem c' other = configItem c other

theorem bit_of_le_one {n : Nat} (h : n ≤ 1) : (if (n == 1) = true then 1 else 0) = n := by
  interval_cases n <;> rfl

/-- R208: a rule's item: its limit, its owner or its kind. -/
def ruleField (r : BandRule) : Nat → Nat
  | 0 => r.limit
  | 1 => r.owner.val
  | _ => kindCode r.kind

/-- The items from 16 on are the rules', three items a rule. -/
theorem configItem_rule (c : ConfigItems) {item : Nat} (h : 16 ≤ item) :
    configItem c item = (c.rules[(item - 16) / 3]?).map fun r => ruleField r ((item - 16) % 3) := by
  unfold configItem
  split <;> try omega
  rw [if_pos h]
  cases c.rules[(item - 16) / 3]? with
  | none => rfl
  | some r =>
    dsimp only [Option.map_some]
    generalize (item - 16) % 3 = f
    match f with
    | 0 => rfl
    | 1 => rfl
    | _ + 2 => rfl

theorem configItem_setRules (c : ConfigItems) (rules : List BandRule) {item : Nat} (low : item < 16) :
    configItem { c with rules := rules } item = configItem c item := by
  unfold configItem
  split
  case h_12 => rw [if_neg (by omega), if_neg (by omega)]
  all_goals rfl

/-- R208: a rule put in place of another with one field replaced reads back. -/
theorem readsBack_rule {c : ConfigItems} {r r' : BandRule} {item n : Nat} (h : 16 ≤ item)
    (hr : c.rules[(item - 16) / 3]? = some r) (put : ruleField r' ((item - 16) % 3) = n)
    (others : ∀ f, f < 3 → f ≠ (item - 16) % 3 → ruleField r' f = ruleField r f) :
    ReadsBack c { c with rules := c.rules.set ((item - 16) / 3) r' } item n := by
  have inside : (item - 16) / 3 < c.rules.length := (List.getElem?_eq_some_iff.mp hr).1
  constructor
  · rw [configItem_rule _ h, List.getElem?_set_self inside, Option.map_some, put]
  · intro other ne
    by_cases low : other < 16
    · exact configItem_setRules c _ low
    · rw [configItem_rule _ (by omega), configItem_rule _ (by omega)]
      by_cases same : (other - 16) / 3 = (item - 16) / 3
      · rw [same, List.getElem?_set_self inside, hr, Option.map_some, Option.map_some,
          others _ (by omega) (by omega)]
      · rw [List.getElem?_set_ne (Ne.symm same)]

theorem putRule_readsBack {c c' : ConfigItems} {item n : Nat} (h : 16 ≤ item)
    (put : putRule c ((item - 16) / 3) ((item - 16) % 3) n = some c') : ReadsBack c c' item n := by
  unfold putRule at put
  split at put
  case h_1 => cases put
  case h_2 r hr =>
    split at put
    case h_1 hf =>
      split at put
      · obtain rfl := Option.some.inj put
        exact readsBack_rule h hr (by rw [hf]; rfl) fun f hf3 ne => by
          rw [hf] at ne; interval_cases f <;> first | rfl | exact absurd rfl ne
      · cases put
    case h_2 hf =>
      split at put
      · obtain rfl := Option.some.inj put
        exact readsBack_rule h hr (by rw [hf]; rfl) fun f hf3 ne => by
          rw [hf] at ne; interval_cases f <;> first | rfl | exact absurd rfl ne
      · cases put
    case h_3 h0 h1 =>
      have not0 : (item - 16) % 3 ≠ 0 := h0
      have not1 : (item - 16) % 3 ≠ 1 := h1
      have hf : (item - 16) % 3 = 2 := by omega
      have kinds (k : BandKind) (hn : kindCode k = n) :
          ReadsBack c { c with rules := c.rules.set ((item - 16) / 3) { r with kind := k } } item n :=
        readsBack_rule h hr (by rw [hf]; exact hn) fun f hf3 ne => by
          rw [hf] at ne; interval_cases f <;> first | rfl | exact absurd rfl ne
      split at put
      · exact Option.some.inj put ▸ kinds .full rfl
      · exact Option.some.inj put ▸ kinds .fill rfl
      · cases put

theorem readsBack_other {c c' : ConfigItems} {item n : Nat} (h : configItem c' item = some n)
    (hr : c'.rules = c.rules)
    (others : ∀ other, other < 11 → other ≠ item → configItem c' other = configItem c other) :
    ReadsBack c c' item n := by
  refine ⟨h, fun other ne => ?_⟩
  by_cases low : other < 11
  · exact others other low ne
  · by_cases rule : 16 ≤ other
    · rw [configItem_rule _ rule, configItem_rule _ rule, hr]
    · have none (d : ConfigItems) : configItem d other = none := by
        unfold configItem
        split <;> first | omega | rw [if_neg rule]
      rw [none, none]

theorem putConfig_readsBack {c c' : ConfigItems} {item n : Nat} (h : putConfig c item n = some c') :
    ReadsBack c c' item n := by
  unfold putConfig at h
  split at h
  case h_12 =>
    split at h
    · exact putRule_readsBack ‹_› h
    · cases h
  case h_1 =>
    split at h
    · obtain rfl := Option.some.inj h
      refine readsBack_other (congrArg some (bit_of_le_one ‹_›)) rfl fun other low ne => ?_
      interval_cases other <;> first | rfl | exact absurd rfl ne
    · cases h
  case h_2 =>
    split at h
    · obtain rfl := Option.some.inj h
      refine readsBack_other (congrArg some (bit_of_le_one ‹_›)) rfl fun other low ne => ?_
      interval_cases other <;> first | rfl | exact absurd rfl ne
    · cases h
  all_goals
    split at h
    · obtain rfl := Option.some.inj h
      refine readsBack_other rfl rfl fun other low ne => ?_
      interval_cases other <;> first | rfl | exact absurd rfl ne
    · cases h

theorem isSome_ite {α : Type} {p : Prop} [Decidable p] {a : α} :
    (if p then some a else none).isSome = true ↔ p := by
  split <;> simp_all

theorem putRule_isSome_iff {c : ConfigItems} {index field n : Nat} (h : index < c.rules.length)
    (hf : field < 3) :
    (putRule c index field n).isSome = true ↔
      n ≤ if field = 0 then 576 else if field = 1 then 7 else 1 := by
  unfold putRule
  rw [List.getElem?_eq_getElem h]
  match field with
  | 0 => simp
  | 1 =>
    simp only [Nat.one_ne_zero, if_false, if_true]
    split
    · simp; omega
    · simp; omega
  | 2 =>
    match n with
    | 0 => simp
    | 1 => simp
    | m + 2 => simp

/-- R208: a value is put exactly when it lies in its item's range. -/
theorem putConfig_isSome_iff {c : ConfigItems} {item n : Nat} (h : isConfigItem item = true)
    (size : c.rules.length = 8) :
    (putConfig c item n).isSome = true ↔
      (configRange item).1 ≤ n ∧ n ≤ (configRange item).2 := by
  have bounds : item ≤ 10 ∨ 16 ≤ item ∧ item ≤ 39 := by simpa [isConfigItem] using h
  obtain head | ⟨low, high⟩ := bounds
  · interval_cases item <;> simp only [putConfig, configRange, isSome_ite, inRange] <;> simp
  · have put : putConfig c item n = putRule c ((item - 16) / 3) ((item - 16) % 3) n := by
      unfold putConfig
      split
      case h_12 => rw [if_pos low]
      all_goals omega
    have range : configRange item =
        if item % 3 = 1 then (0, 576) else if item % 3 = 2 then (0, 7) else (0, 1) := by
      unfold configRange
      split
      case h_12 => rfl
      all_goals omega
    rw [put, putRule_isSome_iff (by omega) (by omega), range]
    obtain m | m | m : item % 3 = 1 ∨ item % 3 = 2 ∨ item % 3 = 0 := by omega
    · rw [if_pos (by omega), if_pos m]; simp
    · rw [if_neg (by omega), if_pos (by omega), if_neg (by omega), if_pos m]; simp
    · rw [if_neg (by omega), if_neg (by omega), if_neg (by omega), if_neg (by omega)]; simp

theorem readItem_config {item : Nat} (h : isConfigItem item = true) (s : State) :
    readItem s item = (configItem s.cp.config item).map word := by
  have bounds : item ≤ 10 ∨ 16 ≤ item ∧ item ≤ 39 := by simpa [isConfigItem] using h
  rw [readItem, if_pos (by omega)]

theorem writeConfig_locked {item : Word16} (value : Word32) {s : State}
    (h : isConfigItem item.toNat = true) (lock : s.cp.lock = true) :
    writeConfig item value s = refuse .refusedLocked s := by
  rw [writeConfig, if_pos h, if_pos lock]

theorem writeConfig_unlocked {item : Word16} (value : Word32) {s : State}
    (h : isConfigItem item.toNat = true) (lock : s.cp.lock = false) :
    writeConfig item value s =
      match putConfig s.cp.config item.toNat value.toNat with
      | some c => accept (s.setCp { s.cp with config := c })
      | none => refuse .badValue s := by
  rw [writeConfig, if_pos h, lock]
  rfl

/-- Settles O2: under the lock a refusal; else the value is put exactly when it is in range, and reads
back while every other item reads as before. -/
theorem configWriteFollowsLockAndRange : Obligations.ConfigWriteFollowsLockAndRange := by
  intro s item v hs h size
  have eq : exec (.configWrite item v) s = live (transact kindWrite item (writeConfig item v)) s := rfl
  rw [eq]
  cases lock : s.cp.lock with
  | true =>
    obtain ⟨t, next, answer, rest⟩ := live_transact_refuse (kind := kindWrite) (item := item) hs
      (writeConfig_locked v (s := shiftOut s) h lock)
    have kept := cp_config_of_transacted rest
    exact ⟨t, _, next, answer, kept ▸ rest, fun _ => ⟨rfl, kept⟩, nofun, nofun⟩
  | false =>
    have reply := writeConfig_unlocked v (s := shiftOut s) h lock
    have inside := putConfig_isSome_iff (n := v.toNat) h size
    cases hp : putConfig s.cp.config item.toNat v.toNat with
    | none =>
      rw [show (shiftOut s).cp.config = s.cp.config from rfl, hp] at reply
      obtain ⟨t, next, answer, rest⟩ := live_transact_refuse (kind := kindWrite) (item := item) hs
        reply
      have kept := cp_config_of_transacted rest
      rw [hp] at inside
      exact ⟨t, _, next, answer, kept ▸ rest, nofun,
        fun _ low high => absurd (inside.mpr ⟨low, high⟩) (by simp), fun _ _ => ⟨rfl, kept⟩⟩
    | some c =>
      rw [show (shiftOut s).cp.config = s.cp.config from rfl, hp] at reply
      obtain ⟨t, next, answer, rest⟩ := live_transact_accept (kind := kindWrite) (item := item) hs
        (u := shiftOut (s.setCp { s.cp with config := c })) reply rfl
      have rest := transacted_shiftOut rest
      have put : t.cp.config = c := cp_config_of_transacted rest
      obtain ⟨read, others⟩ := putConfig_readsBack hp
      rw [hp] at inside
      refine ⟨t, _, next, answer, put ▸ rest, nofun, fun _ _ _ => ⟨rfl, ?_, ?_⟩, fun _ out => ?_⟩
      · rw [readItem_config h, put, read]
        simp [word]
      · intro other ho ne
        rw [readItem_config ho, readItem_config ho, put, others other ne]
      · obtain ⟨low, high⟩ := inside.mp rfl
        omega

end Sys2Proof.Machine
end

section
/-! SUPPORT. The Control Port (chapter 11), continued: the event enables, the totals, transactions of any
other kind, and the actions by their tests. -/

namespace Sys2Proof.Machine

/-! ## Event enables (R218) and totals (R216) -/

theorem readItem_attention (s : State) :
    readItem s 0x206 = some (if attention s = true then 1 else 0) := by
  rw [readItem, if_neg (by omega), if_neg (by omega), if_neg (by omega), if_neg (by omega),
    if_pos (by omega), groupOf, if_pos (by omega)]
  rfl

theorem setWidth_getLsbD_low {v : Word32} {b : Nat} (hb : b < 12) :
    (v.setWidth 12).getLsbD b = v.getLsbD b := by
  simp [hb]

theorem exec_eventEnablesWrite {s : State} {v : Word32} (h : Live s) :
    ∃ t code, exec (.eventEnablesWrite v) s = .next t ∧ Answered t 2 0x205 code 0 ∧
      Transacted (s.setCp { s.cp with enables := t.cp.enables }) t ∧
      (v.toNat < 4096 → code = .ok ∧ ∀ b, b < 12 → t.cp.enables.getLsbD b = v.getLsbD b) ∧
      (4096 ≤ v.toNat → code = .badValue ∧ t.cp.enables = s.cp.enables) := by
  by_cases hv : v.toNat < 4096
  · obtain ⟨t, next, answer, rest⟩ := live_transact_accept (kind := kindWrite) (item := enablesItem)
      (carry := writeEnables v) (u := shiftOut (s.setCp { s.cp with enables := v.setWidth 12 })) h
      (if_pos hv) rfl
    have rest := transacted_shiftOut rest
    have set : t.cp.enables = v.setWidth 12 := cp_enables_of_transacted rest
    refine ⟨t, .ok, next, answer, set ▸ rest, fun _ => ⟨rfl, fun b hb => ?_⟩, by omega⟩
    rw [set, setWidth_getLsbD_low hb]
  · obtain ⟨t, next, answer, rest⟩ := live_transact_refuse (kind := kindWrite) (item := enablesItem)
      (carry := writeEnables v) (code := .badValue) h (if_neg hv)
    have kept := cp_enables_of_transacted rest
    exact ⟨t, .badValue, next, answer, kept ▸ rest, by omega, fun _ => ⟨rfl, kept⟩⟩

/-- Settles O4: the reset values, ATTENTION by its flags, its item, and the WRITE. -/
theorem enablesWriteSetsAttention : Obligations.EnablesWriteSetsAttention :=
  ⟨fun n => ⟨rfl, by simp [attention, State.afterReset]⟩, attention_iff, readItem_attention,
    fun _ _ => exec_eventEnablesWrite⟩

/-- Settles O6: both actions accept in every state and set the totals alone. -/
theorem segmentMarkAndProgrammeClear : Obligations.SegmentMarkAndProgrammeClear :=
  fun s _ h =>
    ⟨live_action_accept (carry := segmentAction) (u := s.setTotals (rollSegments s.cp.totals)) h rfl rfl,
      live_action_accept (carry := clearTotalsAction) (u := s.setTotals Totals.zero) h rfl rfl⟩

/-! ## Any taken transaction (R205, R206) -/

theorem groupOf_shiftOut (s : State) (item : Nat) : groupOf (shiftOut s) item = groupOf s item := by
  have station : stationItems (shiftOut s) = stationItems s := rfl
  have store : storeItems (shiftOut s) = storeItems s := rfl
  have consensus : consensusItems (shiftOut s) = consensusItems s := rfl
  have left : timeLeft (shiftOut s) = timeLeft s := rfl
  have scaler : scalerItems (shiftOut s) = scalerItems s := rfl
  simp only [groupOf, station, store, consensus, left, scaler, shiftOut_frame]

/-- No item shows the bytes shifted out. -/
theorem readItem_shiftOut (s : State) (item : Nat) : readItem (shiftOut s) item = readItem s item := by
  have coefficient (i : Nat) : coefficientItem (shiftOut s) i = coefficientItem s i := rfl
  simp only [readItem, groupOf_shiftOut, coefficient, shiftOut_frame]

theorem takeTransaction_noRequest {b : Vector Byte 8} (h : b[0] = 0) (s : State) :
    takeTransaction b s = shiftOut s :=
  if_pos h

/-- A request that is not a RESET is carried out in the order of R206's tests. -/
theorem takeTransaction_request {b : Vector Byte 8} (h : b[0] ≠ 0)
    (noReset : checkHolds b = true → b[0] = 3 → b[1] ++ b[2] ≠ (0x102 : Word16)) (s : State) :
    takeTransaction b s =
      transact b[0] (b[1] ++ b[2]) (carryOut b (readRequest b)) s := by
  have kind : (readRequest b).kind ≠ 0 := h
  unfold takeTransaction
  dsimp only
  rw [if_neg kind, if_neg]
  · rfl
  · rintro ⟨check, action, item⟩
    exact noReset check action item

theorem carryOut_noCheck {b : Vector Byte 8} (h : checkHolds b = false) (r : Request) (s : State) :
    carryOut b r s = refuse .badValue s := by
  rw [carryOut, h]
  rfl

theorem carryOut_checked {b : Vector Byte 8} (h : checkHolds b = true) (r : Request) (s : State) :
    carryOut b r s =
      if r.kind = 1 then readRequestItem r.item s
      else if r.kind = 2 then writeRequestItem r.item r.value s
      else if r.kind = 3 then actionRequestItem r.item r.value s
      else refuse .badValue s := by
  rw [carryOut, h]
  rfl

theorem readRequestItem_unassigned {item : Word16} {s : State} (h : readItem s item.toNat = none) :
    readRequestItem item s = refuse .badValue s := by
  rw [readRequestItem, h]

theorem readRequestItem_plain {item : Word16} {s : State} {v : Word32}
    (h : readItem s item.toNat = some v) (other : item.toNat ≠ timeLeftItem) :
    readRequestItem item s = { code := .ok, value := v, state := s } := by
  simp only [readRequestItem, h, if_neg other]

theorem writeRequestItem_unwritten {item : Word16} (config : isConfigItem item.toNat = false)
    (staging : item.toNat < 0x40 ∨ 0x7F < item.toNat) (enables : item.toNat ≠ 0x205)
    (value : Word32) (s : State) : writeRequestItem item value s = refuse .badValue s := by
  have other : item ≠ enablesItem := fun eq => enables (congrArg BitVec.toNat eq)
  rw [writeRequestItem, if_neg (by simp [config]), if_neg (by omega), if_neg other]

theorem actionRequestItem_outside {item : Word16} (h : item.toNat < 0x100 ∨ 0x10A < item.toNat)
    (value : Word32) (s : State) : actionRequestItem item value s = refuse .badValue s := by
  unfold actionRequestItem
  split
  case h_11 => rfl
  all_goals omega

/-- R206: the requests that BAD_VALUE alone answers. -/
def IllRequest (s : State) (b : Vector Byte 8) : Prop :=
  checkHolds b = false ∨ 3 < b[0].toNat ∨
    (b[0] = 1 ∧ readItem s (b[1] ++ b[2]).toNat = none) ∨
    (b[0] = 2 ∧ isConfigItem (b[1] ++ b[2]).toNat = false ∧
      ((b[1] ++ b[2]).toNat < 0x40 ∨ 0x7F < (b[1] ++ b[2]).toNat) ∧
      (b[1] ++ b[2]).toNat ≠ 0x205) ∨
    (b[0] = 3 ∧ ((b[1] ++ b[2]).toNat < 0x100 ∨ 0x10A < (b[1] ++ b[2]).toNat))

theorem carryOut_ill {s : State} {b : Vector Byte 8} (h : IllRequest s b) :
    carryOut b (readRequest b) s = refuse .badValue s := by
  cases check : checkHolds b with
  | false => exact carryOut_noCheck check _ s
  | true =>
    rw [carryOut_checked check]
    have kind : (readRequest b).kind = b[0] := rfl
    rw [kind]
    obtain noCheck | unknown | ⟨k, item⟩ | ⟨k, config, staging, enables⟩ | ⟨k, item⟩ := h
    · rw [check] at noCheck
      cases noCheck
    · rw [if_neg, if_neg, if_neg]
      all_goals rintro eq; rw [eq] at unknown; contradiction
    · rw [if_pos k]
      exact readRequestItem_unassigned item
    · rw [if_neg (by rw [k]; decide), if_pos k]
      exact writeRequestItem_unwritten config staging enables _ s
    · rw [if_neg (by rw [k]; decide), if_neg (by rw [k]; decide), if_pos k]
      exact actionRequestItem_outside item _ s

theorem illRequest_noReset {s : State} {b : Vector Byte 8} (h : IllRequest s b)
    (check : checkHolds b = true) (kind : b[0] = 3) : b[1] ++ b[2] ≠ (0x102 : Word16) := by
  intro reset
  obtain noCheck | unknown | ⟨k, _⟩ | ⟨k, _⟩ | ⟨_, item⟩ := h
  · rw [check] at noCheck
    cases noCheck
  · rw [kind] at unknown
    contradiction
  · rw [kind] at k
    contradiction
  · rw [kind] at k
    contradiction
  · rw [reset] at item
    obtain low | high := item <;> contradiction

/-- Settles O7: the request's kind 0, the requests that BAD_VALUE answers, and a READ that is carried
out. -/
theorem otherTransactionsAreTestedInOrder : Obligations.OtherTransactionsAreTestedInOrder := by
  intro s b h
  refine ⟨fun none => ?_, fun some ill => ?_, fun v kind check other read => ?_⟩
  · rw [exec_live h, exec_live h]
    exact congrArg (fun u => Host.Outcome.next (State.setPending u s.pending))
      (takeTransaction_noRequest none s)
  · have ill : IllRequest (shiftOut s) b := by
      simpa only [IllRequest, readItem_shiftOut] using ill
    have reply := carryOut_ill ill
    have taken := takeTransaction_request some (illRequest_noReset ill) s
    refine ⟨takeTransaction b s, live_next_of_pending h ?_, ?_⟩
    · rw [taken, transact_pending, reply]
      rfl
    · rw [taken]
      exact transact_refuse reply
  · have noReset (_ : checkHolds b = true) (action : b[0] = 3) : b[1] ++ b[2] ≠ (0x102 : Word16) := by
      rw [kind] at action
      contradiction
    have reply : carryOut b (readRequest b) (shiftOut s) =
        { code := .ok, value := v, state := shiftOut s } := by
      rw [carryOut_checked check, if_pos (show (readRequest b).kind = 1 from kind)]
      exact readRequestItem_plain (by rw [readItem_shiftOut]; exact read) other
    have taken := takeTransaction_request (by rw [kind]; decide) noReset s
    refine ⟨takeTransaction b s, live_next_of_pending h ?_, ?_⟩
    · rw [taken, transact_pending, reply]
      rfl
    · rw [taken, transact, reply, kind]
      exact ⟨rfl, rfl⟩

end Sys2Proof.Machine
end

section
/-! SUPPORT. The actions of the Control Port (R120, R128, R180, R181, R183, R187): their tests in order,
what an accepted one does, and the completion of a commit. -/

namespace Sys2Proof.Machine

/-! ## Actions that queue a parcel (R120, R128, R211) -/

/-- No parcel in the queue is a REPORT or a CLOSE of the same round. -/
theorem sameRound_none {q : Queued} (h : ∀ x, sameRound q x = false) (qs : List Queued) :
    qs.any (sameRound q) = false := by
  simp [h]

theorem urgentAnswer_full {q : Queued} {s : State} (h : 8 ≤ s.pli.urgent.length) :
    urgentAnswer q s = .queueFull :=
  if_pos h

theorem urgentAnswer_room {q : Queued} {s : State} (h : s.pli.urgent.length < 8)
    (distinct : s.pli.urgent.any (sameRound q) = false)
    (queues : refusesQueueing s.cu.membership = false) : urgentAnswer q s = .accepted := by
  have fits : ¬ Config.urgentCapacity ≤ s.pli.urgent.length := Nat.not_le.mpr h
  rw [urgentAnswer, if_neg fits, distinct, queues]
  rfl

theorem queueAction_refused {q : Queued} {s : State} (h : s.cu.membership ≠ .member) :
    queueAction q s = refuse .refusedState s :=
  if_neg h

theorem queueAction_full {q : Queued} {s : State} (member : s.cu.membership = .member)
    (h : 8 ≤ s.pli.urgent.length) : queueAction q s = refuse .queueFull s := by
  rw [queueAction, if_pos member, urgentAnswer_full h]

theorem queueAction_room {q : Queued} {s : State} (member : s.cu.membership = .member)
    (h : s.pli.urgent.length < 8) (distinct : ∀ x, sameRound q x = false) :
    queueAction q s = accept (pushUrgent q s) := by
  have answer : urgentAnswer q s = .accepted :=
    urgentAnswer_room h (sameRound_none distinct _) (by rw [member]; rfl)
  rw [queueAction, if_pos member, answer]

/-- R211: an action that queues a parcel of no round, by the membership state and the room. -/
theorem live_queueAction {item : Word16} {carry : State → Reply} {q : Queued} {s : State} (h : Live s)
    (queues : carry (shiftOut s) = queueAction q (shiftOut s)) (distinct : ∀ x, sameRound q x = false) :
    ∃ t code, live (action item carry) s = .next t ∧ Answered t 3 item code 0 ∧
      (s.cu.membership ≠ .member → code = .refusedState ∧ Transacted s t) ∧
      (s.cu.membership = .member → 8 ≤ s.pli.urgent.length →
        code = .queueFull ∧ Transacted s t) ∧
      (s.cu.membership = .member → s.pli.urgent.length < 8 →
        code = .ok ∧ Transacted (s.setPli { s.pli with urgent := s.pli.urgent ++ [q] }) t) := by
  by_cases member : s.cu.membership = .member
  · by_cases full : 8 ≤ s.pli.urgent.length
    · obtain ⟨t, next, answer, rest⟩ := live_action_refuse (item := item) h
        (queues.trans (queueAction_full member full))
      exact ⟨t, _, next, answer, (absurd member ·), fun _ _ => ⟨rfl, rest⟩, fun _ _ => by omega⟩
    · have room : s.pli.urgent.length < 8 := Nat.not_le.mp full
      obtain ⟨t, next, answer, rest⟩ := live_action_accept (item := item) (u := pushUrgent q s) h
        (queues.trans (queueAction_room member room distinct)) rfl
      exact ⟨t, _, next, answer, (absurd member ·), fun _ _ => by omega, fun _ _ => ⟨rfl, rest⟩⟩
  · obtain ⟨t, next, answer, rest⟩ := live_action_refuse (item := item) h
      (queues.trans (queueAction_refused member))
    exact ⟨t, _, next, answer, fun _ => ⟨rfl, rest⟩, (absurd · member), (absurd · member)⟩

theorem sameRound_force (code : ForceCode) (phase : Nat) (x : Queued) :
    sameRound (.force code phase) x = false := by cases x <;> rfl

theorem sameRound_loopSet (code : LoopCode) (value : Nat) (x : Queued) :
    sameRound (.loopSet code value) x = false := by cases x <;> rfl

theorem sameRound_bankSelect (b : BankName) (d : Digest) (f : FieldNo) (x : Queued) :
    sameRound (.bankSelect b d f) x = false := by cases x <;> rfl

theorem badForce_iff (code : ForceCode) (phase : Nat) :
    badForce code phase = false ↔
      (code = .film22 → phase ≤ 1) ∧ (code = .film32 → phase ≤ 4) := by
  cases code <;> simp [badForce]

theorem badLoop_iff (code : LoopCode) (v : Nat) :
    badLoop code v = false ↔ (code = .held → v ≤ 1023) := by
  cases code <;> simp [badLoop]

theorem forceAction_queues {v : Word32} {code : ForceCode} {phase : Nat} (s : State)
    (arg : argForce v = some (code, phase)) (good : badForce code phase = false) :
    forceAction v s = queueAction (.force code phase) s := by
  simp only [forceAction, arg, good, Bool.false_eq_true, if_false]

theorem loopAction_queues {v : Word32} {code : LoopCode} {value : Nat} (s : State)
    (arg : argLoop v = some (code, value)) (good : badLoop code value = false) :
    loopAction v s = queueAction (.loopSet code value) s := by
  simp only [loopAction, arg, good, Bool.false_eq_true, if_false]

/-- Settles O10: both actions ask for their parcel once their value test has passed. -/
theorem forceAndLoopQueueTheirParcel : Obligations.ForceAndLoopQueueTheirParcel := by
  rintro s v q c item h (⟨rfl, rfl, code, phase, arg, rfl, film22, film32⟩ |
    ⟨rfl, rfl, code, value, arg, rfl, held⟩)
  · exact live_queueAction h
      (forceAction_queues _ arg ((badForce_iff code phase).mpr ⟨film22, film32⟩))
      (sameRound_force code phase)
  · exact live_queueAction h (loopAction_queues _ arg ((badLoop_iff code value).mpr held))
      (sameRound_loopSet code value)

theorem argForce_undecodable {v : Word32} (h : 5 ≤ v.toNat / 16) : argForce v = none := by
  unfold argForce
  split <;> first | omega | rfl

theorem forceAction_bad {v : Word32}
    (h : 5 ≤ v.toNat / 16 ∨ (v.toNat / 16 = 2 ∧ 1 < v.toNat % 16) ∨
      (v.toNat / 16 = 3 ∧ 4 < v.toNat % 16)) (s : State) :
    forceAction v s = refuse .badValue s := by
  obtain undecodable | ⟨code, phase⟩ | ⟨code, phase⟩ := h
  · simp only [forceAction, argForce_undecodable undecodable]
  · have arg : argForce v = some (.film22, v.toNat % 16) := by simp only [argForce, code]
    simp only [forceAction, arg, badForce, decide_eq_true phase, if_true]
  · have arg : argForce v = some (.film32, v.toNat % 16) := by simp only [argForce, code]
    simp only [forceAction, arg, badForce, decide_eq_true phase, if_true]

theorem argLoop_undecodable {v : Word32} (h : 3 ≤ v.toNat / 65536) : argLoop v = none := by
  unfold argLoop
  split <;> first | omega | rfl

theorem loopAction_bad {v : Word32}
    (h : 3 ≤ v.toNat / 65536 ∨ (v.toNat / 65536 = 1 ∧ 1023 < v.toNat % 65536)) (s : State) :
    loopAction v s = refuse .badValue s := by
  obtain undecodable | ⟨code, value⟩ := h
  · simp only [loopAction, argLoop_undecodable undecodable]
  · have arg : argLoop v = some (.held, v.toNat % 65536) := by simp only [argLoop, code]
    simp only [loopAction, arg, badLoop, decide_eq_true value, if_true]

/-- Settles O11. -/
theorem badArgumentsAreRefused : Obligations.BadArgumentsAreRefused :=
  fun _ _ h =>
    ⟨fun bad => live_action_refuse h (forceAction_bad bad _),
      fun bad => live_action_refuse h (loopAction_bad bad _)⟩

/-! ## SELECT_BANK (R187) -/

theorem argBank_none {n : Nat} (h : 1 < n) : argBank n = none := by
  unfold argBank
  split <;> first | omega | rfl

theorem argBank_named {v : Word32} {b : BankName} (h : v = 0 ∧ b = .bankA ∨ v = 1 ∧ b = .bankB) :
    argBank v.toNat = some b := by
  obtain ⟨rfl, rfl⟩ | ⟨rfl, rfl⟩ := h <;> rfl

theorem isSelect_any_iff (qs : List Queued) :
    qs.any isSelect = true ↔ ∃ x d f, Queued.bankSelect x d f ∈ qs := by
  rw [List.any_eq_true]
  constructor
  · rintro ⟨q, hq, select⟩
    cases q <;> first | exact ⟨_, _, _, hq⟩ | cases select
  · rintro ⟨x, d, f, hq⟩
    exact ⟨_, hq, rfl⟩

theorem selectAction_refused {v : Word32} {b : BankName} {s : State}
    (arg : argBank v.toNat = some b)
    (h : s.cu.membership ≠ .member ∨ s.cu.agreed.lastClosed = none) :
    selectAction v s = refuse .refusedState s := by
  simp only [selectAction, arg]
  by_cases member : s.cu.membership = .member
  · rw [if_pos member]
    obtain other | closed := h
    · exact absurd member other
    · rw [closed]
  · rw [if_neg member]

theorem selectAction_member {v : Word32} {b : BankName} {last : FieldNo} {s : State}
    (arg : argBank v.toNat = some b) (member : s.cu.membership = .member)
    (closed : s.cu.agreed.lastClosed = some last) : selectAction v s = selectFrom b last s := by
  simp only [selectAction, arg, if_pos member, closed]

theorem selectFrom_busy {b : BankName} {last : FieldNo} {s : State}
    (h : s.cu.agreed.bank.pending ≠ none ∨ (∃ x d f, Queued.bankSelect x d f ∈ s.pli.urgent) ∨
      (bankOf s b).state = .writing) : selectFrom b last s = refuse .busy s := by
  unfold selectFrom
  split
  case isTrue => rfl
  case isFalse none =>
    simp only [Bool.or_eq_true, Option.isSome_iff_ne_none, isSelect_any_iff, not_or] at none
    obtain pending | select | writing := h
    · exact absurd pending none.1
    · exact absurd select none.2
    · rw [writing]

theorem selectFrom_free {b : BankName} {last : FieldNo} {s : State}
    (pending : s.cu.agreed.bank.pending = none)
    (none : ∀ x d f, Queued.bankSelect x d f ∉ s.pli.urgent) :
    selectFrom b last s =
      match (bankOf s b).state with
      | .writing => refuse .busy s
      | .empty | .loading => refuse .noCoefficients s
      | .ready => queueAction (.bankSelect b (bankOf s b).digest (last + 4)) s := by
  have noSelect : s.pli.urgent.any isSelect = false := by
    rw [Bool.eq_false_iff, Ne, isSelect_any_iff]
    rintro ⟨x, d, f, hq⟩
    exact none x d f hq
  rw [selectFrom, pending, noSelect]
  rfl

theorem pushUrgent_shiftOut (q : Queued) (s : State) :
    pushUrgent q (shiftOut s) = shiftOut (pushUrgent q s) := rfl

/-- R187: SELECT_BANK of a named bank by its reply. -/
theorem exec_selectBank_refuse {s : State} {v : Word32} {code : ResultCode} (h : Live s)
    (hc : selectAction v (shiftOut s) = refuse code (shiftOut s)) :
    ∃ t, exec (.selectBank v) s = .next t ∧ Answered t 3 0x105 code 0 ∧ Transacted s t :=
  live_action_refuse h hc

/-- Settles O12: the tests of R187 in order. -/
theorem selectBankTestsAndQueues : Obligations.SelectBankTestsAndQueues := by
  refine ⟨fun s v h bad => exec_selectBank_refuse h ?_, fun s v b h named => ?_⟩
  · simp only [selectAction, argBank_none bad]
  have arg := argBank_named named
  by_cases refused : s.cu.membership ≠ .member ∨ s.cu.agreed.lastClosed = none
  · obtain ⟨t, next, answer, rest⟩ :=
      exec_selectBank_refuse h (selectAction_refused (s := shiftOut s) arg refused)
    refine ⟨t, _, next, answer, fun _ => ⟨rfl, rest⟩, fun last member closed => ?_⟩
    obtain other | open' := refused
    · exact absurd member other
    · rw [closed] at open'
      cases open'
  obtain ⟨member, last, closed⟩ : s.cu.membership = .member ∧ ∃ l, s.cu.agreed.lastClosed = some l := by
    simpa only [not_or, not_not, Option.ne_none_iff_exists'] using refused
  have select := selectAction_member (s := shiftOut s) arg member closed
  by_cases busy : s.cu.agreed.bank.pending ≠ none ∨
      (∃ x d f, Queued.bankSelect x d f ∈ s.pli.urgent) ∨ (bankOf s b).state = .writing
  · obtain ⟨t, next, answer, rest⟩ :=
      exec_selectBank_refuse h (select.trans (selectFrom_busy (s := shiftOut s) busy))
    refine ⟨t, _, next, answer, (absurd · refused), fun l _ _ => ⟨fun _ => ⟨rfl, rest⟩, ?_⟩⟩
    intro pending none
    obtain p | ⟨x, d, f, q⟩ | writing := busy
    · exact absurd pending p
    · exact absurd q (none x d f)
    · exact ⟨by simp [writing], by simp [writing], by simp [writing]⟩
  have free := busy
  simp only [not_or, not_exists, not_not] at free
  obtain ⟨pending, none, notWriting⟩ := free
  have tested := select.trans (selectFrom_free (s := shiftOut s) pending none)
  by_cases ready : (bankOf s b).state = .ready
  · have queues : selectAction v (shiftOut s) =
        queueAction (.bankSelect b (bankOf s b).digest (last + 4)) (shiftOut s) := by
      rw [tested, show (bankOf (shiftOut s) b) = bankOf s b by cases b <;> rfl, ready]
    obtain ⟨t, code, next, answer, _, full, room⟩ :=
      live_queueAction (item := 0x105) h queues (sameRound_bankSelect _ _ _)
    refine ⟨t, code, next, answer, (absurd · refused), fun l _ hl => ?_⟩
    obtain rfl : last = l := Option.some.inj (closed.symm.trans hl)
    exact ⟨(absurd · busy), fun _ _ =>
      ⟨by simp [ready], fun _ => full member, fun _ => room member⟩⟩
  · have noCoefficients : selectAction v (shiftOut s) = refuse .noCoefficients (shiftOut s) := by
      rw [tested, show (bankOf (shiftOut s) b) = bankOf s b by cases b <;> rfl]
      cases hb : (bankOf s b).state with
      | empty => rfl
      | loading => rfl
      | writing => exact absurd hb notWriting
      | ready => exact absurd hb ready
    obtain ⟨t, next, answer, rest⟩ := exec_selectBank_refuse h noCoefficients
    exact ⟨t, _, next, answer, (absurd · refused), fun l _ _ =>
      ⟨(absurd · busy), fun _ _ => ⟨fun _ => ⟨rfl, rest⟩, (absurd · ready), (absurd · ready)⟩⟩⟩

/-! ## Protected banks (R178) -/

theorem isSelectOf_any_iff (b : BankName) (qs : List Queued) :
    qs.any (isSelectOf b) = true ↔ ∃ d f, Queued.bankSelect b d f ∈ qs := by
  rw [List.any_eq_true]
  constructor
  · rintro ⟨q, hq, select⟩
    cases q <;> simp only [isSelectOf, beq_iff_eq, Bool.false_eq_true] at select
    subst select
    exact ⟨_, _, hq⟩
  · rintro ⟨d, f, hq⟩
    exact ⟨_, hq, beq_self_eq_true b⟩

/-- R178: the test of COMMIT_PAGE and CLEAR_BANK says that the bank is protected. -/
theorem bankProtected_iff (s : State) (b : BankName) :
    bankProtected s b = true ↔ ProtectedBank s b := by
  unfold bankProtected ProtectedBank
  simp only [Bool.or_eq_true, Bool.and_eq_true, beq_iff_eq, applies_iff, isSelectOf_any_iff,
    Option.map_eq_some_iff, Option.bind_eq_some_iff, or_assoc]

theorem bankProtected_shiftOut (s : State) (b : BankName) :
    bankProtected (shiftOut s) b = bankProtected s b := rfl

/-! ## COMMIT_PAGE (R180) -/

theorem argCommit_outside {v : Word32} (h : 31 < v.toNat) : argCommit v = none :=
  if_neg (by omega)

theorem argCommit_of_code {v : Word32} {b : BankName} {tb : TableName} {page : Nat} (hp : page ≤ 7)
    (code : v.toNat = (if b = .bankA then 0 else 16) + (if tb = .vertical then 0 else 8) + page) :
    argCommit v = some (b, tb, page) := by
  have inside : v.toNat ≤ 31 := by
    rw [code]
    split <;> split <;> omega
  rw [argCommit, if_pos inside, code]
  cases b <;> cases tb <;> simp <;> omega

theorem commitAction_busy {v : Word32} {x : BankName × TableName × Nat} {s : State}
    (arg : argCommit v = some x) (h : s.sc.commit ≠ none) :
    commitAction v s = refuse .busy s := by
  simp only [commitAction, arg, Option.isSome_iff_ne_none.mpr h, if_true]

theorem commitAction_active {v : Word32} {b : BankName} {tb : TableName} {page : Nat} {s : State}
    (arg : argCommit v = some (b, tb, page)) (h : s.sc.commit = none) (p : bankProtected s b = true) :
    commitAction v s = refuse .bankActive s := by
  simp only [commitAction, arg, h, p, Option.isSome_none, Bool.false_eq_true, if_false, if_true]

theorem commitAction_begins {v : Word32} {b : BankName} {tb : TableName} {page : Nat} {s : State}
    (arg : argCommit v = some (b, tb, page)) (h : s.sc.commit = none)
    (p : bankProtected s b = false) : commitAction v s = accept (beginCommit b tb page s) := by
  simp only [commitAction, arg, h, p, Option.isSome_none, Bool.false_eq_true, if_false]

theorem setBank_eq (s : State) (b : BankName) (v : Bank) :
    s.setBank b v =
      s.setSc
        { s.sc with
          bankA := if b = .bankA then v else s.sc.bankA
          bankB := if b = .bankB then v else s.sc.bankB } := by
  cases b <;> rfl

theorem beginCommit_eq (b : BankName) (tb : TableName) (page : Nat) (s : State) :
    beginCommit b tb page s =
      s.setSc
        { s.sc with
          bankA := if b = .bankA then { s.sc.bankA with state := .writing } else s.sc.bankA
          bankB := if b = .bankB then { s.sc.bankB with state := .writing } else s.sc.bankB
          commit := some { bank := b, table := tb, page := page, coeffs := s.sc.staging } } := by
  cases b <;> rfl

/-- Settles O13: the value test, then R180's tests in order. -/
theorem commitPageTestsAndBegins : Obligations.CommitPageTestsAndBegins := by
  refine ⟨fun s v h bad => live_action_refuse h ?_, fun s v b tb page h hp code => ?_⟩
  · simp only [commitAction, argCommit_outside bad]
  have arg := argCommit_of_code hp code
  by_cases idle : s.sc.commit = none
  · cases guarded : bankProtected s b with
    | true =>
      have isProtected := (bankProtected_iff s b).mp guarded
      obtain ⟨t, next, answer, rest⟩ := live_action_refuse (item := 0x106) h
        (commitAction_active (s := shiftOut s) arg idle guarded)
      exact ⟨t, _, next, answer, (absurd idle ·), fun _ _ => ⟨rfl, rest⟩,
        fun _ free => absurd isProtected free⟩
    | false =>
      have free : ¬ ProtectedBank s b := fun p => by
        simp [(bankProtected_iff s b).mpr p] at guarded
      obtain ⟨t, next, answer, rest⟩ := live_action_accept (item := 0x106)
        (u := beginCommit b tb page s) h
        ((commitAction_begins (s := shiftOut s) arg idle guarded).trans (by cases b <;> rfl))
        (by cases b <;> rfl)
      exact ⟨t, _, next, answer, (absurd idle ·), fun _ p => absurd p free,
        fun _ _ => ⟨rfl, beginCommit_eq b tb page s ▸ rest⟩⟩
  · obtain ⟨t, next, answer, rest⟩ := live_action_refuse (item := 0x106) h
      (commitAction_busy (s := shiftOut s) arg idle)
    exact ⟨t, _, next, answer, fun _ => ⟨rfl, rest⟩, (absurd · idle), (absurd · idle)⟩

/-! ## CLEAR_BANK (R183) -/

theorem commitOn_iff (s : State) (b : BankName) :
    commitOn s b = true ↔ ∃ c, s.sc.commit = some c ∧ c.bank = b := by
  unfold commitOn
  cases s.sc.commit with
  | none => simp
  | some c => simp

/-- Settles O14: the value test, then R183's tests in order. -/
theorem clearBankTestsAndClears : Obligations.ClearBankTestsAndClears := by
  refine ⟨fun s v h bad => live_action_refuse h ?_, fun s v b h named => ?_⟩
  · simp only [clearAction, argBank_none bad]
  have tests : clearAction v (shiftOut s) =
      if commitOn s b then refuse .busy (shiftOut s)
      else if bankProtected s b then refuse .bankActive (shiftOut s)
      else accept (shiftOut (s.setBank b Bank.cleared)) := by
    simp only [clearAction, argBank_named named]
    cases b <;> rfl
  have onBank := commitOn_iff s b
  cases busy : commitOn s b with
  | true =>
    obtain ⟨c, commit, bank⟩ := onBank.mp busy
    rw [busy, if_pos rfl] at tests
    obtain ⟨t, next, answer, rest⟩ := live_action_refuse (item := 0x107) h tests
    exact ⟨t, _, next, answer, fun _ => ⟨rfl, rest⟩, fun off => absurd bank (off c commit),
      fun off => absurd bank (off c commit)⟩
  | false =>
    have off : ¬ ∃ c, s.sc.commit = some c ∧ c.bank = b := fun on => by
      simp [onBank.mpr on] at busy
    rw [busy, if_neg Bool.false_ne_true] at tests
    cases guarded : bankProtected s b with
    | true =>
      rw [guarded, if_pos rfl] at tests
      obtain ⟨t, next, answer, rest⟩ := live_action_refuse (item := 0x107) h tests
      exact ⟨t, _, next, answer, (absurd · off), fun _ _ => ⟨rfl, rest⟩,
        fun _ free => absurd ((bankProtected_iff s b).mp guarded) free⟩
    | false =>
      have free : ¬ ProtectedBank s b := fun p => by
        simp [(bankProtected_iff s b).mpr p] at guarded
      rw [guarded, if_neg Bool.false_ne_true] at tests
      obtain ⟨t, next, answer, rest⟩ := live_action_accept (item := 0x107) h tests
        (by cases b <;> rfl)
      refine ⟨t, _, next, answer, (absurd · off), fun _ p => absurd p free, fun _ _ =>
        ⟨rfl, setBank_eq s b _ ▸ rest, rfl, rfl, rfl, fun i hi => ?_⟩⟩
      exact ⟨List.getElem?_replicate_of_lt hi, List.getElem?_replicate_of_lt hi⟩

/-! ## The completion of a commit (R181) -/

/-- A coefficient in a digest: a negative one as 65536 plus its value. -/
def digestTerm (x : Coeff) : Nat := if x.toInt < 0 then (65536 + x.toInt).toNat else x.toNat

theorem signExtend_toNat (x : Coeff) : (x.signExtend 16).toNat = digestTerm x := by
  have low := BitVec.le_toInt x
  have high := BitVec.toInt_lt (x := x)
  have ext : (x.signExtend 16).toNat = (x.toInt % 65536).toNat := by
    rw [BitVec.signExtend, BitVec.toNat_ofInt]
    rfl
  rw [ext, digestTerm]
  split
  · omega
  · have : x.toInt = x.toNat := by
      rw [BitVec.toInt_eq_toNat_cond] at *
      split at * <;> omega
    omega

theorem foldl_digest_toNat (cs : List Coeff) (d : Digest) :
    (cs.foldl (fun d c => d + c.signExtend 16) d).toNat =
      (d.toNat + (cs.map digestTerm).sum) % 65536 := by
  induction cs generalizing d with
  | nil => exact (Nat.mod_eq_of_lt d.isLt).symm
  | cons c cs ih =>
    rw [List.foldl_cons, ih, List.map_cons, List.sum_cons, BitVec.toNat_add, signExtend_toNat]
    omega

theorem coeffDigest_toNat (v h : List Coeff) :
    (coeffDigest v h).toNat = ((v ++ h).map digestTerm).sum % 65536 := by
  rw [coeffDigest, foldl_digest_toNat]
  simp

theorem writePage_get {g i : Nat} {page table : List Coeff} (hg : g ≤ 7) (hp : page.length = 64)
    (ht : table.length = 512) :
    (writePage g page table)[i]? =
      if 64 * g ≤ i ∧ i < 64 * g + 64 then page[i - 64 * g]? else table[i]? := by
  have front : (table.take (64 * g)).length = 64 * g := by
    rw [List.length_take]
    omega
  rw [writePage, List.append_assoc]
  by_cases before : i < 64 * g
  · rw [List.getElem?_append_left (by omega), List.getElem?_take_of_lt before, if_neg (by omega)]
  · rw [List.getElem?_append_right (by omega), front]
    by_cases inside : i < 64 * g + 64
    · rw [List.getElem?_append_left (by omega), if_pos (by omega)]
    · rw [List.getElem?_append_right (by omega), List.getElem?_drop, hp, if_neg (by omega)]
      congr 1
      omega

theorem commitInto_pages (c : Commit) (b : Bank) {p : Nat} (hp : p < 16) :
    (commitInto c b).pages.getLsbD p =
      (b.pages.getLsbD p || (p == (if c.table = .vertical then 0 else 8) + c.page)) := by
  have bitOf : pageBit c.table c.page = (if c.table = .vertical then 0 else 8) + c.page := by
    cases c.table <;> simp [pageBit]
  rw [← bitOf]
  simp only [commitInto, BitVec.getLsbD_or, BitVec.getLsbD_shiftLeft, BitVec.getLsbD_one]
  congr 1
  by_cases same : p = pageBit c.table c.page
  · simp [← same, hp]
  · by_cases above : p < pageBit c.table c.page
    · simp [above, same]
    · have : p - pageBit c.table c.page ≠ 0 := by omega
      simp [this, same]

theorem commitStep_of_some {s : State} {c : Commit} (h : s.sc.commit = some c) :
    commitStep s =
      (((s.setBank c.bank (commitInto c (bankOf s c.bank))).setSc
        { (s.setBank c.bank (commitInto c (bankOf s c.bank))).sc with commit := none }).raise
        .commitDone) := by
  rw [commitStep, h]

theorem commitStep_bank {s : State} {c : Commit} (h : s.sc.commit = some c) :
    bankOf (commitStep s) c.bank = commitInto c (bankOf s c.bank) := by
  rw [commitStep_of_some h]
  cases c.bank <;> rfl

/-- Settles O15: the bank after the commit table by table, its pages, digest and state, and what stands
as it was. -/
theorem commitCompletionWritesThePage : Obligations.CommitCompletionWritesThePage := by
  intro s c h commit page size vertical horizontal
  refine ⟨commitStep s, live_next_of_pending h (by simp), ?_⟩
  rw [commitStep_bank commit]
  refine ⟨fun i _ => ⟨?_, ?_⟩, fun p => commitInto_pages c _, coeffDigest_toNat _ _, rfl, ?_, ?_, ?_⟩
  · cases tb : c.table with
    | vertical => simp [commitInto, tb, writePage_get page size vertical]
    | horizontal => simp [commitInto, tb]
  · cases tb : c.table with
    | vertical => simp [commitInto, tb]
    | horizontal => simp [commitInto, tb, writePage_get page size horizontal]
  · rw [commitStep_of_some commit]
    rfl
  · rw [commitStep_of_some commit]
    cases c.bank <;> rfl
  · rw [commitStep_of_some commit]
    cases c.bank <;> rfl

end Sys2Proof.Machine
end

section
/-! SUPPORT. The band rule table (sections 1.1 to 1.4): its checks, the record derived from it, and the
configuration words (R210). -/

namespace Sys2Proof.Machine

section Table

variable {c : ConfigItems} {rule : Nat → BandRule} {i : Nat}

theorem enabledRules_length (T : TableOf c rule) : (enabledRules c).length = c.ruleCount := by
  obtain ⟨_, most, size, _⟩ := T
  rw [enabledRules, List.length_take, size]
  omega

theorem enabledRules_get (T : TableOf c rule) (hi : i < c.ruleCount) :
    (enabledRules c)[i]? = some (rule i) := by
  obtain ⟨_, most, _, get⟩ := T
  rw [enabledRules, List.getElem?_take_of_lt hi, get i (by omega)]

theorem enabledRules_end (T : TableOf c rule) : (enabledRules c)[c.ruleCount]? = none :=
  List.getElem?_eq_none (Nat.le_of_eq (enabledRules_length T))

theorem limitOf_enabled (T : TableOf c rule) (hi : i < c.ruleCount) :
    limitOf (enabledRules c) i = (rule i).limit := by
  rw [limitOf, enabledRules_get T hi]
  rfl

theorem lowerEnd_enabled (T : TableOf c rule) (hi : i ≤ c.ruleCount) :
    lowerEnd (enabledRules c) i = lowerLimit rule i := by
  cases i with
  | zero => rfl
  | succ j =>
    rw [lowerEnd, enabledRules_get T (by omega)]
    rfl

theorem sourceLines_eq (c : ConfigItems) : sourceLines c = if c.mode525 = true then 480 else 576 := rfl

/-! ## The five checks (R4) -/

/-- What a first check that fails at rule i means, and what it means that none fails. -/
theorem find_first {p : Nat → Bool} {n : Nat} :
    (i < n → p i = true → (∀ j, j < i → p j = false) → (List.range n).find? p = some i) ∧
      ((List.range n).find? p = none ↔ ∀ j, j < n → p j = false) := by
  constructor
  · intro hi fails before
    rw [List.find?_range_eq_some]
    exact ⟨fails, List.mem_range.mpr hi, fun j hj => by simp [before j hj]⟩
  · simp

theorem fallingLimit_test (T : TableOf c rule) (hi : i < c.ruleCount) :
    (1 ≤ i && limitOf (enabledRules c) i ≤ lowerEnd (enabledRules c) i : Bool) =
      decide (1 ≤ i ∧ (rule i).limit ≤ (rule (i - 1)).limit) := by
  rw [limitOf_enabled T hi, lowerEnd_enabled T (by omega)]
  by_cases first : i = 0
  · simp [first]
  · simp [lowerLimit, first]

theorem fallingLimit_some (T : TableOf c rule) (h1 : 1 ≤ i) (hi : i < c.ruleCount)
    (falls : (rule i).limit ≤ (rule (i - 1)).limit)
    (before : ∀ j, 1 ≤ j → j < i → (rule (j - 1)).limit < (rule j).limit) :
    fallingLimit (enabledRules c) = some i := by
  refine find_first.1 (by rwa [enabledRules_length T]) ?_ fun j hj => ?_
  · rw [fallingLimit_test T hi]
    exact decide_eq_true ⟨h1, falls⟩
  · rw [fallingLimit_test T (by omega), decide_eq_false_iff_not]
    rintro ⟨hj1, fall⟩
    have := before j hj1 hj
    omega

theorem fallingLimit_none (T : TableOf c rule) :
    fallingLimit (enabledRules c) = none ↔
      ∀ j, 1 ≤ j → j < c.ruleCount → (rule (j - 1)).limit < (rule j).limit := by
  unfold fallingLimit
  rw [(find_first (i := 0)).2, enabledRules_length T]
  refine ⟨fun h j h1 hj => ?_, fun h j hj => ?_⟩
  · have := h j hj
    rw [fallingLimit_test T hj, decide_eq_false_iff_not] at this
    omega
  · rw [fallingLimit_test T hj, decide_eq_false_iff_not]
    rintro ⟨h1, fall⟩
    have := h j h1 hj
    omega

theorem narrowRule_test (T : TableOf c rule) (hi : i < c.ruleCount)
    (rises : ∀ j, 1 ≤ j → j < c.ruleCount → (rule (j - 1)).limit < (rule j).limit) :
    (decide (limitOf (enabledRules c) i - lowerEnd (enabledRules c) i < 8)) =
      decide ((rule i).limit < lowerLimit rule i + 8) := by
  rw [limitOf_enabled T hi, lowerEnd_enabled T (by omega), decide_eq_decide]
  by_cases first : i = 0
  · simp [first, lowerLimit]
  · have := rises i (by omega) hi
    simp only [lowerLimit, first, if_false]
    omega

theorem narrowRule_some (T : TableOf c rule) (hi : i < c.ruleCount)
    (rises : ∀ j, 1 ≤ j → j < c.ruleCount → (rule (j - 1)).limit < (rule j).limit)
    (narrow : (rule i).limit < lowerLimit rule i + 8)
    (before : ∀ j, j < i → lowerLimit rule j + 8 ≤ (rule j).limit) :
    narrowRule (enabledRules c) = some i := by
  refine find_first.1 (by rwa [enabledRules_length T]) ?_ fun j hj => ?_
  · rw [narrowRule_test T hi rises]
    exact decide_eq_true narrow
  · rw [narrowRule_test T (by omega) rises, decide_eq_false_iff_not]
    have := before j hj
    omega

theorem narrowRule_none (T : TableOf c rule)
    (rises : ∀ j, 1 ≤ j → j < c.ruleCount → (rule (j - 1)).limit < (rule j).limit) :
    narrowRule (enabledRules c) = none ↔
      ∀ j, j < c.ruleCount → lowerLimit rule j + 8 ≤ (rule j).limit := by
  unfold narrowRule
  rw [(find_first (i := 0)).2, enabledRules_length T]
  refine forall₂_congr fun j hj => ?_
  rw [narrowRule_test T hj rises, decide_eq_false_iff_not, not_lt]

theorem mem_enabledRules (T : TableOf c rule) (r : BandRule) :
    r ∈ enabledRules c ↔ ∃ j, j < c.ruleCount ∧ rule j = r := by
  rw [List.mem_iff_getElem?]
  constructor
  · rintro ⟨j, get⟩
    have hj : j < c.ruleCount := enabledRules_length T ▸ (List.getElem?_eq_some_iff.mp get).1
    exact ⟨j, hj, Option.some.inj ((enabledRules_get T hj).symm.trans get)⟩
  · rintro ⟨j, hj, rfl⟩
    exact ⟨j, enabledRules_get T hj⟩

theorem repeatedOwner_test (T : TableOf c rule) (hi : i < c.ruleCount) :
    (((enabledRules c).take i).any fun r => some r.owner == ((enabledRules c)[i]?).map (·.owner)) =
        true ↔
      ∃ k, k < i ∧ (rule k).owner = (rule i).owner := by
  rw [enabledRules_get T hi, List.any_eq_true]
  constructor
  · rintro ⟨r, mem, same⟩
    obtain ⟨k, get⟩ := List.mem_iff_getElem?.mp mem
    have ki : k < i := by
      have := (List.getElem?_eq_some_iff.mp get).1
      rw [List.length_take] at this
      omega
    rw [List.getElem?_take_of_lt ki, enabledRules_get T (by omega)] at get
    exact ⟨k, ki, by simpa [← Option.some.inj get] using same⟩
  · rintro ⟨k, ki, same⟩
    refine ⟨rule k, List.mem_iff_getElem?.mpr ⟨k, ?_⟩, by simp [same]⟩
    rw [List.getElem?_take_of_lt ki, enabledRules_get T (by omega)]

theorem repeatedOwner_some (T : TableOf c rule) (hi : i < c.ruleCount) {k : Nat} (ki : k < i)
    (same : (rule k).owner = (rule i).owner)
    (before : ∀ j l, j < i → l < j → (rule l).owner ≠ (rule j).owner) :
    repeatedOwner (enabledRules c) = some i := by
  refine find_first.1 (by rwa [enabledRules_length T]) ((repeatedOwner_test T hi).mpr ⟨k, ki, same⟩)
    fun j hj => ?_
  rw [Bool.eq_false_iff, Ne, repeatedOwner_test T (by omega)]
  rintro ⟨l, lj, eq⟩
  exact before j l hj lj eq

theorem repeatedOwner_none (T : TableOf c rule) :
    repeatedOwner (enabledRules c) = none ↔
      ∀ j l, j < c.ruleCount → l < j → (rule l).owner ≠ (rule j).owner := by
  unfold repeatedOwner
  rw [(find_first (i := 0)).2, enabledRules_length T]
  refine ⟨fun h j l hj lj eq => ?_, fun h j hj => ?_⟩
  · have := h j hj
    rw [Bool.eq_false_iff, Ne, repeatedOwner_test T hj] at this
    exact this ⟨l, lj, eq⟩
  · rw [Bool.eq_false_iff, Ne, repeatedOwner_test T hj]
    rintro ⟨l, lj, eq⟩
    exact h j l hj lj eq

theorem ownRule_none (T : TableOf c rule) (n : Station) :
    ownRule (enabledRules c) n = none ↔ ∀ j, j < c.ruleCount → (rule j).owner ≠ n := by
  rw [ownRule, List.findIdx?_eq_none_iff]
  constructor
  · intro h j hj
    simpa using h (rule j) ((mem_enabledRules T _).mpr ⟨j, hj, rfl⟩)
  · intro h r mem
    obtain ⟨j, hj, rfl⟩ := (mem_enabledRules T r).mp mem
    simpa using h j hj

/-- The owner of one rule alone owns that rule. -/
theorem ownRule_some (T : TableOf c rule) {n : Station} (hi : i < c.ruleCount)
    (owner : (rule i).owner = n)
    (alone : ∀ j l, j < c.ruleCount → l < j → (rule l).owner ≠ (rule j).owner) :
    ownRule (enabledRules c) n = some i := by
  rw [ownRule, List.findIdx?_eq_some_iff_getElem]
  have inside : i < (enabledRules c).length := by rwa [enabledRules_length T]
  have get {j : Nat} (hj : j < c.ruleCount) (inside : j < (enabledRules c).length) :
      (enabledRules c)[j] = rule j :=
    Option.some.inj ((List.getElem?_eq_getElem inside).symm.trans (enabledRules_get T hj))
  refine ⟨inside, by rw [get hi]; simp [owner], fun j ji => ?_⟩
  have := alone i j hi ji
  rw [get (by omega)]
  simpa [← owner] using this

/-- R4: the five checks in their order. -/
theorem tableFaultRule : TableFaultRule := by
  intro c rule n T
  refine ⟨fun i h1 hi falls before => ?_, fun rises => ⟨fun last => ?_, fun last => ⟨?_, ?_⟩⟩⟩
  · simp only [tableFault, fallingLimit_some T h1 hi falls before]
  all_goals
    have first := (fallingLimit_none T).mpr rises
    have lastRule : c.ruleCount - 1 < c.ruleCount := by
      have := T.1
      omega
  · simp only [tableFault, first, limitOf_enabled T lastRule, sourceLines_eq]
    rw [if_pos last]
  · intro i hi narrow before
    simp only [tableFault, first, limitOf_enabled T lastRule, sourceLines_eq,
      narrowRule_some T hi rises narrow before]
    rw [if_neg (not_not.mpr last)]
  · intro wide
    have third := (narrowRule_none T rises).mpr wide
    refine ⟨fun i k hi ki same before => ?_, fun alone => ⟨fun none => ?_, fun ⟨i, hi, owner⟩ => ?_⟩⟩
    · simp only [tableFault, first, limitOf_enabled T lastRule, sourceLines_eq, third,
        repeatedOwner_some T hi ki same before]
      rw [if_neg (not_not.mpr last)]
    · simp only [tableFault, first, limitOf_enabled T lastRule, sourceLines_eq, third,
        (repeatedOwner_none T).mpr alone, (ownRule_none T n).mpr none]
      rw [if_neg (not_not.mpr last)]
    · simp only [tableFault, first, limitOf_enabled T lastRule, sourceLines_eq, third,
        (repeatedOwner_none T).mpr alone, ownRule_some T hi owner alone]
      rw [if_neg (not_not.mpr last)]

/-- R4: what a table without a fault is. -/
theorem tableFault_none (T : TableOf c rule) {n : Station} (h : tableFault c n = none) :
    (∀ j, 1 ≤ j → j < c.ruleCount → (rule (j - 1)).limit < (rule j).limit) ∧
      (rule (c.ruleCount - 1)).limit = sourceLines c ∧
      (∀ j, j < c.ruleCount → lowerLimit rule j + 8 ≤ (rule j).limit) ∧
      ∀ j l, j < c.ruleCount → l < j → (rule l).owner ≠ (rule j).owner := by
  have lastRule : c.ruleCount - 1 < c.ruleCount := by
    have := T.1
    omega
  unfold tableFault at h
  dsimp only at h
  split at h
  case h_1 => cases h
  case h_2 first =>
    have rises := (fallingLimit_none T).mp first
    split at h
    case isTrue => cases h
    case isFalse last =>
      split at h
      case h_1 => cases h
      case h_2 third =>
        split at h
        case h_1 => cases h
        case h_2 fourth =>
          refine ⟨rises, ?_, (narrowRule_none T rises).mp third, (repeatedOwner_none T).mp fourth⟩
          rw [limitOf_enabled T lastRule] at last
          exact not_not.mp last

theorem limit_le_last
    (rises : ∀ j, 1 ≤ j → j < c.ruleCount → (rule (j - 1)).limit < (rule j).limit)
    (hi : i < c.ruleCount) : (rule i).limit ≤ (rule (c.ruleCount - 1)).limit := by
  have climb (k : Nat) (hk : i + k < c.ruleCount) : (rule i).limit ≤ (rule (i + k)).limit := by
    induction k with
    | zero => exact Nat.le_refl _
    | succ k ih => exact (ih (by omega)).trans (rises (i + (k + 1)) (by omega) hk).le
  have := climb (c.ruleCount - 1 - i) (by omega)
  rwa [show i + (c.ruleCount - 1 - i) = c.ruleCount - 1 by omega] at this

end Table

/-! ## Rows (R8) -/

/-- R8: a row's source position lies at or past frame line a exactly from ceil(a·O/S) on. -/
theorem ceilDiv_le_iff {a r rows lines : Nat} (hl : 0 < lines) (hr : 0 < rows) :
    (a * rows + lines - 1) / lines ≤ r ↔ a ≤ r * lines / rows := by
  rw [Nat.le_div_iff_mul_le hr, Nat.div_le_iff_le_mul_add_pred hl]
  rw [Nat.mul_comm lines r]
  omega

theorem ceilDiv_mono {a b rows lines : Nat} (h : a ≤ b) :
    ceilDiv (a * rows) lines ≤ ceilDiv (b * rows) lines := by
  have := Nat.mul_le_mul_right rows h
  exact Nat.div_le_div_right (by omega)

/-! ## Field lines (R7) -/

theorem topRun_some {low high first last l : Nat} (h : topRun low high = some (first, last)) :
    (first ≤ l ∧ l ≤ last) ↔ (low ≤ 2 * l ∧ 2 * l < high) := by
  unfold topRun at h
  split at h
  · simp only [Option.some.injEq, Prod.mk.injEq] at h
    omega
  · cases h

theorem bottomRun_some {low high first last l : Nat} (h : bottomRun low high = some (first, last)) :
    (first ≤ l ∧ l ≤ last) ↔ (low ≤ 2 * l + 1 ∧ 2 * l + 1 < high) := by
  unfold bottomRun at h
  split at h
  · simp only [Option.some.injEq, Prod.mk.injEq] at h
    omega
  · cases h

theorem runs_of_window {low high : Nat} (h : low + 2 ≤ high) :
    topRun low high ≠ none ∧ bottomRun low high ≠ none := by
  constructor
  · rw [topRun, if_pos (by omega)]
    exact Option.some_ne_none _
  · rw [bottomRun, if_pos (by omega)]
    exact Option.some_ne_none _

theorem runs_empty (low : Nat) : topRun low low = none ∧ bottomRun low low = none :=
  ⟨if_neg (Nat.lt_irrefl _), if_neg (Nat.lt_irrefl _)⟩

/-! ## The derived record (R5 to R10) -/

theorem lineCounts_pos (c : ConfigItems) : 0 < sourceLines c ∧ 0 < outputRows c := by
  constructor
  · rw [sourceLines]; split <;> omega
  · rw [outputRows]; split <;> omega

theorem deriveOwnership_rows (c : ConfigItems) (n : Station) {i : Nat} {own : BandRule}
    (hi : ownRule (enabledRules c) n = some i) (get : (enabledRules c)[i]? = some own) :
    let o := deriveOwnership c n
    o.rule = some (i, own.kind) ∧ o.coreLow = lowerEnd (enabledRules c) i ∧ o.coreHigh = own.limit ∧
      o.firstRow = ceilDiv (o.coreLow * outputRows c) (sourceLines c) ∧
      o.rowCount = ceilDiv (o.coreHigh * outputRows c) (sourceLines c) - o.firstRow := by
  simp only [deriveOwnership, hi, get, and_self]

/-- R10: the seam above rule i. -/
def seamAbove (rules : List BandRule) : Nat → Seam
  | 0 => .pictureEdge
  | j + 1 => seamToward rules[j]?

theorem deriveOwnership_full (c : ConfigItems) (n : Station) {i : Nat} {own : BandRule}
    (hi : ownRule (enabledRules c) n = some i) (get : (enabledRules c)[i]? = some own)
    (full : own.kind = .full) :
    let o := deriveOwnership c n
    o.windowLow = lowerEnd (enabledRules c) i - 2 ∧
      o.windowHigh = min (own.limit + 2) (sourceLines c) ∧
      o.topLines = topRun o.windowLow o.windowHigh ∧
      o.bottomLines = bottomRun o.windowLow o.windowHigh ∧
      o.upper = seamAbove (enabledRules c) i ∧ o.lower = seamToward (enabledRules c)[i + 1]? := by
  simp only [deriveOwnership, hi, get, full, beq_self_eq_true, if_true, true_and, and_true]
  cases i <;> rfl

theorem deriveOwnership_fill (c : ConfigItems) (n : Station) {i : Nat} {own : BandRule}
    (hi : ownRule (enabledRules c) n = some i) (get : (enabledRules c)[i]? = some own)
    (fill : own.kind = .fill) :
    let o := deriveOwnership c n
    o.windowLow = o.coreLow ∧ o.windowHigh = o.coreLow ∧ o.topLines = none ∧ o.bottomLines = none ∧
      o.upper = .none ∧ o.lower = .none := by
  have notFull : (own.kind == BandKind.full) = false := by rw [fill]; rfl
  simp only [deriveOwnership, hi, get, notFull, Bool.false_eq_true, if_false, runs_empty, and_self]

theorem seamToward_rule (r : BandRule) :
    (r.kind = .fill → seamToward (some r) = .fillSeam) ∧
      (r.kind = .full → seamToward (some r) = .peer r.owner) := by
  constructor <;> intro kind <;> simp [seamToward, kind]

/-- A row of a band within the picture is a row of the picture. -/
theorem row_lt_of_position {r high rows lines : Nat} (hr : 0 < rows) (within : high ≤ lines)
    (h : r * lines / rows < high) : r < rows := by
  have below : r * lines < high * rows := (Nat.div_lt_iff_lt_mul hr).mp h
  have most : high * rows ≤ lines * rows := Nat.mul_le_mul_right rows within
  rw [Nat.mul_comm lines rows] at most
  exact Nat.lt_of_mul_lt_mul_right (below.trans_le most)

theorem ownershipRule : OwnershipRule := by
  rintro c rule n i lines rows o T noFault hi owner rfl rfl rfl
  obtain ⟨rises, last, wide, alone⟩ := tableFault_none T noFault
  have mine := ownRule_some T hi owner alone
  have get := enabledRules_get T hi
  have width := wide i hi
  have within : (rule i).limit ≤ sourceLines c := last ▸ limit_le_last rises hi
  obtain ⟨posLines, posRows⟩ := lineCounts_pos c
  obtain ⟨kind, low, high, first, count⟩ := deriveOwnership_rows c n mine get
  rw [lowerEnd_enabled T hi.le] at low
  have rowsEnd : (deriveOwnership c n).firstRow + (deriveOwnership c n).rowCount =
      ceilDiv ((deriveOwnership c n).coreHigh * outputRows c) (sourceLines c) := by
    rw [count, first]
    exact Nat.add_sub_cancel' (ceilDiv_mono (by omega))
  refine ⟨kind, low, high, first, rowsEnd, fun r => ?_, fun full => ?_, fun fill => ?_⟩
  · have start := ceilDiv_le_iff (a := (deriveOwnership c n).coreLow) (r := r) posLines posRows
    have stop := ceilDiv_le_iff (a := (deriveOwnership c n).coreHigh) (r := r) posLines posRows
    rw [rowsEnd, first]
    change _ ∧ r < (_ * outputRows c + sourceLines c - 1) / sourceLines c ↔ _
    rw [ceilDiv, start, ← not_le, stop, not_le]
    refine ⟨fun ⟨above, below⟩ => ⟨?_, above, below⟩, fun ⟨_, above, below⟩ => ⟨above, below⟩⟩
    exact row_lt_of_position posRows (high ▸ within) below
  · obtain ⟨windowLow, windowHigh, top, bottom, upper, lower⟩ := deriveOwnership_full c n mine get full
    rw [lowerEnd_enabled T hi.le] at windowLow
    obtain ⟨topSome, bottomSome⟩ := runs_of_window
      (low := (deriveOwnership c n).windowLow) (high := (deriveOwnership c n).windowHigh) (by omega)
    refine ⟨?_, ?_, top ▸ topSome, bottom ▸ bottomSome,
      fun a b l h => topRun_some (top ▸ h), fun a b l h => bottomRun_some (bottom ▸ h), ?_, ?_, ?_,
      ?_, ?_, ?_⟩
    · rw [windowLow, low]
      split <;> omega
    · rw [windowHigh, high, ← sourceLines_eq]
      split <;> omega
    · rintro rfl
      exact upper
    · intro h1 fill
      obtain ⟨j, rfl⟩ : ∃ j, i = j + 1 := ⟨i - 1, by omega⟩
      rw [upper, seamAbove, enabledRules_get T (by omega)]
      exact (seamToward_rule _).1 fill
    · intro h1 full'
      obtain ⟨j, rfl⟩ : ∃ j, i = j + 1 := ⟨i - 1, by omega⟩
      rw [upper, seamAbove, enabledRules_get T (by omega)]
      exact (seamToward_rule _).2 full'
    · intro lastRule
      rw [lower, lastRule, enabledRules_end T]
      rfl
    · intro inside fill
      rw [lower, enabledRules_get T inside]
      exact (seamToward_rule _).1 fill
    · intro inside full'
      rw [lower, enabledRules_get T inside]
      exact (seamToward_rule _).2 full'
  · exact deriveOwnership_fill c n mine get fill

/-! ## The configuration words (R210) -/

theorem foldl_words_toNat (ws : List Word16) (d : Digest) :
    (ws.foldl (fun d w => d * 31 + w) d).toNat =
      ws.foldl (fun value word => (value * 31 + word.toNat) % 65536) d.toNat := by
  induction ws generalizing d with
  | nil => rfl
  | cons w ws ih =>
    rw [List.foldl_cons, List.foldl_cons, ih]
    congr 1
    rw [BitVec.toNat_add, BitVec.toNat_mul]
    simp

theorem digestRule : DigestRule := by
  intro c
  refine ⟨?_, foldl_words_toNat _ _⟩
  have kind (k : BandKind) : kindCode k = if k = .full then 0 else 1 := by cases k <;> rfl
  simp [configWords, enabledRules, List.flatMap_def, kind]

/-! ## START (R212) -/

theorem freeUnheld_slots (s : State) :
    (freeUnheld s).fs.slots = s.fs.slots.map fun sl => if sl.holders = [] then Slot.free else sl := by
  simp [freeUnheld]

theorem startAction_refused {s : State} (h : s.cu.membership ≠ .offline)
    (h' : s.cu.membership ≠ .stopped) : startAction s = refuse .refusedState s :=
  if_neg (by simp [h, h'])

theorem startAction_fault {s : State} (h : s.cu.membership = .offline ∨ s.cu.membership = .stopped)
    {f : Nat × Nat} (hf : tableFault s.cp.config s.cp.station = some f) :
    startAction s = { code := .badTable, value := faultValue f, state := s } := by
  rw [startAction, if_pos h, hf]

theorem startAction_tested {s : State} (h : s.cu.membership = .offline ∨ s.cu.membership = .stopped)
    (hf : tableFault s.cp.config s.cp.station = none) :
    startAction s =
      if s.sc.bankA.state = .ready then accept (startStation s) else refuse .noCoefficients s := by
  rw [startAction, if_pos h, hf]
  simp only [bankReady, bankOf, beq_iff_eq]

/-- R212: the acts of an accepted START, block by block. -/
theorem startStation_eq (s : State) :
    startStation s =
      { s with
        fs :=
          { s.fs with
            slots := s.fs.slots.map fun sl => if sl.holders = [] then Slot.free else sl }
        cu :=
          { s.cu with
            membership := .listening, heard := [], foundingBar := false, listenCount := 0
            snapshotWait := 0, isolationWait := 0, leaveOwed := false }
        pli := { s.pli with idleMonitor := true }
        lb :=
          { s.lb with
            newestBegun := none, lastEnded := none, lastBegun := none
            lastRequested := none }
        cp :=
          { s.cp with
            lock := true
            digest := configDigest s.cp.config
            ownership := deriveOwnership s.cp.config s.cp.station } } := by
  simp only [startStation, enterListening, freeUnheld, State.setCp, State.setCu, State.setPli,
    State.setSlots, State.setFs, State.setLb, List.isEmpty_iff]

theorem startStation_shiftOut (s : State) : startStation (shiftOut s) = shiftOut (startStation s) := by
  rw [startStation_eq, startStation_eq]
  rfl

/-- Settles O8: the rules START rests on, and its tests in order. -/
theorem startTestsAndActs : Obligations.StartTestsAndActs := by
  refine ⟨tableFaultRule, ownershipRule, digestRule, fun s v h => ?_⟩
  by_cases resting : s.cu.membership = .offline ∨ s.cu.membership = .stopped
  · cases hf : tableFault s.cp.config s.cp.station with
    | some f =>
      have reply := startAction_fault (s := shiftOut s) resting hf
      refine ⟨action 0x100 startAction s, .badTable, faultValue f, live_next_of_pending h ?_, ?_, ?_,
        fun _ => ⟨fun i k fault => ?_, nofun, nofun⟩⟩
      · rw [action, transact_pending, reply]
        rfl
      · rw [action, transact, reply]
        rfl
      · intro off stopped
        exact absurd resting (by simp [off, stopped])
      · obtain rfl := Option.some.inj fault
        refine ⟨rfl, rfl, ?_⟩
        rw [action, transact, reply]
        rfl
    | none =>
      have reply := startAction_tested (s := shiftOut s) resting hf
      by_cases ready : s.sc.bankA.state = .ready
      · rw [if_pos (show (shiftOut s).sc.bankA.state = .ready from ready), startStation_shiftOut] at reply
        obtain ⟨t, next, answer, rest⟩ := live_action_accept (item := 0x100) h reply (by simp)
        refine ⟨t, _, _, next, answer, fun off stopped => absurd resting (by simp [off, stopped]),
          fun _ => ⟨nofun, fun _ no => absurd ready no, fun _ _ => ⟨rfl, rfl, ?_⟩⟩⟩
        rwa [startStation_eq] at rest
      · rw [if_neg (show (shiftOut s).sc.bankA.state ≠ .ready from ready)] at reply
        obtain ⟨t, next, answer, rest⟩ := live_action_refuse (item := 0x100) h reply
        exact ⟨t, _, _, next, answer, fun off stopped => absurd resting (by simp [off, stopped]),
          fun _ => ⟨nofun, fun _ _ => ⟨rfl, rfl, rest⟩, fun _ yes => absurd yes ready⟩⟩
  · obtain ⟨off, stopped⟩ := not_or.mp resting
    obtain ⟨t, next, answer, rest⟩ := live_action_refuse (item := 0x100) h
      (startAction_refused (s := shiftOut s) off stopped)
    exact ⟨t, _, _, next, answer, fun _ _ => ⟨rfl, rfl, rest⟩, (absurd · resting)⟩

end Sys2Proof.Machine
end

section
/-! SUPPORT. Leaving MEMBER and leaving the line (chapters 3, 4 and 8): the reset of a direction, its
order on the two sides, and the parts of LEAVING, ISOLATED and STOPPED; STOP, and the detach and
isolation reports. -/

namespace Sys2Proof.Machine

/-! ## Both sides, in either order -/

/-- An act on both sides is one after the other, whatever the free order draws. -/
theorem onBothSides_cases (act : State → Side → State) (s : State) :
    ∃ u, (u = s ∨ u = s.drawn) ∧
      (onBothSides act s = act (act u .upper) .lower ∨
        onBothSides act s = act (act u .lower) .upper) := by
  refine ⟨if sideUnresolved s .upper && sideUnresolved s .lower then s.drawn else s, ?_, ?_⟩
  · split
    · exact .inr rfl
    · exact .inl rfl
  · unfold onBothSides sideOrder
    split
    · exact .inr rfl
    · exact .inl rfl

/-! ## One side's records (R150, R162) -/

@[simp] theorem dirOf_setDir_same (s : State) (side : Side) (d : Direction) :
    dirOf (s.setDir side d) side = d := by
  cases side <;> rfl

theorem dirOf_setDir_other {side other : Side} (h : other ≠ side) (s : State) (d : Direction) :
    dirOf (s.setDir side d) other = dirOf s other := by
  cases side <;> cases other <;> simp [dirOf, State.setDir] at h ⊢

@[simp] theorem sideRecord_setDir (s : State) (side other : Side) (d : Direction) :
    sideRecord (s.setDir side d) other = sideRecord s other := by
  cases side <;> cases other <;> rfl

@[simp] theorem sideRecord_setSide_same (s : State) (side : Side) (r : Option SideRecord) :
    sideRecord (s.setSide side r) side = r := by
  cases side <;> rfl

theorem sideRecord_setSide_other {side other : Side} (h : other ≠ side) (s : State)
    (r : Option SideRecord) : sideRecord (s.setSide side r) other = sideRecord s other := by
  cases side <;> cases other <;> simp [sideRecord, State.setSide] at h ⊢

theorem dirOf_of_hx {s t : State} (h : t.hx = s.hx) (side : Side) : dirOf t side = dirOf s side := by
  cases side <;> simp [dirOf, h]

theorem sideRecord_of_hx {s t : State} (h : t.hx = s.hx) (side : Side) :
    sideRecord t side = sideRecord s side := by
  cases side <;> simp [sideRecord, h]

theorem neighbourOf_of_cp {s t : State} (h : t.cp.ownership = s.cp.ownership) (side : Side) :
    neighbourOf t side = neighbourOf s side := by
  simp [neighbourOf, h]

@[simp] theorem toldResolved_hx (side : Side) (s : State) : (toldResolved side s).hx = s.hx := by simp

@[simp] theorem dirOf_resolveSide (side other : Side) (lines : List HaloLine) (s : State) :
    dirOf (resolveSide side lines s) other = dirOf s other := by
  cases other <;> simp [dirOf]

@[simp] theorem sideRecord_resolveSide_same (side : Side) (lines : List HaloLine) (s : State) :
    sideRecord (resolveSide side lines s) side = some { lines := some lines } := by
  rw [resolveSide, sideRecord_of_hx (toldResolved_hx side _), sideRecord_setSide_same]

theorem sideRecord_resolveSide_other {side other : Side} (h : other ≠ side) (lines : List HaloLine)
    (s : State) : sideRecord (resolveSide side lines s) other = sideRecord s other := by
  rw [resolveSide, sideRecord_of_hx (toldResolved_hx side _), sideRecord_setSide_other h]

/-- One side's direction record and side record stand. -/
def SideSame (s t : State) (side : Side) : Prop :=
  dirOf t side = dirOf s side ∧ sideRecord t side = sideRecord s side

theorem sideSame_of_hx {s t : State} (h : t.hx = s.hx) (side : Side) : SideSame s t side :=
  ⟨dirOf_of_hx h side, sideRecord_of_hx h side⟩

theorem SideSame.unresolved {s t : State} {side : Side} (h : SideSame s t side) :
    sideUnresolved t side = sideUnresolved s side := by
  simp [sideUnresolved, h.2]

/-- R165: one side after a reset of its direction. -/
def SideReset (s t : State) (side : Side) : Prop :=
  (neighbourOf s side = none → SideSame s t side) ∧
    (neighbourOf s side ≠ none →
      AtRest (sideSize side) (dirOf s side) (dirOf t side) ∧
        (sideUnresolved s side = true →
          sideRecord t side = some { lines := some (clampedLines side) }) ∧
        (sideUnresolved s side = false → sideRecord t side = sideRecord s side))

theorem sideReset_congr {s u v t : State} {side : Side} (h : SideReset u v side)
    (before : SideSame s u side) (own : u.cp.ownership = s.cp.ownership)
    (after : SideSame v t side) : SideReset s t side := by
  unfold SideReset at h ⊢
  rw [neighbourOf_of_cp own, before.unresolved, before.1] at h
  obtain ⟨none_, some_⟩ := h
  unfold SideSame at none_ ⊢
  rw [before.1, before.2] at none_
  rw [before.2] at some_
  rw [after.1, after.2]
  exact ⟨none_, some_⟩

/-! ## The reset of a direction (R165) -/

theorem withdrawnBulk_none (p : LineInterface) (hit : HaloParcel → Bool) (h : ∀ x, hit x = false) :
    withdrawnBulk hit p = p := by
  have keepsAll (l : List HaloParcel) : l.filter (fun x => !hit x) = l := by
    simp [h]
  unfold withdrawnBulk
  split
  · rfl
  · rename_i q rest eq
    simp [h, ← eq]

/-- A set of this station's is addressed to the side's neighbour. -/
def sentTo (s : State) (side : Side) (p : HaloParcel) : Bool := neighbourOf s side == some p.addressee

theorem resetDirection_none {s : State} {side : Side} (h : neighbourOf s side = none) :
    resetDirection s side = s := by
  simp [resetDirection, h]

theorem resetDirection_some {s : State} {side : Side} {n : Station} (h : neighbourOf s side = some n) :
    resetDirection s side =
      if sideUnresolved s side then
        resolveSide side (clampedLines side)
          (withdrawBulk (sentTo s side) (s.setDir side (clearedDirection side (dirOf s side))))
      else withdrawBulk (sentTo s side) (s.setDir side (clearedDirection side (dirOf s side))) := by
  have hits : (fun p : HaloParcel => p.addressee == n) = sentTo s side := by
    funext p
    simp only [sentTo, h]
    exact BEq.comm
  unfold resetDirection
  simp only [h, hits]
  have same : sideUnresolved (withdrawBulk (sentTo s side)
      (s.setDir side (clearedDirection side (dirOf s side)))) side = sideUnresolved s side := by
    simp only [sideUnresolved, withdrawBulk, sideRecord_of_hx (State.setPli_hx _ _), sideRecord_setDir]
  rw [same]

theorem resetDirection_pli (s : State) (side : Side) :
    (resetDirection s side).pli = withdrawnBulk (sentTo s side) s.pli := by
  cases h : neighbourOf s side with
  | none => rw [resetDirection_none h, withdrawnBulk_none _ _ (by simp [sentTo, h])]
  | some n =>
    rw [resetDirection_some h]
    split <;> simp [withdrawBulk]

theorem resetDirection_own (s : State) (side : Side) : SideReset s (resetDirection s side) side := by
  cases h : neighbourOf s side with
  | none => exact ⟨fun _ => by rw [resetDirection_none h]; exact ⟨rfl, rfl⟩, fun k => absurd h k⟩
  | some n =>
    refine ⟨fun k => by simp [h] at k, fun _ => ?_⟩
    have dir : AtRest (sideSize side) (dirOf s side) (dirOf
        (withdrawBulk (sentTo s side) (s.setDir side (clearedDirection side (dirOf s side)))) side) := by
      rw [withdrawBulk, dirOf_of_hx (State.setPli_hx _ _), dirOf_setDir_same]
      rfl
    rw [resetDirection_some h]
    split
    · next un => exact ⟨by rw [dirOf_resolveSide]; exact dir, fun _ => sideRecord_resolveSide_same .., by simp [un]⟩
    · next un =>
      exact ⟨dir, fun k => absurd k un, fun _ => by
        rw [withdrawBulk, sideRecord_of_hx (State.setPli_hx _ _), sideRecord_setDir]⟩

theorem resetDirection_other {side other : Side} (h : other ≠ side) (s : State) :
    SideSame s (resetDirection s side) other := by
  cases k : neighbourOf s side with
  | none => rw [resetDirection_none k]; exact ⟨rfl, rfl⟩
  | some n =>
    have cleared : SideSame s (withdrawBulk (sentTo s side)
        (s.setDir side (clearedDirection side (dirOf s side)))) other :=
      ⟨by rw [withdrawBulk, dirOf_of_hx (State.setPli_hx _ _), dirOf_setDir_other h],
        by rw [withdrawBulk, sideRecord_of_hx (State.setPli_hx _ _), sideRecord_setDir]⟩
    rw [resetDirection_some k]
    split
    · exact ⟨(dirOf_resolveSide ..).trans cleared.1, (sideRecord_resolveSide_other h ..).trans cleared.2⟩
    · exact cleared

theorem resetDirections_side (s : State) (side : Side) : SideReset s (resetDirections s) side := by
  obtain ⟨u, start, done⟩ := onBothSides_cases resetDirection s
  have first : SideSame s u side := by
    obtain rfl | rfl := start
    · exact ⟨rfl, rfl⟩
    · exact sideSame_of_hx rfl side
  have own : u.cp.ownership = s.cp.ownership := by
    obtain rfl | rfl := start <;> rfl
  have last (v : State) (a : Side) : SideReset v (resetDirection v a) a := resetDirection_own v a
  unfold resetDirections
  obtain done | done := done <;> rw [done]
  · cases side with
    | upper => exact sideReset_congr (last u _) first own (resetDirection_other (by decide) _)
    | lower =>
      have mid := resetDirection_other (side := .upper) (other := .lower) (by decide) u
      exact sideReset_congr (last _ _) ⟨mid.1.trans first.1, mid.2.trans first.2⟩ (by simp [own])
        ⟨rfl, rfl⟩
  · cases side with
    | lower => exact sideReset_congr (last u _) first own (resetDirection_other (by decide) _)
    | upper =>
      have mid := resetDirection_other (side := .lower) (other := .upper) (by decide) u
      exact sideReset_congr (last _ _) ⟨mid.1.trans first.1, mid.2.trans first.2⟩ (by simp [own])
        ⟨rfl, rfl⟩

/-! ## What a reset takes from the Bulk Queue (R56, R165) -/

/-- With no set of its own on the line a withdrawal leaves the sets it does not name. -/
theorem withdrawnBulk_unsent {p : LineInterface} (h : bulkOnLine p = false)
    (hit : HaloParcel → Bool) :
    (withdrawnBulk hit p).tx = p.tx ∧ (withdrawnBulk hit p).bulk = p.bulk.filter fun x => !hit x := by
  unfold withdrawnBulk
  split
  case h_1 none_ => simp [none_]
  case h_2 q rest eq =>
    simp only [h, Bool.false_eq_true, if_false]
    split
    case isTrue yes => simp [eq, yes]
    case isFalse no => simp [eq, no]

/-- A HALO is addressed to neither neighbour. -/
def toNeither (s : State) (p : HaloParcel) : Bool :=
  !sentTo s .upper p && !sentTo s .lower p

theorem sentTo_of_cp {s t : State} (h : t.cp.ownership = s.cp.ownership) (side : Side) :
    sentTo t side = sentTo s side := by
  funext p
  simp [sentTo, neighbourOf_of_cp h]

theorem resetDirections_bulk {s : State} (h : bulkOnLine s.pli = false) :
    (resetDirections s).pli.tx = s.pli.tx ∧
      (resetDirections s).pli.bulk = s.pli.bulk.filter (toNeither s) := by
  obtain ⟨u, start, done⟩ := onBothSides_cases resetDirection s
  have pli : u.pli = s.pli := by obtain rfl | rfl := start <;> rfl
  have own : u.cp.ownership = s.cp.ownership := by obtain rfl | rfl := start <;> rfl
  have first (side : Side) := withdrawnBulk_unsent h (sentTo s side)
  have still (side : Side) : bulkOnLine (withdrawnBulk (sentTo s side) s.pli) = false := by
    rw [bulkOnLine, (first side).1]
    exact h
  have second (a b : Side) := withdrawnBulk_unsent (still a) (sentTo s b)
  have twice (a b : Side) : (resetDirection (resetDirection u a) b).pli =
      withdrawnBulk (sentTo s b) (withdrawnBulk (sentTo s a) s.pli) := by
    rw [resetDirection_pli, resetDirection_pli, pli, sentTo_of_cp own,
      sentTo_of_cp (s := s) (t := resetDirection u a) (by simp [own])]
  unfold resetDirections
  obtain done | done := done <;> rw [done, twice, (second _ _).1, (second _ _).2, (first _).1,
    (first _).2, List.filter_filter]
  · refine ⟨rfl, List.filter_congr fun x _ => ?_⟩
    rw [toNeither, Bool.and_comm]
  · exact ⟨rfl, rfl⟩

end Sys2Proof.Machine
end

section
/-! SUPPORT. Entry to STOPPED, ISOLATED and LEAVING, by parts (R57, R59, R79, R81, R82), and the three
ways to them that no take brings: STOP, a detach report, an isolation notice. -/

namespace Sys2Proof.Machine

/-! ## A flushed line (R57) -/

/-- R57: no parcel stands in a queue but one in transmission, marked as flushed. -/
def Flushed (p : LineInterface) : Prop :=
  (p.tx = none → p.urgent = [] ∧ p.bulk = []) ∧
    ∀ x, p.tx = some x →
      x.mark = some .flushed ∧
        (x.bulk = true → p.urgent = [] ∧ p.bulk.length ≤ 1) ∧
        (x.bulk = false → p.bulk = [] ∧ p.urgent.length ≤ 1)

theorem flush_flushed (s : State) : Flushed (flush s).pli := by
  cases tx : s.pli.tx with
  | none => simp [Flushed, flush, markFlushed, urgentOnLine, bulkOnLine, tx]
  | some t =>
    cases hb : t.bulk <;>
      simp [Flushed, flush, markFlushed, urgentOnLine, bulkOnLine, tx, hb]

/-- R58: the marked parcel of a flushed line goes when it is cut short, and with it the last of both
queues. -/
theorem cutShort_flushed {s : State} (h : Flushed s.pli) :
    (cutShort s).pli.urgent = [] ∧ (cutShort s).pli.bulk = [] ∧ (cutShort s).hx = s.hx := by
  obtain ⟨idle, sent⟩ := h
  cases tx : s.pli.tx with
  | none =>
    obtain ⟨urgent, bulk⟩ := idle tx
    simp [cutShort, tx, urgent, bulk]
  | some x =>
    obtain ⟨mark, ofBulk, ofUrgent⟩ := sent x tx
    have removed : cutShort s = s.setPli (dropSent x s.pli) := by simp [cutShort, tx, mark, removeMarked]
    rw [removed]
    cases hb : x.bulk with
    | true =>
      obtain ⟨urgent, one⟩ := ofBulk hb
      have last : s.pli.bulk.tail = [] := List.length_eq_zero_iff.mp (by simp; omega)
      simp [dropSent, hb, urgent, last]
    | false =>
      obtain ⟨bulk, one⟩ := ofUrgent hb
      have last : s.pli.urgent.tail = [] := List.length_eq_zero_iff.mp (by simp; omega)
      simp [dropSent, hb, bulk, last]

theorem flush_counts (s : State) :
    (flush s).pli.urgentAttempts = 0 ∧ (flush s).pli.bulkAttempts = 0 ∧
      (flush s).pli.urgentDiscards = 0 :=
  ⟨rfl, rfl, rfl⟩

/-! ## The set counts of a direction (R166) -/

/-- R166: the three counts that a reset keeps. -/
def setCounts (d : Direction) : Word32 × Word32 × Word32 := (d.setsSent, d.setsSuperseded, d.setsLost)

theorem setCounts_onlySlots {d d' : Direction} (h : OnlySlots d d') : setCounts d' = setCounts d := by
  rw [OnlySlots] at h
  rw [h]
  rfl

theorem atRest_of_counts (side : Side) {d u : Direction} (h : setCounts u = setCounts d) :
    AtRest (sideSize side) d (clearedDirection side u) := by
  simp only [setCounts, Prod.mk.injEq] at h
  obtain ⟨sent, superseded, lost⟩ := h
  simp only [AtRest, clearedDirection, sent, superseded, lost]
  rfl

theorem returnCounts_setCounts (q : Queued) (s : State) (side : Side) :
    setCounts (dirOf (returnCounts q s) side) = setCounts (dirOf s side) := by
  cases q <;> cases side <;> rfl

theorem removeMarked_setCounts (t : Transmission) (cause : MarkCause) (s : State) (side : Side) :
    setCounts (dirOf (removeMarked t cause s) side) = setCounts (dirOf s side) := by
  have removed : dirOf (s.setPli (dropSent t s.pli)) side = dirOf s side := dirOf_of_hx rfl side
  unfold removeMarked
  split
  · rw [removed]
  · split
    · rw [removed]
    · split
      · rw [removed]
      · rw [returnCounts_setCounts, removed]

theorem cutShort_setCounts (s : State) (side : Side) :
    setCounts (dirOf (cutShort s) side) = setCounts (dirOf s side) := by
  unfold cutShort
  split
  · rfl
  · split
    · exact removeMarked_setCounts ..
    · exact congrArg setCounts (dirOf_of_hx rfl side)

theorem endHalo_setCounts (s : State) (side : Side) :
    setCounts (dirOf (endHalo s) side) = setCounts (dirOf s side) := by
  cases side <;> exact setCounts_onlySlots (releaseSlots_does _ _).1

theorem abandonBuild_setCounts (n : FieldNo) (s : State) (side : Side) :
    setCounts (dirOf (abandonBuild n s) side) = setCounts (dirOf s side) := by
  rw [abandonBuild, endHalo_setCounts, dirOf_of_hx]
  simp

theorem stopBuilder_setCounts (s : State) (side : Side) :
    setCounts (dirOf (stopBuilder s) side) = setCounts (dirOf s side) := by
  have ended (t : State) : dirOf (t.setLb { t.lb with frames := [], decisions := [] }) side =
      dirOf t side := dirOf_of_hx rfl side
  unfold stopBuilder
  rw [ended]
  split
  · rfl
  · exact abandonBuild_setCounts ..

/-! ## Entry to STOPPED (R81) -/

theorem stopBuilder_parts (s : State) :
    (stopBuilder s).lb.build = none ∧ (stopBuilder s).lb.frames = [] ∧
      (stopBuilder s).lb.decisions = [] ∧
      (s.lb.build ≠ none ∨ s.sc.scaling = none → (stopBuilder s).sc.scaling = none) ∧
      (s.lb.build ≠ none →
        (stopBuilder s).hx.upperSide = none ∧ (stopBuilder s).hx.lowerSide = none ∧
          (stopBuilder s).hx.timer = false) := by
  unfold stopBuilder
  cases hb : s.lb.build with
  | none => simp [hb]
  | some b => exact ⟨rfl, rfl, rfl, fun _ => rfl, fun _ => ⟨rfl, rfl, rfl⟩⟩

theorem dropOpenField_marker (s : State) : (dropOpenField s).li.marker = none := by
  unfold dropOpenField
  dsimp only
  split
  · rfl
  · split
    · rfl
    · simp

/-- R81, R147, R166, R176, R202: `t` is `s` as entry to STOPPED leaves it. -/
structure Stopped (s t : State) : Prop where
  membership : t.cu.membership = .stopped
  attached : t.pli.attached = false
  sends : t.pli.tx = none
  idleMonitor : t.pli.idleMonitor = false
  marker : t.li.marker = none
  build : t.lb.build = none
  frames : t.lb.frames = []
  decisions : t.lb.decisions = []
  scaling : s.lb.build ≠ none ∨ s.sc.scaling = none → t.sc.scaling = none
  rests : ∀ side, AtRest (sideSize side) (dirOf s side) (dirOf t side)
  sides : s.lb.build ≠ none → t.hx.upperSide = none ∧ t.hx.lowerSide = none ∧ t.hx.timer = false
  outgoing : t.sc.outgoing = none
  buffers : t.op.fb0 = none ∧ t.op.fb1 = none ∧ t.op.emission = none

theorem quitMember_other {s : State} (h : s.cu.membership ≠ .member) : quitMember s = s :=
  if_neg h

/-- R81: entry to STOPPED, from what quitting MEMBER leaves. -/
theorem enterStopped_quits (s : State) : Stopped (quitMember s) (enterStopped s) := by
  unfold enterStopped
  obtain ⟨q, hq⟩ : ∃ q, q = quitMember s := ⟨_, rfl⟩
  rw [← hq]
  have line : stopLine (stopConsensus q) = (stopLine q).setCu (stopConsensus q).cu := stopLine_setCu q _
  have counts (side : Side) :
      setCounts (dirOf (stopBuilder (dropOpenField (stopLine (stopConsensus q)))) side) =
        setCounts (dirOf q side) := by
    rw [stopBuilder_setCounts, dirOf_of_hx (s := stopLine (stopConsensus q)) (by simp), line,
      dirOf_of_hx (State.setCu_hx _ _), dirOf_of_hx (s := cutShort q) (t := stopLine q) rfl,
      cutShort_setCounts]
  obtain ⟨build, frames, decisions, scaling, sides⟩ :=
    stopBuilder_parts (dropOpenField (stopLine (stopConsensus q)))
  simp only [dropOpenField_frame, stopLine_frame, stopConsensus_frame] at scaling sides
  refine
    { membership := by simp [stopConsensus], attached := by simp [stopLine]
      sends := ?_, idleMonitor := by simp [stopLine], marker := by simpa using dropOpenField_marker _
      build := by simpa using build, frames := by simpa using frames
      decisions := by simpa using decisions, scaling := fun k => by simpa [dropOutgoing] using scaling k
      rests := fun side => ?_, sides := fun k => by simpa using sides k, outgoing := rfl
      buffers := ⟨by simp [stopOutput], by simp [stopOutput], by simp [stopOutput]⟩ }
  · have none_ : (stopLine (stopConsensus q)).pli.tx = none := detach_tx _
    simpa using none_
  · cases side
    · exact atRest_of_counts .upper (counts .upper)
    · exact atRest_of_counts .lower (counts .lower)

theorem enterStopped_stopped {s : State} (h : s.cu.membership ≠ .member) :
    Stopped s (enterStopped s) := by
  have stopped := enterStopped_quits s
  rwa [quitMember_other h] at stopped

theorem enterStopped_empties {s : State} (flushed : Flushed (quitMember s).pli) :
    (enterStopped s).pli.urgent = [] ∧ (enterStopped s).pli.bulk = [] := by
  have line : stopLine (stopConsensus (quitMember s)) =
      (stopLine (quitMember s)).setCu (stopConsensus (quitMember s)).cu :=
    stopLine_setCu (quitMember s) _
  obtain ⟨urgent, bulk, -⟩ := cutShort_flushed flushed
  unfold enterStopped
  rw [line]
  simp [stopLine, detach, urgent, bulk]

theorem enterStopped_queues {s : State} (h : s.cu.membership ≠ .member) (flushed : Flushed s.pli) :
    (enterStopped s).pli.urgent = [] ∧ (enterStopped s).pli.bulk = [] :=
  enterStopped_empties (by rwa [quitMember_other h])

theorem flushStopped_stopped {s : State} (h : s.cu.membership ≠ .member) :
    Stopped s (flushStopped s) :=
  have stopped := enterStopped_stopped (s := flush s) h
  { stopped with
    rests := fun side => stopped.rests side }

theorem flushStopped_queues {s : State} (h : s.cu.membership ≠ .member) :
    (flushStopped s).pli.urgent = [] ∧ (flushStopped s).pli.bulk = [] :=
  enterStopped_queues (s := flush s) h (flush_flushed s)

/-! ## LEAVING (R79) -/

theorem quitMember_member {s : State} (h : s.cu.membership = .member) :
    quitMember s = resetDirections (cancelTimers s) :=
  if_pos h

theorem sameRound_leave (x : Queued) : sameRound .leave x = false := by cases x <;> rfl

theorem askLeave_full {s : State} (h : 8 ≤ s.pli.urgent.length) : askLeave s = s := by
  rw [askLeave, urgentAnswer_full h]

theorem askLeave_room {s : State} (h : s.pli.urgent.length < 8)
    (queues : refusesQueueing s.cu.membership = false) :
    askLeave s = pushUrgent .leave (s.setCu { s.cu with leaveOwed := false }) := by
  rw [askLeave, urgentAnswer_room h (sameRound_none sameRound_leave _) queues]

/-- R63, R79, R165, R166: `t` is `s` as leaving MEMBER for LEAVING leaves it. -/
structure Left (s t : State) : Prop where
  membership : t.cu.membership = .leaving
  timers : NoTimers t.cu
  queued : s.pli.urgent.length < 8 →
    t.cu.leaveOwed = false ∧ t.pli.urgent = s.pli.urgent ++ [.leave]
  owed : 8 ≤ s.pli.urgent.length → t.cu.leaveOwed = true ∧ t.pli.urgent = s.pli.urgent
  sides : ∀ side, SideReset s t side
  bulk : bulkOnLine s.pli = false →
    t.pli.tx = s.pli.tx ∧ t.pli.bulk = s.pli.bulk.filter (toNeither s)

theorem enterLeaving_left {s : State} (h : s.cu.membership = .member) : Left s (enterLeaving s) := by
  have sides (side : Side) : SideReset s (resetDirections (cancelTimers s)) side :=
    sideReset_congr (resetDirections_side (cancelTimers s) side) ⟨rfl, rfl⟩ rfl ⟨rfl, rfl⟩
  have bulk (unsent : bulkOnLine s.pli = false) :
      (resetDirections (cancelTimers s)).pli.tx = s.pli.tx ∧
        (resetDirections (cancelTimers s)).pli.bulk = s.pli.bulk.filter (toNeither s) :=
    resetDirections_bulk (s := cancelTimers s) unsent
  rw [enterLeaving, quitMember_member h]
  refine
    { membership := by simp, timers := by simp [NoTimers, cancelTimers]
      queued := fun room => ?_, owed := fun full => ?_
      sides := fun side => ?_, bulk := fun unsent => by simpa using bulk unsent }
  · rw [askLeave_room (by simpa using room) (by simp [refusesQueueing])]
    simp [pushUrgent]
  · rw [askLeave_full (by simpa using full)]
    simp
  · have same := sideSame_of_hx (s := resetDirections (cancelTimers s))
      (t := askLeave ((resetDirections (cancelTimers s)).setCu
        { (resetDirections (cancelTimers s)).cu with membership := .leaving, leaveOwed := true }))
      (by simp) side
    exact sideReset_congr (sides side) ⟨rfl, rfl⟩ rfl same

/-! ## STOP (R213) -/

theorem exists_of_transacted {u t : State} (h : Transacted u t) :
    ∃ r d, t = u.setCp { u.cp with result := r, dataOut := d } := ⟨_, _, h⟩

theorem stopAction_refused {s : State}
    (h : s.cu.membership = .offline ∨ s.cu.membership = .stopped ∨ s.cu.membership = .leaving) :
    stopAction s = refuse .refusedState s := by
  obtain h | h | h := h <;> simp [stopAction, h]

theorem stopAction_member {s : State} (h : s.cu.membership = .member) :
    stopAction s = accept (enterLeaving s) := by
  simp [stopAction, stopStation, h]

theorem stopAction_outside {s : State}
    (h : s.cu.membership = .listening ∨ s.cu.membership = .joining ∨ s.cu.membership = .isolated) :
    stopAction s = accept (flushStopped s) := by
  obtain h | h | h := h <;> simp [stopAction, stopStation, h]

/-- What no answer to STOP changes. -/
def StandsAtStop (s t : State) : Prop :=
  t.cu.agreed = s.cu.agreed ∧ t.sc.bankA = s.sc.bankA ∧ t.sc.bankB = s.sc.bankB ∧
    t.sc.commit = s.sc.commit ∧ t.cp.lock = s.cp.lock ∧ t.cp.digest = s.cp.digest ∧
    t.cp.config = s.cp.config ∧ t.cp.totals = s.cp.totals ∧ t.cp.events = s.cp.events ∧
    t.cp.enables = s.cp.enables

/-- A STOP accepted by a move of the station: its answer, and the state the move leaves. -/
theorem exec_stop_accept {s : State} {v : Word32} {move : State → State} (h : Live s)
    (acts : stopAction (shiftOut s) = accept (move (shiftOut s)))
    (stands : StandsAtStop (shiftOut s) (move (shiftOut s)))
    (hp : (move (shiftOut s)).pending = s.pending) :
    ∃ t r d, exec (.stop v) s = .next t ∧ Answered t 3 0x101 .ok 0 ∧
      t = (move (shiftOut s)).setCp { (move (shiftOut s)).cp with result := r, dataOut := d } ∧
      StandsAtStop s t := by
  obtain ⟨t, next, answer, rest⟩ :=
    live_transact (kind := 3) (item := 0x101) (carry := stopAction) h (by rw [acts]; exact hp)
  rw [acts] at answer rest
  obtain ⟨r, d, rfl⟩ := exists_of_transacted rest
  exact ⟨_, r, d, next, answer, rfl, stands⟩

theorem bulkOnLine_of_sent {p : LineInterface} (h : ∀ x, p.tx = some x → x.bulk = false) :
    bulkOnLine p = false := by
  cases tx : p.tx with
  | none => simp [bulkOnLine, tx]
  | some x => simp [bulkOnLine, tx, h x tx]

theorem toNeither_eq (s : State) :
    toNeither s = fun h : HaloParcel => decide
      (neighbourOf s .upper ≠ some h.addressee ∧ neighbourOf s .lower ≠ some h.addressee) := by
  funext h
  simp [toNeither, sentTo, ← Bool.not_or, Bool.beq_eq_decide_eq]

/-- Settles O9: refused, LEAVING or STOPPED by the membership state. -/
theorem stopLeavesOrStops : Obligations.StopLeavesOrStops := by
  intro s v h
  cases m : s.cu.membership with
  | offline | stopped | leaving =>
    obtain ⟨t, next, answer, rest⟩ := live_action_refuse (item := 0x101) h
      (stopAction_refused (s := shiftOut s) (by simp [m]))
    refine ⟨t, _, next, answer, fun _ => ⟨rfl, rest⟩, nofun, by simp, ?_⟩
    obtain ⟨r, d, rfl⟩ := exists_of_transacted rest
    exact ⟨rfl, rfl, rfl, rfl, rfl, rfl, rfl, rfl, rfl, rfl⟩
  | member =>
    obtain ⟨t, r, d, next, answer, rfl, stands⟩ := exec_stop_accept (v := v) h
      (stopAction_member (s := shiftOut s) m) (by simp [StandsAtStop]) (by simp)
    have left := enterLeaving_left (s := shiftOut s) m
    obtain ⟨timers, held, owed⟩ := left.timers
    refine ⟨_, _, next, answer, by simp, fun _ => ⟨rfl, left.membership, timers, held, owed,
      by simp, by simp, by simp, by simp, left.queued, left.owed, left.sides, by simp, fun unsent => ?_⟩,
      by simp, stands⟩
    have bulk := left.bulk (bulkOnLine_of_sent unsent)
    rw [toNeither_eq] at bulk
    exact bulk
  | listening | joining | isolated =>
    obtain ⟨t, r, d, next, answer, rfl, stands⟩ := exec_stop_accept (v := v) h
      (stopAction_outside (s := shiftOut s) (by simp [m])) (by simp [StandsAtStop]) (by simp)
    have stopped := flushStopped_stopped (s := shiftOut s) (by simp [m])
    obtain ⟨urgent, bulk⟩ := flushStopped_queues (s := shiftOut s) (by simp [m])
    obtain ⟨fb0, fb1, emission⟩ := stopped.buffers
    refine ⟨_, _, next, answer, by simp, nofun, fun _ => ⟨rfl, stopped.membership, stopped.attached,
      urgent, bulk, stopped.sends, stopped.idleMonitor, stopped.marker, stopped.build, stopped.frames,
      stopped.decisions, stopped.scaling, stopped.rests .upper, stopped.rests .lower, stopped.sides,
      stopped.outgoing, fb0, fb1, emission⟩, stands⟩

/-! ## Detach and isolation reports (R38, R52, R82) -/

theorem noTimers_isolated (s : State) : NoTimers (isolated s).cu := ⟨rfl, rfl, rfl⟩

theorem isolated_flushed (s : State) : Flushed (isolated s).pli := flush_flushed _

theorem isolated_cp (s : State) :
    (isolated s).cp = { s.cp with events := s.cp.events ||| 1#12 <<< 3 } := by
  simp only [isolated, State.setCu_cp, cancelTimers_frame, flush_frame, quitMember_frame]
  rfl

/-- R82: the blocks an isolated station keeps as they stand. -/
theorem isolated_blocks (s : State) :
    (isolated s).li = s.li ∧ (isolated s).fs = s.fs ∧ (isolated s).fa = s.fa ∧
      (isolated s).lb = s.lb ∧ (isolated s).op = s.op ∧ (isolated s).pending = s.pending := by
  simp [isolated]

theorem isolated_line (s : State) :
    (isolated s).pli.attached = s.pli.attached ∧
      (isolated s).pli.tx.isSome = s.pli.tx.isSome := by
  simp [isolated]

/-- The three reports on which a running station leaves the line, and whether one is due. -/
def ReportDue (s : State) (c : Instr) : Prop :=
  (c = .idleMonitorExpiry ∧ s.pli.attached = true ∧ s.pli.idleMonitor = true) ∨
    (c = .ownTransmissionNotSeen ∧ s.pli.attached = true) ∨
    (c = .isolationNotice ∧ 2 ≤ s.pli.urgentDiscards)

/-- The state a report finds: detached, except at an isolation notice. -/
structure Reported (s : State) (c : Instr) (u : State) : Prop where
  isolates : exec c s = .next (isolate u)
  cu : u.cu = s.cu
  cp : u.cp = s.cp
  blocks : u.li = s.li ∧ u.fs = s.fs ∧ u.fa = s.fa ∧ u.lb = s.lb ∧ u.op = s.op
  detached : c ≠ .isolationNotice → u.pli.attached = false ∧ u.pli.tx = none

theorem exists_reported {s : State} {c : Instr} (h : Live s) (due : ReportDue s c) :
    ∃ u, Reported s c u := by
  have gone : ∀ c : Instr, c ≠ .isolationNotice →
      (detach s).pli.attached = false ∧ (detach s).pli.tx = none :=
    fun _ _ => ⟨detach_attached s, detach_tx s⟩
  have reports : ∀ f : State → State, (f s = detachReported s) →
      live f s = .next (isolate (detach s)) := fun f hf => by
    rw [live_next_of_pending h (by rw [hf]; simp), hf, detachReported]
  obtain ⟨rfl, attached, monitor⟩ | ⟨rfl, attached⟩ | ⟨rfl, twice⟩ := due
  · exact ⟨detach s, reports monitorExpiry (by simp [monitorExpiry, attached, monitor]), by simp,
      by simp, by simp, gone _⟩
  · exact ⟨detach s, reports transmissionNotSeen (by simp [transmissionNotSeen, attached]), by simp,
      by simp, by simp, gone _⟩
  · have isolates : isolationNotice s = isolate s := if_pos twice
    refine ⟨s, ?_, rfl, rfl, ⟨rfl, rfl, rfl, rfl, rfl⟩, (absurd rfl ·)⟩
    exact (live_next_of_pending h (by simp)).trans (congrArg _ isolates)

theorem isolate_inside {s : State}
    (h : s.cu.membership = .listening ∨ s.cu.membership = .joining ∨ s.cu.membership = .member) :
    isolate s = isolated s := by
  rw [isolate_eq, if_neg, if_pos h]
  obtain h | h | h := h <;> simp [h]

theorem isolate_leaving {s : State} (h : s.cu.membership = .leaving) :
    isolate s = flushStopped (isolated s) := by
  rw [isolate_eq, if_pos h]

theorem isolate_outside {s : State}
    (h : s.cu.membership = .isolated ∨ s.cu.membership = .offline ∨ s.cu.membership = .stopped) :
    isolate s = s := by
  obtain h | h | h := h <;> simp [isolate_eq, h]

/-- Settles O31: a report that is due isolates what it finds; the outcome follows the state. -/
theorem detachAndIsolationReports : Obligations.DetachAndIsolationReports := by
  intro s c h
  refine ⟨?_, fun due => ?_⟩
  · rintro (⟨rfl, detached | stopped⟩ | ⟨rfl, detached⟩ | ⟨rfl, few⟩)
    · exact (live_next_of_pending h (by simp)).trans (by simp [monitorExpiry, detached])
    · exact (live_next_of_pending h (by simp)).trans (by simp [monitorExpiry, stopped])
    · exact (live_next_of_pending h (by simp)).trans (by simp [transmissionNotSeen, detached])
    · exact (live_next_of_pending h (by simp)).trans (by simp [isolationNotice, Nat.not_le.mpr few])
  · obtain ⟨u, ⟨isolates, cu, cp, ⟨li, fs, fa, lb, op⟩, detached⟩⟩ := exists_reported h due
    rw [← cu, ← cp, ← li, ← fs, ← fa, ← lb, ← op]
    refine ⟨isolate u, isolates, by simp, fun other => ?_, fun inside => ?_, fun leaving => ?_,
      fun outside => ?_⟩
    · obtain ⟨attached, tx⟩ := detached other
      cases m : u.cu.membership with
      | listening | joining | member =>
        obtain ⟨sameAttached, sameTx⟩ := isolated_line u
        rw [isolate_inside (by simp [m])]
        exact ⟨sameAttached.trans attached, by simpa [tx] using sameTx⟩
      | leaving =>
        have stopped := flushStopped_stopped (s := isolated u) nofun
        rw [isolate_leaving m]
        exact ⟨stopped.attached, stopped.sends⟩
      | isolated | offline | stopped =>
        rw [isolate_outside (by simp [m])]
        exact ⟨attached, tx⟩
    · obtain ⟨timers, held, owed⟩ := noTimers_isolated u
      obtain ⟨sameLi, sameFs, sameFa, sameLb, sameOp, -⟩ := isolated_blocks u
      rw [isolate_inside inside]
      exact ⟨rfl, rfl, rfl, timers, held, owed, rfl, rfl, rfl, (isolated_flushed u).1, isolated_cp u,
        sameLi, sameFs, sameFa, sameLb, sameOp⟩
    · have stopped := flushStopped_stopped (s := isolated u) nofun
      obtain ⟨urgent, bulk⟩ := flushStopped_queues (s := isolated u) nofun
      obtain ⟨fb0, fb1, emission⟩ := stopped.buffers
      rw [isolate_leaving leaving]
      exact ⟨stopped.membership, stopped.attached, urgent, bulk, stopped.sends, stopped.marker,
        stopped.build, stopped.frames, fb0, fb1, emission, by simpa using isolated_cp u⟩
    · rw [isolate_outside outside]
      exact ⟨rfl, rfl⟩

end Sys2Proof.Machine
end

section
/-! SUPPORT. What becomes of a parcel on the line (chapter 3): cut short, voided, discarded, and what
a station drives in an acknowledgement slot. -/

namespace Sys2Proof.Machine

/-! ## A marked parcel (R58, R90) -/

theorem removeMarked_eq (x : Transmission) (cause : MarkCause) (v : State) :
    removeMarked x cause v =
      (v.setPli (dropSent x v.pli)).setHx (removeMarked x cause v).hx := by
  unfold removeMarked
  split
  · rfl
  · split
    · rfl
    · split
      · rfl
      · rename_i q _ _
        cases q <;> rfl

theorem removeMarked_hx {x : Transmission} {cause : MarkCause} {v : State}
    (h : x.bulk = true ∨ cause = .flushed) : (removeMarked x cause v).hx = v.hx := by
  obtain bulk | rfl := h
  · cases cause <;> simp [removeMarked, bulk]
  · rfl

/-- R90: a withdrawn REPORT returns its release counts. -/
theorem removeMarked_report {x : Transmission} {v : State} {f : FieldNo} {g : Option Figures}
    {up down : Nat} (urgent : x.bulk = false) (head : v.pli.urgent.head? = some (.report f g up down)) :
    (removeMarked x .withdrawn v).hx =
      { v.hx with up := addRelease up v.hx.up, down := addRelease down v.hx.down } := by
  obtain ⟨rest, eq⟩ : ∃ rest, v.pli.urgent = .report f g up down :: rest :=
    List.head?_eq_some_iff.mp head
  simp [removeMarked, urgent, eq, returnCounts]

theorem dropSent_bulk {x : Transmission} (h : x.bulk = true) (p : LineInterface) :
    dropSent x p = { p with bulk := p.bulk.drop 1, bulkAttempts := 0, tx := none } :=
  if_pos h

theorem dropSent_urgent {x : Transmission} (h : x.bulk = false) (p : LineInterface) :
    dropSent x p = { p with urgent := p.urgent.drop 1, urgentAttempts := 0, tx := none } :=
  if_neg (by simp [h])

/-! ## Cut short and voided (R45, R46, R51, R58) -/

theorem exec_parcelCutShort {s : State} (h : Live s) : exec .parcelCutShort s = .next (cutShort s) :=
  live_next_of_pending h (by simp)

theorem exec_parcelVoid {s : State} (h : Live s) (r : Reading) :
    exec (.parcelVoid r) s = .next (parcelVoidStep r s) :=
  live_next_of_pending h (by simp)

theorem cutShort_idle {s : State} (h : s.pli.tx = none) : cutShort s = s := by simp [cutShort, h]

theorem cutShort_unmarked {s : State} {x : Transmission} (h : s.pli.tx = some x)
    (mark : x.mark = none) : cutShort s = s.setPli { s.pli with tx := none } := by
  simp [cutShort, h, mark]

theorem cutShort_marked {s : State} {x : Transmission} {cause : MarkCause} (h : s.pli.tx = some x)
    (mark : x.mark = some cause) : cutShort s = removeMarked x cause s := by
  simp [cutShort, h, mark]

theorem voidSend_idle {s : State} (h : s.pli.tx = none) : voidSend s = s := by simp [voidSend, h]

theorem voidSend_unmarked {s : State} {x : Transmission} (h : s.pli.tx = some x)
    (mark : x.mark = none) : voidSend s = s.setPli (countAttempt x s.pli) := by
  simp [voidSend, h, mark]

theorem voidSend_marked {s : State} {x : Transmission} {cause : MarkCause} (h : s.pli.tx = some x)
    (mark : x.mark = some cause) : voidSend s = removeMarked x cause s := by
  simp [voidSend, h, mark]

theorem parcelVoidStep_detached {s : State} (h : s.pli.attached = false) (r : Reading) :
    parcelVoidStep r s = s.drive .none := by simp [parcelVoidStep, h]

theorem parcelVoidStep_attached {s : State} (h : s.pli.attached = true) (r : Reading) :
    parcelVoidStep r s = voidSend (s.drive (ackOf s r)) := by simp [parcelVoidStep, h]

theorem countAttempt_eq (x : Transmission) (p : LineInterface) :
    countAttempt x p =
      { p with
        tx := none
        urgentAttempts := if x.bulk then p.urgentAttempts else p.urgentAttempts + 1
        bulkAttempts := if x.bulk then p.bulkAttempts + 1 else p.bulkAttempts } := by
  cases hb : x.bulk <;> simp [countAttempt, hb]

/-- A marked parcel goes the same way whether it is cut short or voided: `a` is what was driven. -/
theorem removeMarked_driven (s : State) (x : Transmission) (cause : MarkCause) (a : AckDrive)
    (t : State) (ht : t = removeMarked x cause (s.drive a)) :
    t = (s.setPli t.pli).setHx t.hx ∧ t.pli.tx = none ∧
      t.pli.attached = s.pli.attached ∧ t.pli.urgentDiscards = s.pli.urgentDiscards ∧
      (x.bulk = true →
        t.pli.bulk = s.pli.bulk.drop 1 ∧ t.pli.bulkAttempts = 0 ∧
        t.pli.urgent = s.pli.urgent ∧ t.pli.urgentAttempts = s.pli.urgentAttempts ∧ t.hx = s.hx) ∧
      (x.bulk = false →
        t.pli.urgent = s.pli.urgent.drop 1 ∧ t.pli.urgentAttempts = 0 ∧
        t.pli.bulk = s.pli.bulk ∧ t.pli.bulkAttempts = s.pli.bulkAttempts ∧
        (cause = .flushed → t.hx = s.hx) ∧
        (∀ f g up down, cause = .withdrawn → s.pli.urgent.head? = some (.report f g up down) →
          t.hx =
            { s.hx with
              up := { s.hx.up with release := min 3 (s.hx.up.release + up) }
              down := { s.hx.down with release := min 3 (s.hx.down.release + down) } })) := by
  have shape := removeMarked_eq x cause (s.drive a)
  rw [← ht] at shape
  have pli : t.pli = dropSent x (s.drive a).pli := by rw [shape]; rfl
  refine ⟨?_, ?_, ?_, ?_, fun bulk => ?_, fun urgent => ?_⟩
  · rw [pli]
    exact shape
  · cases hb : x.bulk
    · rw [pli, dropSent_urgent hb]
    · rw [pli, dropSent_bulk hb]
  · rw [pli]
    simp
  · rw [pli]
    simp
  · have hx : t.hx = s.hx := ht ▸ removeMarked_hx (.inl bulk)
    rw [pli, dropSent_bulk bulk]
    exact ⟨rfl, rfl, rfl, rfl, hx⟩
  · rw [pli, dropSent_urgent urgent]
    refine ⟨rfl, rfl, rfl, rfl, fun flushed => ht ▸ removeMarked_hx (.inr flushed), ?_⟩
    rintro f g up down rfl head
    exact ht ▸ removeMarked_report (v := s.drive a) urgent head

/-- Settles O32. -/
theorem cutShortAndVoidAtTheSender : Obligations.CutShortAndVoidAtTheSender := by
  intro s r h
  refine ⟨fun idle => ?_, fun x tx mark => ?_, fun detached => ?_, fun a attached ack => ?_,
    fun x cause c tx mark due => ?_⟩
  · rw [exec_parcelCutShort h, cutShort_idle idle]
  · rw [exec_parcelCutShort h, cutShort_unmarked tx mark]
  · rw [exec_parcelVoid h, parcelVoidStep_detached detached]
    rfl
  · have drives : ackOf s r = a := by
      rw [ack, ackOf]
      simp
    refine ⟨fun idle => ?_, fun x tx mark => ?_⟩
    · rw [exec_parcelVoid h, parcelVoidStep_attached attached, voidSend_idle (by simpa using idle),
        drives]
      rfl
    · rw [exec_parcelVoid h, parcelVoidStep_attached attached, voidSend_unmarked (by simpa using tx) mark,
        drives, countAttempt_eq]
      rfl
  · obtain rfl | ⟨rfl, attached⟩ := due
    · exact ⟨_, (exec_parcelCutShort h).trans (by rw [cutShort_marked tx mark]; rfl),
        removeMarked_driven s x cause s.pli.ackDrive _ rfl⟩
    · exact ⟨_, (exec_parcelVoid h r).trans (by
        rw [parcelVoidStep_attached attached, voidSend_marked (by simpa using tx) mark]),
        removeMarked_driven s x cause (ackOf s r) _ rfl⟩

/-! ## The acknowledgement slot (R46 to R49) -/

theorem removeMarked_ackDrive (x : Transmission) (cause : MarkCause) (v : State) :
    (removeMarked x cause v).pli.ackDrive = v.pli.ackDrive := by
  rw [removeMarked_eq]
  cases hb : x.bulk <;> simp [dropSent, hb]

theorem voidSend_ackDrive (s : State) : (voidSend s).pli.ackDrive = s.pli.ackDrive := by
  cases tx : s.pli.tx with
  | none => rw [voidSend_idle tx]
  | some x =>
    cases mark : x.mark with
    | none => rw [voidSend_unmarked tx mark, countAttempt_eq]; rfl
    | some cause => rw [voidSend_marked tx mark, removeMarked_ackDrive]

/-- R47 case 1: a sender is stale or foreign exactly when it is not known. -/
theorem staleSender_iff (s : State) (p : Parcel) :
    staleSender s p = true ↔ ¬ Known s p.sender p.epoch := by
  have absent : (rosterEntry s.cu.agreed.roster p.sender).isNone = true ↔
      ∀ e ∈ s.cu.agreed.roster, e.station ≠ p.sender := by
    simp [rosterEntry]
  rw [staleSender, Bool.or_eq_true, absent, bne_iff_ne, Known, not_and_or]
  simp

theorem begunAtLeast_iff (s : State) (n : FieldNo) :
    begunAtLeast s n = true ↔ ∃ g, s.lb.lastBegun = some g ∧ (g = n ∨ newer g n = true) := by
  unfold begunAtLeast
  split
  · next none_ => simp [none_]
  · next g eq => simp [eq]

theorem selectVoided_named (s : State) (b : BankName) (d : Digest) (n : FieldNo) :
    selectVoided s (.named b) d n = true ↔
      (bankOf s b).state ≠ .ready ∨ (bankOf s b).digest ≠ d ∨
        (∃ g, s.lb.lastBegun = some g ∧ (g = n ∨ newer g n = true)) ∨
        s.cu.agreed.bank.pending ≠ none := by
  simp [selectVoided, bankReady, begunAtLeast_iff, or_assoc, Option.isSome_iff_ne_none]

theorem selectVoided_other (s : State) (c : Nat) (d : Digest) (n : FieldNo) :
    selectVoided s (.other c) d n = true ↔
      (∃ g, s.lb.lastBegun = some g ∧ (g = n ∨ newer g n = true)) ∨
        s.cu.agreed.bank.pending ≠ none := by
  simp [selectVoided, begunAtLeast_iff, Option.isSome_iff_ne_none]

theorem voidsIntact_iff (s : State) (p : Parcel) :
    voidsIntact s p = true ↔ Applies s ∧ memberVoids s p = true := by
  rw [voidsIntact, Bool.and_eq_true, applies_iff]

theorem memberVoids_join {s : State} {p : Parcel} {d : Digest} {f : Bool} {ws : List Word16}
    (h : p.content = .join d f ws) : memberVoids s p = true ↔ ¬ SameConfiguration s d ws := by
  simp only [memberVoids, h, Bool.or_eq_true, bne_iff_ne, SameConfiguration, not_and_or]

theorem memberVoids_select {s : State} {p : Parcel} {b : BankCode} {d : Digest} {n : FieldNo}
    (h : p.content = .bankSelect b d n) :
    memberVoids s p = true ↔ ¬ Known s p.sender p.epoch ∨ selectVoided s b d n = true := by
  simp only [memberVoids, h, Bool.or_eq_true, staleSender_iff]

theorem memberVoids_other {s : State} {p : Parcel} (join : ∀ d f ws, p.content ≠ .join d f ws)
    (select : ∀ b d n, p.content ≠ .bankSelect b d n) :
    memberVoids s p = true ↔ ¬ Known s p.sender p.epoch := by
  unfold memberVoids
  split
  · next eq => exact absurd eq (join _ _ _)
  · next eq => exact absurd eq (select _ _ _)
  · exact staleSender_iff s p

theorem ackOf_intact {s : State} {r : Reading} (h : intact r = true) :
    ackOf s r = if voidsIntact s (readingParcel r) then .void else .recessive := by
  simp [ackOf, h]

/-- Settles O33: what is driven is the outcome of the member receiver's tests. -/
theorem memberReceiversVoid : Obligations.MemberReceiversVoid := by
  intro s r h attached whole
  have driven : (parcelVoidStep r s).pli.ackDrive =
      if voidsIntact s (readingParcel r) then .void else .recessive := by
    rw [parcelVoidStep_attached attached, voidSend_ackDrive, ← ackOf_intact whole]
    rfl
  refine ⟨_, exec_parcelVoid h r, fun outside => ?_, fun inside => ?_⟩
  · rw [driven, if_neg]
    exact fun voids => outside ((voidsIntact_iff s _).mp voids).1
  · have voids : (parcelVoidStep r s).pli.ackDrive = .void ↔
        memberVoids s (readingParcel r) = true := by
      rw [driven]
      simp [voidsIntact_iff, inside]
    refine ⟨fun d f ws join => ?_, fun join select => ?_, fun b d n select => ?_⟩
    · exact voids.trans (memberVoids_join join)
    · exact voids.trans (memberVoids_other join select)
    · exact voids.trans ((memberVoids_select select).trans (or_congr_right (selectVoided_named s b d n)))

/-! ## Discards (R51, R52, R75, R80, R90, R155, R189) -/

theorem exec_parcelDiscard {s : State} (h : Live s) :
    exec .parcelDiscard s = .next (parcelDiscardStep s) :=
  live_next_of_pending h (by simp)

theorem parcelDiscardStep_early {s : State} (urgent : s.pli.urgentAttempts < 8)
    (bulk : s.pli.bulkAttempts < 8) : parcelDiscardStep s = s := by
  simp [parcelDiscardStep, Config.maxAttempts, Nat.not_le.mpr urgent, Nat.not_le.mpr bulk]

theorem parcelDiscardStep_urgent {s : State} {q : Queued} {rest : List Queued}
    (due : 8 ≤ s.pli.urgentAttempts) (h : s.pli.urgent = q :: rest) :
    parcelDiscardStep s = discardUrgent q rest s := by
  simp [parcelDiscardStep, Config.maxAttempts, due, h]

theorem parcelDiscardStep_bulk {s : State} {p : HaloParcel} {rest : List HaloParcel}
    (urgent : s.pli.urgentAttempts < 8) (due : 8 ≤ s.pli.bulkAttempts) (h : s.pli.bulk = p :: rest) :
    parcelDiscardStep s = discardBulk p rest s := by
  simp [parcelDiscardStep, Config.maxAttempts, Nat.not_le.mpr urgent, due, h]

theorem joinDiscarded_outside {s : State}
    (h : s.cu.membership = .listening ∨ s.cu.membership = .joining) :
    joinDiscarded s = flushStopped (s.raise .joinRefused) :=
  if_pos h

/-! ### The loss of a set's parcel (R155) -/

theorem outboundEvent_outbound (event : Outbound → Outbound) (f : FieldNo) (d : Direction) :
    (outboundEvent event f d).outbound = (countOutbound event f d.outbound).1 := by
  simp only [outboundEvent]
  split <;> rfl

/-- R155: of the one set a neighbour is owed, a discarded parcel counts it lost once and, as the last,
ends it: the credit returns when nothing of it was taken. -/
theorem parcelLost_single {d : Direction} {r : Outbound} {f : FieldNo} (h : d.outbound = [r])
    (same : r.frame = f) :
    (outboundEvent parcelLost f (countLostSet f d)).setsLost =
        (if r.lossCounted then d.setsLost else d.setsLost + 1) ∧
      (1 < r.remaining →
        (outboundEvent parcelLost f (countLostSet f d)).outbound =
          [{ r with remaining := r.remaining - 1, lossCounted := true }] ∧
        (outboundEvent parcelLost f (countLostSet f d)).credit = d.credit) ∧
      (r.remaining = 1 →
        (outboundEvent parcelLost f (countLostSet f d)).outbound = [] ∧
        (r.taken = 0 →
          (outboundEvent parcelLost f (countLostSet f d)).credit = min 2 (d.credit + 1)) ∧
        (1 ≤ r.taken → (outboundEvent parcelLost f (countLostSet f d)).credit = d.credit)) := by
  have counted : countLostSet f d =
      { d with setsLost := if r.lossCounted then d.setsLost else d.setsLost + 1 } := by
    cases hl : r.lossCounted with
    | true => rw [countLostSet, if_neg (by simp [h, hl])]; rfl
    | false => rw [countLostSet, if_pos (by simp [h, same, hl])]; rfl
  rw [counted]
  refine ⟨?_, fun more => ?_, fun last => ?_⟩
  · simp only [outboundEvent]
    split <;> rfl
  · have stays : r.remaining - 1 ≠ 0 := by omega
    simp [outboundEvent, countOutbound, h, same, parcelLost, stays]
  · refine ⟨?_, fun none_ => ?_, fun some_ => ?_⟩
    · rw [outboundEvent_outbound]
      simp [countOutbound, h, same, parcelLost, last]
    · simp [outboundEvent, countOutbound, h, same, parcelLost, last, none_, raiseCredit]
    · have taken : r.taken ≠ 0 := by omega
      simp [outboundEvent, countOutbound, h, same, parcelLost, last, taken]

theorem ownHaloLost_side {s : State} {p : HaloParcel} {side : Side}
    (h : sideOf s p.addressee = some side) :
    ownHaloLost p s =
      s.setDir side (outboundEvent parcelLost p.frame (countLostSet p.frame (dirOf s side))) := by
  simp [ownHaloLost, h]

theorem ownHaloLost_none {s : State} {p : HaloParcel} (h : sideOf s p.addressee = none) :
    ownHaloLost p s = s := by
  simp [ownHaloLost, h]

theorem sideOf_of_cp {s t : State} (h : t.cp.ownership = s.cp.ownership) (n : Station) :
    sideOf t n = sideOf s n := by
  simp [sideOf, neighbourOf_of_cp h]

/-- A change of one direction is a change of Halo Exchange alone. -/
theorem setDir_eq_setHx (s : State) (side : Side) (d : Direction) :
    s.setDir side d = s.setHx (s.setDir side d).hx := by
  cases side <;> rfl

theorem ownHaloLost_eq_setHx (p : HaloParcel) (s : State) :
    ownHaloLost p s = s.setHx (ownHaloLost p s).hx := by
  cases h : sideOf s p.addressee with
  | none => rw [ownHaloLost_none h]; rfl
  | some side => rw [ownHaloLost_side h]; exact setDir_eq_setHx ..

theorem dirOf_discardBulk {s : State} {p : HaloParcel} {side : Side} (rest : List HaloParcel)
    (h : sideOf s p.addressee = some side) :
    dirOf (discardBulk p rest s) side =
      outboundEvent parcelLost p.frame (countLostSet p.frame (dirOf s side)) := by
  obtain ⟨u, hu⟩ : ∃ u, u = countDiscard (s.setPli { s.pli with bulk := rest, bulkAttempts := 0 }) :=
    ⟨_, rfl⟩
  have own : sideOf u p.addressee = some side := (sideOf_of_cp (by rw [hu]; simp) _).trans h
  rw [discardBulk, ← hu, ownHaloLost_side own, dirOf_setDir_same, dirOf_of_hx (s := s) (by simp [hu])]

theorem discardBulk_hx {s : State} {p : HaloParcel} (rest : List HaloParcel)
    (h : sideOf s p.addressee = none) : (discardBulk p rest s).hx = s.hx := by
  obtain ⟨u, hu⟩ : ∃ u, u = countDiscard (s.setPli { s.pli with bulk := rest, bulkAttempts := 0 }) :=
    ⟨_, rfl⟩
  have own : sideOf u p.addressee = none := (sideOf_of_cp (by rw [hu]; simp) _).trans h
  rw [discardBulk, ← hu, ownHaloLost_none own]
  simp [hu]

/-- Settles O34: by the queue whose head is due, and for the Urgent Queue by that head. -/
theorem discardCountsAndTellsTheOwner : Obligations.DiscardCountsAndTellsTheOwner := by
  intro s h
  rw [exec_parcelDiscard h]
  refine ⟨fun urgent bulk => ?_, ?urgent, ?bulk⟩
  · rw [parcelDiscardStep_early urgent bulk]
  case urgent =>
    rintro q rest u due head rfl
    rw [parcelDiscardStep_urgent due head]
    refine ⟨?_, ?_, ?_, ?_, ?_, ?_, ?_, ?_⟩
    · rintro f rfl; rfl
    · rintro n rfl; rfl
    · rintro c ph rfl; rfl
    · rintro c v rfl; rfl
    · rintro b d f rfl; rfl
    · rintro f g up down rfl; rfl
    · rintro rfl leaving
      have stopped := enterStopped_stopped (s := countDiscard (s.setPli { s.pli with
          urgent := rest, urgentAttempts := 0
          urgentDiscards := min 2 (s.pli.urgentDiscards + 1) })) (by simp [leaving])
      refine ⟨_, rfl, ?_⟩
      simp only [discardUrgent, urgentDiscardTold, countDiscard_frame, State.setPli_cu, leaving, if_true]
      exact ⟨stopped.membership, stopped.attached, by simp; rfl, by simp⟩
    · rintro d f ws rfl outside
      have notMember : s.cu.membership ≠ .member := by obtain m | m := outside <;> simp [m]
      have stopped := flushStopped_stopped (s := (countDiscard (s.setPli { s.pli with
          urgent := rest, urgentAttempts := 0
          urgentDiscards := min 2 (s.pli.urgentDiscards + 1) })).raise .joinRefused)
        (by simpa using notMember)
      obtain ⟨urgent, bulk⟩ := flushStopped_queues (s := (countDiscard (s.setPli { s.pli with
          urgent := rest, urgentAttempts := 0
          urgentDiscards := min 2 (s.pli.urgentDiscards + 1) })).raise .joinRefused)
        (by simpa using notMember)
      refine ⟨_, rfl, ?_⟩
      simp only [discardUrgent, urgentDiscardTold]
      rw [joinDiscarded_outside (by simpa using outside)]
      exact ⟨stopped.membership, stopped.attached, urgent, bulk, by simp; rfl, by simp⟩
  case bulk =>
    intro p rest early due head
    rw [parcelDiscardStep_bulk early due head]
    refine ⟨_, rfl, ownHaloLost_eq_setHx p _, fun side r addressed one same => ?_, fun none_ => ?_⟩
    · rw [dirOf_discardBulk rest addressed]
      exact parcelLost_single one same
    · exact discardBulk_hx rest none_

end Sys2Proof.Machine
end

section
/-! SUPPORT. An idle point (chapter 3): what a station offers there, when the offer wins, and the parts
of the parcel it then drives. -/

namespace Sys2Proof.Machine

/-! ## Offers (R42 to R44) -/

theorem offered_unable {s : State} (h : (s.pli.attached && mayOffer s.cu.membership && s.pli.tx.isNone) = false) :
    offered s = none := by
  simp [offered, h]

/-- A station that is attached, may offer and has nothing in transmission. -/
def AbleToOffer (s : State) : Prop :=
  (s.pli.attached && mayOffer s.cu.membership && s.pli.tx.isNone) = true

theorem offered_nothing {s : State} (h : AbleToOffer s) (urgent : s.pli.urgent = [])
    (bulk : s.pli.bulk = []) : offered s = none := by
  rw [offered, if_pos (show (_ && _ && _) = true from h)]
  simp [urgent, bulk]

theorem offered_urgent {s : State} {q : Queued} {rest : List Queued} (h : AbleToOffer s)
    (head : s.pli.urgent = q :: rest) (few : s.pli.urgentAttempts < 8) :
    offered s = some (beginTransmission false (beginParcel s (fillContent s.cu.agreed q))) := by
  rw [offered, if_pos (show (_ && _ && _) = true from h)]
  simp [head, Config.maxAttempts, few]

theorem offered_bulk {s : State} {p : HaloParcel} {rest : List HaloParcel} (h : AbleToOffer s)
    (urgent : s.pli.urgent = []) (head : s.pli.bulk = p :: rest) (few : s.pli.bulkAttempts < 8) :
    offered s = some (beginTransmission true (beginParcel s (.halo p))) := by
  rw [offered, if_pos (show (_ && _ && _) = true from h)]
  simp [urgent, head, Config.maxAttempts, few]

theorem offered_spent {s : State}
    (h : (s.pli.urgent ≠ [] ∧ 8 ≤ s.pli.urgentAttempts) ∨
      (s.pli.urgent = [] ∧ 8 ≤ s.pli.bulkAttempts)) : offered s = none := by
  unfold offered
  split
  case isFalse => rfl
  case isTrue =>
    obtain ⟨some_, spent⟩ | ⟨none_, spent⟩ := h
    · obtain ⟨q, rest, head⟩ := List.exists_cons_of_ne_nil some_
      simp [head, Config.maxAttempts, Nat.not_lt.mpr spent]
    · cases bulk : s.pli.bulk with
      | nil => simp [none_]
      | cons p rest => simp [none_, Config.maxAttempts, Nat.not_lt.mpr spent]

theorem contend_none {s : State} (h : offered s = none) (others : Option (Fin 128)) :
    contend others s = s := by
  simp [contend, h]

theorem wins_iff (t : Transmission) (others : Option (Fin 128)) :
    wins t others = true ↔
      ∀ v, others = some v →
        kindPriority (contentKind t.parcel.content) * 8 + t.parcel.sender.val ≤ v.val := by
  cases others with
  | none => simp [wins]
  | some v =>
    simp only [Option.some.injEq, forall_eq']
    exact decide_eq_true_iff

theorem contend_wins {s : State} {t : Transmission} {others : Option (Fin 128)}
    (h : offered s = some t)
    (least : ∀ v, others = some v →
      kindPriority (contentKind t.parcel.content) * 8 + t.parcel.sender.val ≤ v.val) :
    contend others s = s.setPli { s.pli with tx := some t } := by
  simp [contend, h, (wins_iff t others).mpr least]

theorem contend_loses {s : State} {t : Transmission} {others : Option (Fin 128)}
    (h : offered s = some t)
    (beaten : ∃ v, others = some v ∧
      v.val < kindPriority (contentKind t.parcel.content) * 8 + t.parcel.sender.val) :
    contend others s = s := by
  obtain ⟨v, rfl, lower⟩ := beaten
  have loses : wins t (some v) = false := by
    rw [← Bool.not_eq_true, wins_iff]
    intro least
    exact absurd (least v rfl) (Nat.not_le.mpr lower)
  simp [contend, h, loses]

theorem contentKind_fillContent (a : AgreedState) (q : Queued) :
    contentKind (fillContent a q) = queuedKind q := by
  cases q <;> rfl

/-! ## An idle point (R37, R83) -/

theorem exec_idlePoint {s : State} (h : Live s) (others : Option (Fin 128)) :
    exec (.idlePoint others) s = .next (idlePointStep others s) :=
  live_next_of_pending h (by simp)

theorem idlePointStep_attached {s : State} (runs : s.cu.membership.running = true)
    (attached : s.pli.attached = true) (others : Option (Fin 128)) :
    idlePointStep others s = contend others s := by
  simp [idlePointStep, runs, attached]

theorem idlePointStep_detached {s : State} (runs : s.cu.membership.running = true)
    (detached : s.pli.attached = false) (others : Option (Fin 128)) :
    idlePointStep others s = contend others (attachReported (attach s)) := by
  simp [idlePointStep, runs, detached]

theorem attachReported_same {s : State}
    (h : ¬ (s.cu.membership = .isolated ∧ s.cu.isolationWait = 4)) : attachReported s = s :=
  if_neg h

theorem attachReported_returns {s : State} (isolated : s.cu.membership = .isolated)
    (waited : s.cu.isolationWait = 4) : attachReported s = enterListening s :=
  if_pos ⟨isolated, waited⟩

theorem ableToOffer {s : State} (attached : s.pli.attached = true) (idle : s.pli.tx = none)
    (m : s.cu.membership = .listening ∨ s.cu.membership = .joining ∨ s.cu.membership = .member ∨
      s.cu.membership = .leaving) : AbleToOffer s := by
  obtain m | m | m | m := m <;> simp [AbleToOffer, attached, idle, mayOffer, m]

theorem running_of_offers {s : State}
    (m : s.cu.membership = .listening ∨ s.cu.membership = .joining ∨ s.cu.membership = .member ∨
      s.cu.membership = .leaving) : s.cu.membership.running = true := by
  obtain m | m | m | m := m <;> rw [m] <;> rfl

/-! ## The parts of a parcel (R39 to R41) -/

theorem priorityKind_kindPriority (k : ParcelKind) : priorityKind (kindPriority k) = some k := by
  cases k <;> rfl

theorem kindPriority_lt (k : ParcelKind) : kindPriority k < 16 := by
  cases k <;> decide

theorem length_fits {k : ParcelKind} {n : Nat} (h : lengthInRange k n = true) : n < 2048 := by
  cases k <;> simp [lengthInRange] at h <;> omega

theorem drivenParts_priority (p : Parcel) :
    (drivenParts p).priority.toNat = kindPriority (contentKind p.content) :=
  Nat.mod_eq_of_lt (kindPriority_lt _)

theorem drivenParts_length {p : Parcel}
    (h : lengthInRange (contentKind p.content) (contentLength p.content) = true) :
    (drivenParts p).length.toNat = contentLength p.content :=
  Nat.mod_eq_of_lt (length_fits h)

theorem drivenParts_payload (p : Parcel) : (drivenParts p).payload = contentWords p.content := rfl

theorem drivenParts_intact {p : Parcel}
    (h : lengthInRange (contentKind p.content) (contentLength p.content) = true) :
    intact (drivenParts p) = true := by
  have whole : (drivenParts p).payload.length = contentLength p.content := contentWords_length _
  have content : (drivenParts p).content = p.content := rfl
  have complete : (drivenParts p).complete = true := rfl
  simp only [intact, complete, whole, drivenParts_length h, drivenParts_priority,
    priorityKind_kindPriority, ← drivenParts_checked, content, h, beq_self_eq_true, Bool.and_self]

theorem drivenParts_parts (p : Parcel) :
    (drivenParts p).complete = true ∧
      (drivenParts p).priority.toNat = kindPriority (contentKind p.content) ∧
      (drivenParts p).station.toNat = p.sender.val ∧ (drivenParts p).epoch = p.epoch ∧
      (drivenParts p).content = p.content ∧
      (drivenParts p).check = crc16 (checkedBits (drivenParts p)) ∧
      (lengthInRange (contentKind p.content) (contentLength p.content) = true →
        (drivenParts p).length.toNat = contentLength p.content ∧
        (drivenParts p).payload.length = contentLength p.content ∧
        intact (drivenParts p) = true ∧ readingParcel (drivenParts p) = p) :=
  ⟨rfl, drivenParts_priority p, Nat.mod_eq_of_lt p.sender.isLt, rfl, rfl, drivenParts_checked p,
    fun h => ⟨drivenParts_length h, contentWords_length _, drivenParts_intact h,
      readingParcel_drivenParts p⟩⟩

/-- R69: after the digest and the flag a JOIN's words are its configuration words. -/
theorem contentWords_join (d : Digest) (founding : Bool) (ws : List Word16) :
    (contentWords (.join d founding ws)).drop 2 = ws := by
  ext1 i
  rw [List.getElem?_drop]
  by_cases inside : i < ws.length
  · rw [contentWords_get _ _ (by simpa [contentLength] using inside), Nat.add_comm]
    simp [contentWord, inside]
  · rw [List.getElem?_eq_none (by simpa [contentWords_length, contentLength] using inside),
      List.getElem?_eq_none (by simpa using inside)]

/-- R154: the words of a HALO carry its samples in the order of the bus record. -/
theorem contentWords_halo (h : HaloParcel) {n : Nat} (hn : n < 1440) :
    ((contentWords (.halo h))[n + 2]?).map low10 = some (busSample h.samples n) := by
  rw [contentWords_get _ _ (by simp [contentLength]; omega)]
  simp [contentWord, low10_sampleUnder]

theorem contentWords_halo_samples (h : HaloParcel) (k : Nat) (b y0 r y1 : Sample) (hk : k < 360)
    (cb : h.samples.cb[k]? = some b) (yEven : h.samples.y[2 * k]? = some y0)
    (cr : h.samples.cr[k]? = some r) (yOdd : h.samples.y[2 * k + 1]? = some y1) :
    ((contentWords (.halo h))[4 * k + 2]?).map low10 = some b ∧
      ((contentWords (.halo h))[4 * k + 3]?).map low10 = some y0 ∧
      ((contentWords (.halo h))[4 * k + 4]?).map low10 = some r ∧
      ((contentWords (.halo h))[4 * k + 5]?).map low10 = some y1 := by
  obtain ⟨b0, b1, b2, b3⟩ := busSample_at h.samples k
  refine ⟨?_, ?_, ?_, ?_⟩
  · rw [contentWords_halo h (by omega), b0, List.getD_eq_getElem?_getD, cb]; rfl
  · rw [show 4 * k + 3 = 4 * k + 1 + 2 from rfl, contentWords_halo h (by omega), b1,
      List.getD_eq_getElem?_getD, yEven]; rfl
  · rw [show 4 * k + 4 = 4 * k + 2 + 2 from rfl, contentWords_halo h (by omega), b2,
      List.getD_eq_getElem?_getD, cr]; rfl
  · rw [show 4 * k + 5 = 4 * k + 3 + 2 from rfl, contentWords_halo h (by omega), b3,
      List.getD_eq_getElem?_getD, yOdd]; rfl

/-- Settles O30. -/
theorem idlePointAttachesAndContends : Obligations.IdlePointAttachesAndContends := by
  intro s others h
  have step (t : State) (ht : Live t) := exec_idlePoint ht others
  refine ⟨fun stopped => ?_, fun runs detached stays => ?_, fun isolated waited detached => ?_,
    fun attached unable => ?_, fun attached idle m => ?_, drivenParts_parts, ?words⟩
  · rw [step s h]
    simp [idlePointStep, stopped]
  · rw [step s h, idlePointStep_detached runs detached, attachReported_same (s := attach s) stays]
    exact (congrArg _ (idlePointStep_attached (s := attach s) runs rfl others).symm).trans
      (step (attach s) h).symm
  · have runs : s.cu.membership.running = true := by rw [isolated]; rfl
    rw [step s h, idlePointStep_detached runs detached,
      attachReported_returns (s := attach s) isolated waited]
    exact (congrArg _ (idlePointStep_attached (s := enterListening (attach s)) rfl rfl others).symm).trans
      (step (enterListening (attach s)) h).symm
  · rw [step s h]
    by_cases runs : s.cu.membership.running = true
    · rw [idlePointStep_attached runs attached, contend_none (offered_unable ?_)]
      obtain sends | isolated := unable
      · cases tx : s.pli.tx with
        | none => exact absurd tx sends
        | some x => simp
      · simp [isolated, mayOffer]
    · simp [idlePointStep, runs]
  · rw [step s h, idlePointStep_attached (running_of_offers m) attached]
    have able := ableToOffer attached idle m
    refine ⟨fun urgent bulk => ?_, fun q rest head few => ?_, fun p rest urgent head few => ?_,
      fun spent => ?_⟩
    · rw [contend_none (offered_nothing able urgent bulk)]
    · have offer := offered_urgent able head few
      have kind := contentKind_fillContent s.cu.agreed q
      exact ⟨fun least => by rw [contend_wins offer (by rw [← kind] at least; exact least)]; rfl,
        fun beaten => by rw [contend_loses offer (by rw [← kind] at beaten; exact beaten)]⟩
    · have offer := offered_bulk able urgent head few
      exact ⟨fun least => by rw [contend_wins offer least]; rfl,
        fun beaten => by rw [contend_loses offer beaten]⟩
    · rw [contend_none (offered_spent spent)]
  case words =>
    rintro p words rfl
    rw [drivenParts_payload]
    refine ⟨?_, ?_, ?_, ?_, ?_, ?_, ?_⟩
    · rintro f eq; rw [eq]; rfl
    · rintro eq; rw [eq]; rfl
    · rintro d founding ws eq
      rw [eq]
      exact ⟨contentWords_length _, contentWords_get _ _ (by simp [contentLength]),
        contentWords_join d founding ws⟩
    · rintro c v eq; rw [eq]; exact ⟨rfl, rfl⟩
    · rintro b d n eq; rw [eq]; exact ⟨rfl, rfl, rfl⟩
    · rintro f g u d eq
      rw [eq, contentWords_get _ _ (by simp only [contentLength]; split <;> decide)]
      rfl
    · rintro g eq
      rw [eq]
      exact ⟨contentWords_length _, contentWords_halo_samples g⟩

end Sys2Proof.Machine
end

section
/-! SUPPORT. Line records (chapter 2): what Line Intake disregards, and what a kept record writes. -/

namespace Sys2Proof.Machine

/-! ## Runs of bus words (R15, R16) -/

theorem exec_fieldBegin {s : State} (h : Live s) (ws : List Word16) :
    exec (.fieldBegin ws) s = .next (fieldBeginEffect ws s) :=
  live_next_of_pending h (by simp)

theorem exec_lineRecord {s : State} (h : Live s) (ws : List Word16) :
    exec (.lineRecord ws) s = .next (lineRecordEffect ws s) :=
  live_next_of_pending h (by simp)

theorem exec_fieldEnd {s : State} (h : Live s) (ws : List Word16) :
    exec (.fieldEnd ws) s = .next (fieldEndEffect ws s) :=
  live_next_of_pending h (by simp)

theorem fieldBeginEffect_stopped {s : State} (h : s.cu.membership.running = false) (ws : List Word16) :
    fieldBeginEffect ws s = s := by
  unfold fieldBeginEffect
  split
  · rfl
  · simp [h]

theorem fieldEndEffect_stopped {s : State} (h : s.cu.membership.running = false) (ws : List Word16) :
    fieldEndEffect ws s = s := by
  unfold fieldEndEffect
  split
  · rfl
  · simp [h]

theorem lineRecordEffect_stopped {s : State} (h : s.cu.membership.running = false)
    (ws : List Word16) : lineRecordEffect ws s = s := by
  simp [lineRecordEffect, h]

theorem fieldBeginEffect_kind {w : Word16} (h : busKind w ≠ 2) (rest : List Word16) (s : State) :
    fieldBeginEffect (w :: rest) s = s := by
  cases rest <;> simp [fieldBeginEffect, markerField, h]

theorem fieldEndEffect_kind {w : Word16} (h : busKind w ≠ 3) (rest : List Word16) (s : State) :
    fieldEndEffect (w :: rest) s = s := by
  cases rest <;> simp [fieldEndEffect, markerField, h]

theorem lineRecordEffect_kind {w : Word16} (h : busKind w ≠ 1) (rest : List Word16) (s : State) :
    lineRecordEffect (w :: rest) s = s := by
  simp [lineRecordEffect, firstWord, h]

theorem fieldBeginEffect_run {s : State} {w : Word16} (kind : busKind w = 2)
    (runs : s.cu.membership.running = true) (f : FieldNo) (rest : List Word16) :
    fieldBeginEffect (w :: f :: rest) s = fieldBeginStep f (busParity w) s := by
  simp [fieldBeginEffect, markerField, firstWord, kind, runs]

theorem fieldEndEffect_run {s : State} {w : Word16} (kind : busKind w = 3)
    (runs : s.cu.membership.running = true) (f : FieldNo) (rest : List Word16) :
    fieldEndEffect (w :: f :: rest) s = fieldEndStep f (busLow9 w) s := by
  simp [fieldEndEffect, markerField, firstWord, kind, runs]

/-- R22: the spans a line record is kept with. -/
def keptSpans (w : Word16) (body : List Word16) : List Span :=
  if recordWellFormed w body && !busOverflow w then readSpans (busSpanCount w) body else [wholeLine]

/-- R16: the record of a run of two words or more. -/
def recordOf (w f : Word16) (body : List Word16) : LineRecord :=
  { field := f, parity := busParity w, line := busLow9 w, spans := keptSpans w body
    samples := readSamples 360 (body.drop (2 * busSpanCount w)) }

theorem lineRecordEffect_run {s : State} {w : Word16} (kind : busKind w = 1)
    (runs : s.cu.membership.running = true) (f : FieldNo) (body : List Word16) :
    lineRecordEffect (w :: f :: body) s = lineRecordStep (recordOf w f body) s := by
  simp [lineRecordEffect, firstWord, kind, runs, readLineRecord, recordOf, keptSpans]

/-! ## What is not kept (R21, R23) -/

theorem fieldEndStep_other {s : State} {f : FieldNo} (h : ∀ m, s.li.marker = some m → m.field ≠ f)
    (count : Nat) : fieldEndStep f count s = s := by
  unfold fieldEndStep
  split
  · rfl
  · next m eq => exact if_neg (h m eq)

theorem lineRecordStep_stray {s : State} {r : LineRecord}
    (h : ∀ m, s.li.marker = some m → m.field ≠ r.field ∨ m.parity ≠ r.parity) :
    lineRecordStep r s = countStray s := by
  unfold lineRecordStep
  split
  · rfl
  · next m eq =>
    have other : r.field ≠ m.field ∨ r.parity ≠ m.parity :=
      (h m eq).imp (fun k e => k e.symm) (fun k e => k e.symm)
    exact if_pos other

theorem lineRecordStep_open {s : State} {r : LineRecord} {m : OpenField} (open_ : s.li.marker = some m)
    (field : m.field = r.field) (parity : m.parity = r.parity) {i : Nat} (slot : m.slot = some i)
    (inside : s.cp.ownership.inWindow r.parity r.line = true) :
    lineRecordStep r s = keepRecord i r s := by
  simp [lineRecordStep, open_, field, parity, slot, inside]

theorem lineRecordStep_unkept {s : State} {r : LineRecord} {m : OpenField}
    (open_ : s.li.marker = some m) (field : m.field = r.field) (parity : m.parity = r.parity)
    (h : m.slot = none ∨ s.cp.ownership.inWindow r.parity r.line = false) :
    lineRecordStep r s = s := by
  obtain slot | outside := h
  · simp [lineRecordStep, open_, field, parity, slot]
  · cases slot : m.slot <;> simp [lineRecordStep, open_, field, parity, slot, outside]

/-- Settles O25. -/
theorem recordsNotKeptChangeAtMostTheStrayCount :
    Obligations.RecordsNotKeptChangeAtMostTheStrayCount := by
  intro s words w f rest h
  refine ⟨fun stopped => ⟨?_, ?_, ?_⟩, fun kind => ?_, fun kind => ?_, fun kind => ?_, ?_, ?_,
    fun kind runs => ?_, fun other => ?_, fun kind runs other => ?_, fun m open_ field parity unkept => ?_⟩
  · rw [exec_fieldBegin h, fieldBeginEffect_stopped stopped]
  · rw [exec_lineRecord h, lineRecordEffect_stopped stopped]
  · rw [exec_fieldEnd h, fieldEndEffect_stopped stopped]
  · rw [exec_fieldBegin h, fieldBeginEffect_kind kind]
  · rw [exec_lineRecord h, lineRecordEffect_kind kind]
  · rw [exec_fieldEnd h, fieldEndEffect_kind kind]
  · exact exec_fieldBegin h [w]
  · exact exec_fieldEnd h [w]
  · rw [exec_lineRecord h]
    simp [lineRecordEffect, firstWord, kind, runs, readLineRecord, countStray]
  · rw [exec_fieldEnd h]
    by_cases kind : busKind w = 3
    · by_cases runs : s.cu.membership.running = true
      · rw [fieldEndEffect_run kind runs, fieldEndStep_other other]
      · rw [fieldEndEffect_stopped (Bool.not_eq_true _ ▸ runs)]
    · rw [fieldEndEffect_kind kind]
  · rw [exec_lineRecord h, lineRecordEffect_run kind runs, lineRecordStep_stray other]
    rfl
  · rw [exec_lineRecord h]
    by_cases kind : busKind w = 1
    · by_cases runs : s.cu.membership.running = true
      · rw [lineRecordEffect_run kind runs,
          lineRecordStep_unkept (r := recordOf w f rest) open_ field parity
            (by rw [parity] at unkept; exact unkept)]
      · rw [lineRecordEffect_stopped (Bool.not_eq_true _ ▸ runs)]
    · rw [lineRecordEffect_kind kind]

/-! ## What a kept record writes (R16 to R18, R22) -/

/-- R16: the samples of a run stand in the order Cb, Y, Cr, Y. -/
theorem readSamples_get (n : Nat) (ws : List Word16) (k : Nat) (hk : k < n) :
    (readSamples n ws).cb[k]? = some (low10 (ws.getD (4 * k) 0)) ∧
      (readSamples n ws).y[2 * k]? = some (low10 (ws.getD (4 * k + 1) 0)) ∧
      (readSamples n ws).cr[k]? = some (low10 (ws.getD (4 * k + 2) 0)) ∧
      (readSamples n ws).y[2 * k + 1]? = some (low10 (ws.getD (4 * k + 3) 0)) := by
  induction n generalizing ws k with
  | zero => omega
  | succ n ih =>
    cases k with
    | zero => exact ⟨rfl, rfl, rfl, rfl⟩
    | succ k =>
      have later (j : Nat) : (ws.drop 4).getD (4 * k + j) 0 = ws.getD (4 * (k + 1) + j) 0 := by
        rw [List.getD_eq_getElem?_getD, List.getD_eq_getElem?_getD, List.getElem?_drop]
        congr 2
        omega
      obtain ⟨cb, y0, cr, y1⟩ := ih (ws.drop 4) k (by omega)
      rw [show 4 * k = 4 * k + 0 from rfl, later] at cb
      rw [later] at y0 cr y1
      exact ⟨cb, y0, cr, y1⟩

theorem readSpans_length_le : ∀ (k : Nat) (ws : List Word16), (readSpans k ws).length ≤ k
  | 0, _ => Nat.le_refl 0
  | _ + 1, [] => Nat.zero_le _
  | _ + 1, [_] => Nat.zero_le _
  | k + 1, _ :: _ :: rest => Nat.succ_le_succ (readSpans_length_le k rest)

theorem readSpans_ne_nil {w : Word16} {body : List Word16} (h : recordWellFormed w body = true)
    (some_ : 1 ≤ busSpanCount w) : readSpans (busSpanCount w) body ≠ [] := by
  simp only [recordWellFormed, Bool.and_eq_true, beq_iff_eq] at h
  obtain ⟨⟨⟨-, count⟩, -⟩, -⟩ := h
  intro none_
  rw [none_] at count
  simp at count
  omega

theorem keptSpans_well {w : Word16} {body : List Word16} (h : recordWellFormed w body = true)
    (o : busOverflow w = false) : keptSpans w body = readSpans (busSpanCount w) body := by
  simp [keptSpans, h, o]

theorem keptSpans_whole {w : Word16} {body : List Word16}
    (h : recordWellFormed w body = false ∨ busOverflow w = true) : keptSpans w body = [wholeLine] := by
  obtain h | h := h <;> simp [keptSpans, h]

theorem entryFromRecord_state (r : LineRecord) :
    (r.spans = [] → (entryFromRecord r).state = .valid) ∧
      (r.spans ≠ [] → (entryFromRecord r).state = .dropout) := by
  simp +contextual [entryFromRecord]

theorem slotAt_of_get {s : State} {i : Nat} {sl : Slot} (h : s.fs.slots[i]? = some sl) :
    slotAt s i = sl := by
  simp [slotAt, h]

/-- R22: the entry is written, and one that was not ABSENT counts a duplicate. -/
theorem keepRecord_writes {s : State} {r : LineRecord} {i : Nat} {sl : Slot} {o : Occupant}
    {old : LineEntry} (slot : s.fs.slots[i]? = some sl) (occupied : sl.occupant = some o)
    (entry : (o.table.find? fun e => e.line == r.line) = some old) :
    keepRecord i r s =
      (s.setLi
        { s.li with
          duplicates := if old.state = .absent then s.li.duplicates else s.li.duplicates + 1 }).setFs
        { s.fs with
          slots := s.fs.slots.set i
            { sl with
              occupant := some
                { o with
                  table := o.table.map fun x =>
                    if x.line = (entryFromRecord r).line then entryFromRecord r else x } } } := by
  have at_ : entryAt s i r.line = some old := by
    simp [entryAt, slotAt_of_get slot, occupied, entry]
  simp only [keepRecord, at_]
  split <;> simp [State.updateOccupant, slotAt_of_get slot, occupied] <;> rfl

/-- Settles O26. -/
theorem keptLineRecordWritesItsEntry : Obligations.KeptLineRecordWritesItsEntry := by
  intro s w body m i sl o old h runs kind open_ slot parity inside held occupied entry
  have state := entryFromRecord_state (recordOf w m.field body)
  refine ⟨_, entryFromRecord (recordOf w m.field body), _, ?_,
    keepRecord_writes (r := recordOf w m.field body) held occupied entry, rfl, rfl,
    fun well fits none_ => ?_, fun well fits some_ => ?_, fun ill => ?_, fun k x hk hx => ?_⟩
  · rw [exec_lineRecord h, lineRecordEffect_run kind runs,
      lineRecordStep_open (r := recordOf w m.field body) open_ rfl parity slot
        (by rw [parity] at inside; exact inside)]
  · have spans : (recordOf w m.field body).spans = [] := by
      rw [show (recordOf w m.field body).spans = _ from keptSpans_well well fits, none_]
      rfl
    exact ⟨state.1 spans, spans⟩
  · have spans : (recordOf w m.field body).spans = _ := keptSpans_well well fits
    exact ⟨state.2 (spans ▸ readSpans_ne_nil well some_), spans⟩
  · have spans : (recordOf w m.field body).spans = _ := keptSpans_whole ill
    exact ⟨state.2 (by rw [spans]; simp), spans⟩
  · have at_ (n : Nat) : x n = low10 ((body.drop (2 * busSpanCount w)).getD (4 * k + n) 0) := by
      rw [hx, List.getD_eq_getElem?_getD, List.getD_eq_getElem?_getD, List.getElem?_drop, Nat.add_assoc]
    rw [at_, at_, at_, at_]
    exact readSamples_get 360 _ k hk

end Sys2Proof.Machine
end

section
/-! SUPPORT. Waits, vote timers and requests made again (chapters 4 and 5). -/

namespace Sys2Proof.Machine

/-! ## The waits (R66, R74, R83) -/

theorem sameRound_join (d : Digest) (founding : Bool) (ws : List Word16) (x : Queued) :
    sameRound (.join d founding ws) x = false := by cases x <;> rfl

theorem joinParcel_answer {s : State} (founding : Bool) (room : s.pli.urgent.length < 8)
    (queues : refusesQueueing s.cu.membership = false) :
    urgentAnswer (joinParcel s founding) s = .accepted :=
  urgentAnswer_room room (sameRound_none (sameRound_join _ _ _) _) queues

theorem requestUrgent_accepted {q : Queued} {s : State} (h : urgentAnswer q s = .accepted) :
    requestUrgent q s = pushUrgent q s := by
  simp [requestUrgent, h]

theorem requestUrgent_refused {q : Queued} {s : State} (h : urgentAnswer q s ≠ .accepted) :
    requestUrgent q s = s := by
  unfold requestUrgent
  split
  · next eq => exact absurd eq h
  · rfl

theorem listenEnd_due {s : State} (m : s.cu.membership = .listening) (waited : s.cu.listenCount = 2)
    (none_ : joinQueued s = false) :
    listenEnd s = requestUrgent (joinParcel s s.cu.heard.isEmpty) s :=
  if_pos ⟨m, waited, none_⟩

theorem listenEnd_early {s : State}
    (h : s.cu.membership ≠ .listening ∨ s.cu.listenCount ≠ 2 ∨ joinQueued s = true) :
    listenEnd s = s := by
  refine if_neg fun ⟨m, waited, none_⟩ => ?_
  simp [m, waited, none_] at h

theorem snapshotEnd_early {s : State}
    (h : s.cu.membership ≠ .joining ∨ s.cu.snapshotWait ≠ 4 ∨ joinQueued s = true) :
    snapshotEnd s = s := by
  refine if_neg fun ⟨m, waited, none_⟩ => ?_
  simp [m, waited, none_] at h

theorem snapshotEnd_room {s : State} (m : s.cu.membership = .joining) (waited : s.cu.snapshotWait = 4)
    (none_ : joinQueued s = false) (room : s.pli.urgent.length < 8) :
    snapshotEnd s =
      pushUrgent (joinParcel s (!s.cu.foundingBar)) (s.setCu { s.cu with foundingBar := false }) := by
  rw [snapshotEnd, if_pos ⟨m, waited, none_⟩]
  simp only [joinParcel_answer (!s.cu.foundingBar) room (by rw [m]; rfl)]

theorem snapshotEnd_full {s : State} (full : 8 ≤ s.pli.urgent.length) : snapshotEnd s = s := by
  unfold snapshotEnd
  split
  · simp only [urgentAnswer_full full]
  · rfl

theorem listenEnd_full {s : State} (full : 8 ≤ s.pli.urgent.length) : listenEnd s = s := by
  unfold listenEnd
  split
  · exact requestUrgent_refused (by rw [urgentAnswer_full full]; nofun)
  · rfl

/-- Settles O27. -/
theorem waitsEndWithTheirRequest : Obligations.WaitsEndWithTheirRequest := by
  intro s h
  have listen : exec .listenPeriodEnd s = .next (listenEnd s) := live_next_of_pending h (by simp)
  have snapshot : exec .snapshotWaitEnd s = .next (snapshotEnd s) := live_next_of_pending h (by simp)
  have isolation : exec .isolationWaitEnd s = .next (isolationEnd s) := live_next_of_pending h (by simp)
  rw [listen, snapshot, isolation]
  refine ⟨fun m waited none_ room => ?_, fun early => ?_, fun m waited none_ room => ?_,
    fun early => ?_, fun m waited attached => ?_, fun early => ?_⟩
  · rw [listenEnd_due m waited none_, requestUrgent_accepted (joinParcel_answer _ room (by rw [m]; rfl))]
    rfl
  · obtain m | waited | queued | full := early
    · rw [listenEnd_early (.inl m)]
    · rw [listenEnd_early (.inr (.inl waited))]
    · rw [listenEnd_early (.inr (.inr queued))]
    · rw [listenEnd_full full]
  · rw [snapshotEnd_room m waited none_ room]
    rfl
  · obtain m | waited | queued | full := early
    · rw [snapshotEnd_early (.inl m)]
    · rw [snapshotEnd_early (.inr (.inl waited))]
    · rw [snapshotEnd_early (.inr (.inr queued))]
    · rw [snapshotEnd_full full]
  · rw [isolationEnd, if_pos ⟨m, waited, attached⟩]
    rfl
  · rw [isolationEnd, if_neg]
    rintro ⟨m, waited, attached⟩
    simp [m, waited, attached] at early

/-! ## Lists kept oldest first (R95) -/

theorem mem_insertByField {α : Type} (key : α → FieldNo) (a x : α) (l : List α) :
    x ∈ insertByField key a l ↔ x = a ∨ x ∈ l := by
  induction l with
  | nil => simp [insertByField]
  | cons y ys ih =>
    unfold insertByField
    split
    · simp
    · simp only [List.mem_cons, ih]
      exact or_left_comm

theorem newer_iff_of_within {base f g : FieldNo} (hf : (f - base).toNat < 32768)
    (hg : (g - base).toNat < 32768) : newer f g = true ↔ (g - base).toNat < (f - base).toNat := by
  simp only [newer, Bool.and_eq_true, decide_eq_true_eq]
  bv_omega

theorem within_injective {base f g : FieldNo} (h : (f - base).toNat = (g - base).toNat) : f = g := by
  bv_omega

theorem insertByField_ordered {base n : FieldNo} {l : List FieldNo} (hn : (n - base).toNat < 32768)
    (within : WithinHalf base l) (absent : n ∉ l) (ordered : OldestFirst l) :
    OldestFirst (insertByField id n l) := by
  induction l with
  | nil => simp [insertByField, OldestFirst]
  | cons x xs ih =>
    obtain ⟨first, rest⟩ := List.pairwise_cons.mp ordered
    obtain ⟨other, notIn⟩ := not_or.mp (mt List.mem_cons.mpr absent)
    have hx := within x List.mem_cons_self
    have tail : WithinHalf base xs := fun y hy => within y (List.mem_cons_of_mem x hy)
    unfold insertByField
    split
    case isTrue below =>
      refine List.pairwise_cons.mpr ⟨fun y hy => ?_, ordered⟩
      obtain rfl | later := List.mem_cons.mp hy
      · exact below
      · have hy' := tail y later
        have up := (newer_iff_of_within hx hn).mp below
        have upper := (newer_iff_of_within hy' hx).mp (first y later)
        exact (newer_iff_of_within hy' hn).mpr (by omega)
    case isFalse above =>
      refine List.pairwise_cons.mpr ⟨fun y hy => ?_, ih tail notIn rest⟩
      obtain rfl | later := (mem_insertByField id n y xs).mp hy
      · have notBelow := mt (newer_iff_of_within hx hn).mpr above
        have differ : (y - base).toNat ≠ (x - base).toNat := fun e => other (within_injective e)
        exact (newer_iff_of_within hn hx).mpr (by omega)
      · exact first y later

theorem filter_within {base : FieldNo} {l : List FieldNo} (p : FieldNo → Bool) (h : WithinHalf base l) :
    WithinHalf base (l.filter p) :=
  fun f hf => h f (List.mem_of_mem_filter hf)

theorem insert_within {base n : FieldNo} {l : List FieldNo} (hn : (n - base).toNat < 32768)
    (h : WithinHalf base l) : WithinHalf base (insertByField id n l) := by
  intro f hf
  obtain rfl | old := (mem_insertByField id n f l).mp hf
  · exact hn
  · exact h f old

/-! ## A CLOSE asked for (R95) -/

theorem sameRound_close_iff (f : FieldNo) (x : Queued) :
    sameRound (.close f) x = true ↔ x = .close f := by
  cases x with
  | close g => simpa [sameRound] using eq_comm
  | _ => simp [sameRound]

theorem close_queued_iff (f : FieldNo) (qs : List Queued) :
    qs.any (sameRound (.close f)) = true ↔ Queued.close f ∈ qs := by
  simp [sameRound_close_iff]

theorem alreadyClosed_iff (a : AgreedState) (n : FieldNo) :
    alreadyClosed a n = true ↔ newerThan n a.lastClosed = false := by
  simp [alreadyClosed]

theorem askClose_closed {s : State} {n : FieldNo} (h : newerThan n s.cu.agreed.lastClosed = false) :
    askClose n s = s :=
  if_pos ((alreadyClosed_iff _ _).mpr h)

theorem askClose_open {s : State} {n : FieldNo} (h : newerThan n s.cu.agreed.lastClosed = true) :
    ¬ alreadyClosed s.cu.agreed n = true := by
  simp [alreadyClosed, h]

theorem askClose_full {s : State} {n : FieldNo} (h : newerThan n s.cu.agreed.lastClosed = true)
    (full : 8 ≤ s.pli.urgent.length) : askClose n s = oweClose n s := by
  rw [askClose, if_neg (askClose_open h), urgentAnswer_full full]

theorem askClose_queued {s : State} {n : FieldNo} (room : s.pli.urgent.length < 8)
    (queued : Queued.close n ∈ s.pli.urgent) : askClose n s = s := by
  have answer : urgentAnswer (.close n) s = .duplicate := by
    have fits : ¬ Config.urgentCapacity ≤ s.pli.urgent.length := Nat.not_le.mpr room
    rw [urgentAnswer, if_neg fits,
      if_pos ((close_queued_iff n _).mpr queued)]
  unfold askClose
  split
  · rfl
  · rw [answer]

theorem askClose_room {s : State} {n : FieldNo} (h : newerThan n s.cu.agreed.lastClosed = true)
    (member : s.cu.membership = .member) (room : s.pli.urgent.length < 8)
    (new : Queued.close n ∉ s.pli.urgent) : askClose n s = pushUrgent (.close n) s := by
  have distinct : s.pli.urgent.any (sameRound (.close n)) = false := by
    rw [← Bool.not_eq_true, close_queued_iff]
    exact new
  rw [askClose, if_neg (askClose_open h), urgentAnswer_room room distinct (by rw [member]; rfl)]

theorem mem_oweClose (n : FieldNo) (s : State) : n ∈ (oweClose n s).cu.owedCloses := by
  unfold oweClose
  split
  · next has => simpa using has
  · simp [mem_insertByField]

theorem oweClose_eq (n : FieldNo) (s : State) :
    oweClose n s = s.setCu { s.cu with owedCloses := (oweClose n s).cu.owedCloses } := by
  unfold oweClose
  split <;> rfl

theorem oweClose_ordered {base n : FieldNo} {s : State} (within : WithinHalf base (n :: s.cu.owedCloses))
    (ordered : OldestFirst s.cu.owedCloses) : OldestFirst (oweClose n s).cu.owedCloses := by
  have hn := within n List.mem_cons_self
  have rest : WithinHalf base s.cu.owedCloses := fun f hf => within f (List.mem_cons_of_mem n hf)
  unfold oweClose
  split
  · exact ordered
  · next absent => exact insertByField_ordered hn rest (by simpa using absent) ordered

/-! ## The expiry of a vote timer (R94, R95) -/

/-- The vote timer for field N no longer runs. -/
def stopTimer (n : FieldNo) (s : State) : State :=
  s.setCu { s.cu with timers := s.cu.timers.filter fun x => x.field != n }

theorem timerExpiry_idle {s : State} {f : FieldNo} (h : ∀ x ∈ s.cu.timers, x.field ≠ f) :
    timerExpiry f s = s := by
  have none_ : (s.cu.timers.find? fun t => t.field == f) = none := by simpa using h
  simp [timerExpiry, none_]

theorem timerExpiry_runs {s : State} {f : FieldNo} {x : VoteTimer} (mem : x ∈ s.cu.timers)
    (field : x.field = f) (single : ∀ y ∈ s.cu.timers, y.field = f → y = x) :
    timerExpiry f s = if x.handed then askClose f (stopTimer f s) else holdExpiry f (stopTimer f s) := by
  have found : (s.cu.timers.find? fun t => t.field == f) = some x := by
    cases eq : s.cu.timers.find? fun t => t.field == f with
    | none => exact absurd field (by simpa using List.find?_eq_none.mp eq x mem)
    | some y =>
      have isField : y.field = f := by simpa using List.find?_some eq
      rw [single y (List.mem_of_find?_eq_some eq) isField]
  simp only [timerExpiry, found]
  rfl

/-- R95: what an expiry does in MEMBER, by the room in the Urgent Queue. -/
theorem askClose_cases {s : State} (n : FieldNo) (member : s.cu.membership = .member) :
    (askClose n s = s ∧
        (newerThan n s.cu.agreed.lastClosed = false ∨
          (s.pli.urgent.length < 8 ∧ Queued.close n ∈ s.pli.urgent))) ∨
      (askClose n s = oweClose n s ∧ newerThan n s.cu.agreed.lastClosed = true ∧
        8 ≤ s.pli.urgent.length) ∨
      (askClose n s = pushUrgent (.close n) s ∧ newerThan n s.cu.agreed.lastClosed = true ∧
        s.pli.urgent.length < 8 ∧ Queued.close n ∉ s.pli.urgent) := by
  cases h : newerThan n s.cu.agreed.lastClosed with
  | false => exact .inl ⟨askClose_closed h, .inl rfl⟩
  | true =>
    by_cases room : s.pli.urgent.length < 8
    · by_cases queued : Queued.close n ∈ s.pli.urgent
      · exact .inl ⟨askClose_queued room queued, .inr ⟨room, queued⟩⟩
      · exact .inr (.inr ⟨askClose_room h member room queued, rfl, room, queued⟩)
    · exact .inr (.inl ⟨askClose_full h (Nat.not_lt.mp room), rfl, Nat.not_lt.mp room⟩)

/-! ## Requests made again (R95) -/

/-- R95: `s` with parcels queued and the owed CLOSEs replaced. -/
def owing (s : State) (qs : List Queued) (owed : List FieldNo) : State :=
  (s.setPli { s.pli with urgent := s.pli.urgent ++ qs }).setCu { s.cu with owedCloses := owed }

theorem owing_owing (s : State) (qs rs : List Queued) (o p : List FieldNo) :
    owing (owing s qs o) rs p = owing s (qs ++ rs) p := by
  simp [owing, State.setPli, State.setCu]

theorem owing_self (s : State) : owing s [] s.cu.owedCloses = s := by
  simp [owing, State.setPli, State.setCu]

/-- The owed CLOSEs but one. -/
def otherOwed (s : State) (n : FieldNo) : List FieldNo := s.cu.owedCloses.filter fun m => m != n

/-- R95: the four answers to a CLOSE asked for again. -/
theorem askOwed_cases {s : State} (n : FieldNo) (member : s.cu.membership = .member) :
    (askOwed s n = owing s [] (otherOwed s n) ∧
        (newerThan n s.cu.agreed.lastClosed = false ∨
          (s.pli.urgent.length < 8 ∧ Queued.close n ∈ s.pli.urgent))) ∨
      (askOwed s n = owing s [] (insertByField id n (otherOwed s n)) ∧
        newerThan n s.cu.agreed.lastClosed = true ∧ 8 ≤ s.pli.urgent.length) ∨
      (askOwed s n = owing s [.close n] (otherOwed s n) ∧
        newerThan n s.cu.agreed.lastClosed = true ∧ s.pli.urgent.length < 8) := by
  have dropped : owing s [] (otherOwed s n) = s.setCu { s.cu with owedCloses := otherOwed s n } := by
    simp [owing, State.setPli, State.setCu]
  have asked : askOwed s n = askClose n (s.setCu { s.cu with owedCloses := otherOwed s n }) :=
    if_pos member
  obtain ⟨eq, why⟩ | ⟨eq, open_, full⟩ | ⟨eq, open_, room, -⟩ :=
    askClose_cases (s := s.setCu { s.cu with owedCloses := otherOwed s n }) n member
  · exact .inl ⟨by rw [asked, eq, dropped], why⟩
  · have absent : (otherOwed s n).contains n = false := by simp [otherOwed]
    refine .inr (.inl ⟨?_, open_, full⟩)
    rw [asked, eq, oweClose, if_neg (by rw [State.setCu_cu, absent]; nofun)]
    simp [owing, State.setPli, State.setCu]
  · exact .inr (.inr ⟨by rw [asked, eq]; rfl, open_, room⟩)

/-- R95: what asking again for a list of CLOSEs queues and leaves owed. -/
structure Requeued (l : List FieldNo) (s : State) (asked owed : List FieldNo) : Prop where
  sub : asked.Sublist l
  open_ : ∀ f ∈ asked, newerThan f s.cu.agreed.lastClosed = true
  gone : l.Nodup → ∀ f ∈ asked, f ∉ owed
  ordered : ∀ base, WithinHalf base s.cu.owedCloses → WithinHalf base l →
    OldestFirst s.cu.owedCloses → OldestFirst owed
  source : ∀ f ∈ owed,
    (f ∈ s.cu.owedCloses ∧ f ∉ l) ∨ (f ∈ l ∧ newerThan f s.cu.agreed.lastClosed = true)
  stays : ∀ f ∈ s.cu.owedCloses, newerThan f s.cu.agreed.lastClosed = true →
    8 ≤ s.pli.urgent.length → f ∈ owed
  done : ∀ f ∈ l, newerThan f s.cu.agreed.lastClosed = true →
    Queued.close f ∈ s.pli.urgent ++ asked.map Queued.close ∨
      (f ∈ owed ∧ 8 ≤ (s.pli.urgent ++ asked.map Queued.close).length)

theorem mem_otherOwed {s : State} {n f : FieldNo} :
    f ∈ otherOwed s n ↔ f ∈ s.cu.owedCloses ∧ f ≠ n := by
  simp [otherOwed]

/-- One more CLOSE, asked for before the others: `more` is what it queued, `kept` what stays owed. -/
theorem Requeued.cons {n : FieldNo} {l : List FieldNo} {s : State} {more asked kept owed : List FieldNo}
    (h : Requeued l (owing s (more.map Queued.close) kept) asked owed)
    (more_ : more = [] ∨ more = [n] ∧ newerThan n s.cu.agreed.lastClosed = true)
    (others : ∀ f, f ≠ n → (f ∈ kept ↔ f ∈ s.cu.owedCloses))
    (again : n ∈ kept → newerThan n s.cu.agreed.lastClosed = true)
    (left : n ∈ kept → more = [])
    (full : n ∈ s.cu.owedCloses → newerThan n s.cu.agreed.lastClosed = true →
      8 ≤ s.pli.urgent.length → n ∈ kept)
    (met : newerThan n s.cu.agreed.lastClosed = true →
      Queued.close n ∈ s.pli.urgent ++ more.map Queued.close ∨
        (n ∈ kept ∧ 8 ≤ s.pli.urgent.length))
    (within : ∀ base, WithinHalf base s.cu.owedCloses → (n - base).toNat < 32768 →
      WithinHalf base kept)
    (ordered : ∀ base, WithinHalf base s.cu.owedCloses → (n - base).toNat < 32768 →
      OldestFirst s.cu.owedCloses → OldestFirst kept) :
    Requeued (n :: l) s (more ++ asked) owed := by
  have queue : s.pli.urgent ++ (more ++ asked).map Queued.close =
      (owing s (more.map Queued.close) kept).pli.urgent ++ asked.map Queued.close := by
    simp [owing]
  have longer : 8 ≤ s.pli.urgent.length →
      8 ≤ (owing s (more.map Queued.close) kept).pli.urgent.length := by
    simp only [owing, State.setCu_pli, State.setPli_pli, List.length_append]
    omega
  refine ⟨?_, ?_, ?_, ?_, ?_, ?_, ?_⟩
  · obtain rfl | ⟨rfl, -⟩ := more_
    · exact h.sub.trans (List.sublist_cons_self n l)
    · exact h.sub.cons_cons n
  · intro f hf
    obtain new | old := List.mem_append.mp hf
    · obtain rfl | ⟨rfl, open_⟩ := more_
      · cases new
      · rwa [List.mem_singleton.mp new]
    · exact h.open_ f old
  · intro nodup f hf
    obtain ⟨notIn, rest⟩ := List.nodup_cons.mp nodup
    obtain new | old := List.mem_append.mp hf
    · obtain rfl | ⟨rfl, open_⟩ := more_
      · cases new
      · obtain rfl := List.mem_singleton.mp new
        intro owes
        obtain ⟨kept_, -⟩ | ⟨later, -⟩ := h.source f owes
        · exact absurd (left kept_) nofun
        · exact notIn later
    · exact h.gone rest f old
  · intro base hs hl first
    have hn := hl n List.mem_cons_self
    exact h.ordered base (within base hs hn) (fun f hf => hl f (List.mem_cons_of_mem n hf))
      (ordered base hs hn first)
  · intro f hf
    obtain ⟨kept_, notIn⟩ | ⟨later, open_⟩ := h.source f hf
    · by_cases same : f = n
      · subst same
        exact .inr ⟨List.mem_cons_self, again kept_⟩
      · exact .inl ⟨(others f same).mp kept_, by simp [same, notIn]⟩
    · exact .inr ⟨List.mem_cons_of_mem n later, open_⟩
  · intro f hf open_ long
    refine h.stays f ?_ open_ (longer long)
    by_cases same : f = n
    · subst same
      exact full hf open_ long
    · exact (others f same).mpr hf
  · intro f hf open_
    rw [queue]
    obtain rfl | later := List.mem_cons.mp hf
    · obtain queued | ⟨kept_, long⟩ := met open_
      · exact .inl (List.mem_append_left _ queued)
      · exact .inr ⟨h.stays f kept_ open_ (longer long), by
          rw [List.length_append]; exact Nat.le_add_right_of_le (longer long)⟩
    · exact h.done f later open_

theorem closeRequeue_requeued (l : List FieldNo) {s : State} (member : s.cu.membership = .member) :
    ∃ asked owed, l.foldl askOwed s = owing s (asked.map Queued.close) owed ∧
      Requeued l s asked owed := by
  induction l generalizing s with
  | nil =>
    exact ⟨[], s.cu.owedCloses, (owing_self s).symm, ⟨List.Sublist.refl [], nofun, fun _ => nofun,
      fun _ _ _ h => h, fun f hf => .inl ⟨hf, nofun⟩, fun _ hf _ _ => hf, nofun⟩⟩
  | cons n l ih =>
    have others (f : FieldNo) (other : f ≠ n) : f ∈ otherOwed s n ↔ f ∈ s.cu.owedCloses := by
      simp [mem_otherOwed, other]
    have absent : n ∉ otherOwed s n := by simp [mem_otherOwed]
    have filtered (base : FieldNo) (h : WithinHalf base s.cu.owedCloses) :
        WithinHalf base (otherOwed s n) := filter_within _ h
    have kept (h : OldestFirst s.cu.owedCloses) : OldestFirst (otherOwed s n) := h.filter _
    obtain ⟨eq, why⟩ | ⟨eq, open_, full⟩ | ⟨eq, open_, room⟩ := askOwed_cases n member
    · obtain ⟨asked, owed, rest, h⟩ := ih (s := owing s [] (otherOwed s n)) member
      refine ⟨asked, owed, by rw [List.foldl_cons, eq, rest, owing_owing]; rfl,
        h.cons (more := []) (.inl rfl) others (absurd · absent) (fun _ => rfl)
          (fun _ open_ full => ?_) (fun open_ => ?_) (fun base hs _ => filtered base hs)
          (fun _ _ _ => kept)⟩
      · obtain closed | ⟨room, -⟩ := why
        · simp [closed] at open_
        · omega
      · obtain closed | ⟨-, queued⟩ := why
        · simp [closed] at open_
        · exact .inl (List.mem_append_left _ queued)
    · obtain ⟨asked, owed, rest, h⟩ := ih (s := owing s [] (insertByField id n (otherOwed s n))) member
      have mem := (mem_insertByField id n n (otherOwed s n)).mpr (.inl rfl)
      have same (f : FieldNo) (other : f ≠ n) :
          f ∈ insertByField id n (otherOwed s n) ↔ f ∈ s.cu.owedCloses := by
        rw [mem_insertByField, ← others f other]
        simp [other]
      exact ⟨asked, owed, by rw [List.foldl_cons, eq, rest, owing_owing]; rfl,
        h.cons (more := []) (.inl rfl) same (fun _ => open_) (fun _ => rfl) (fun _ _ _ => mem)
          (fun _ => .inr ⟨mem, full⟩) (fun base hs hn => insert_within hn (filtered base hs))
          (fun base hs hn first => insertByField_ordered hn (filtered base hs) absent (kept first))⟩
    · obtain ⟨asked, owed, rest, h⟩ := ih (s := owing s [.close n] (otherOwed s n)) member
      exact ⟨n :: asked, owed, by rw [List.foldl_cons, eq, rest, owing_owing]; rfl,
        h.cons (more := [n]) (.inr ⟨rfl, open_⟩) others (absurd · absent) (absurd · absent)
          (fun _ _ full => by omega) (fun _ => .inl (by simp))
          (fun base hs _ => filtered base hs) (fun _ _ _ => kept)⟩

/-- Settles O29. -/
theorem timersAndOwedRequests : Obligations.TimersAndOwedRequests := by
  refine ⟨fun s f h none_ => ?_, fun s f x h member mem field single => ?_, fun s h asks => ?_,
    fun s h => ⟨fun m owed room => ?_, fun early => ?_⟩⟩
  · exact (live_next_of_pending h (by simp)).trans (congrArg _ (timerExpiry_idle none_))
  · have runs := timerExpiry_runs mem field single
    refine ⟨timerExpiry f s, live_next_of_pending h (by simp), ?_⟩
    cases handed : x.handed with
    | false =>
      rw [runs, handed, if_neg nofun]
      exact ⟨rfl, fun _ _ first => first, fun _ => ⟨(mem_insertByField id f f _).mpr (.inl rfl), rfl, rfl⟩,
        nofun⟩
    | true =>
      rw [runs, handed, if_pos rfl]
      obtain ⟨eq, why⟩ | ⟨eq, open_, full⟩ | ⟨eq, open_, room, new⟩ :=
        askClose_cases (s := stopTimer f s) f member
      · rw [eq]
        refine ⟨rfl, fun _ _ first => first, nofun, fun _ => ⟨rfl, fun _ => ⟨rfl, rfl⟩, fun open_ =>
          ⟨fun full => ?_, fun _ _ => ⟨rfl, rfl⟩, fun _ new => ?_⟩⟩⟩
        · obtain closed | ⟨room, -⟩ := why
          · exact absurd (open_.symm.trans closed) nofun
          · exact absurd full (Nat.not_le.mpr room)
        · obtain closed | ⟨-, queued⟩ := why
          · exact absurd (open_.symm.trans closed) nofun
          · exact absurd queued new
      · have closedNot {p : Prop} (closed : newerThan f s.cu.agreed.lastClosed = false) : p :=
          absurd (open_.symm.trans closed) nofun
        rw [eq]
        refine ⟨?_, fun base within first => oweClose_ordered (s := stopTimer f s) within first, nofun,
          fun _ => ⟨?_, closedNot, fun _ => ⟨fun _ => ⟨mem_oweClose f _, ?_⟩, fun room => ?_,
            fun room => ?_⟩⟩⟩
        · rw [oweClose_eq]
          rfl
        · rw [oweClose_eq]
          rfl
        · rw [oweClose_eq]
          rfl
        · exact absurd full (Nat.not_le.mpr room)
        · exact absurd full (Nat.not_le.mpr room)
      · rw [eq]
        exact ⟨rfl, fun _ _ first => first, nofun, fun _ => ⟨rfl,
          fun closed => absurd (open_.symm.trans closed) nofun, fun _ =>
          ⟨fun full => absurd full (Nat.not_le.mpr room), fun _ queued => absurd queued new,
            fun _ _ => ⟨rfl, rfl⟩⟩⟩⟩
  · have next : exec .closeRequeue s = .next (closeRequeue s) := live_next_of_pending h (by simp)
    obtain ⟨asked, owed, eq, done⟩ : ∃ asked owed,
        closeRequeue s = owing s (asked.map Queued.close) owed ∧
          Requeued s.cu.owedCloses s asked owed := by
      obtain member | none_ := asks
      · exact closeRequeue_requeued s.cu.owedCloses member
      · refine ⟨[], [], ?_, ⟨List.nil_sublist _, nofun, fun _ => nofun, fun _ _ _ _ => List.Pairwise.nil,
          nofun, by simp [none_], by simp [none_]⟩⟩
        rw [closeRequeue, none_]
        have same := owing_self s
        rw [none_] at same
        exact same.symm
    refine ⟨_, asked, next, done.sub, ?_, done.open_, ?_, ?_, ?_, ?_⟩
    · rw [eq]
      rfl
    · rw [eq]
      exact done.gone
    · rw [eq]
      exact fun base within first => ⟨first.sublist done.sub, done.ordered base within within first⟩
    · rw [eq]
      exact done.done
    · rw [eq]
      intro f hf
      obtain ⟨owes, notIn⟩ | both := done.source f hf
      · exact absurd owes notIn
      · exact both
  · refine (live_next_of_pending h (by simp)).trans (congrArg _ ?_)
    rw [leaveRequeue, if_pos ⟨m, owed⟩, askLeave_room room (by rw [m]; rfl)]
    rfl
  · refine (live_next_of_pending h (by simp)).trans (congrArg _ ?_)
    unfold leaveRequeue
    split
    · next both =>
      obtain ⟨m, owed⟩ := both
      obtain other | unowed | full := early
      · exact absurd m other
      · exact absurd (owed.symm.trans unowed) nofun
      · exact askLeave_full full
    · rfl

end Sys2Proof.Machine
end

section
/-! SUPPORT. Sets offered to a neighbour (chapter 8) and the words of an output row (chapter 10). -/

namespace Sys2Proof.Machine

/-! ## The offer of a set (R55, R152, R153) -/

theorem bulkAccepts_iff (ps : List HaloParcel) (s : State) :
    bulkAccepts ps s = true ↔
      s.pli.bulk.length + ps.length ≤ 16 ∧ refusesQueueing s.cu.membership = false := by
  simp only [bulkAccepts, Bool.and_eq_true, Bool.not_eq_true']
  exact and_congr_left' decide_eq_true_iff

theorem setParcels_length (n : Station) (set : HaloSet) :
    (setParcels n set).length = set.lines.length := by
  simp [setParcels]

/-- R152: a set for which there is credit and room is queued whole. -/
theorem offerSet_room {s : State} {side : Side} {n : Station} {set : HaloSet}
    (neighbour : neighbourOf s side = some n) (credit : 1 ≤ (dirOf s side).credit)
    (room : s.pli.bulk.length + set.lines.length ≤ 16)
    (queues : refusesQueueing s.cu.membership = false) :
    offerSet side set s =
      (s.setDir side
        { dirOf s side with
          credit := (dirOf s side).credit - 1
          pending := none
          outbound := (dirOf s side).outbound ++
            [{ frame := set.frame, remaining := set.lines.length, taken := 0
               lossCounted := false }]
          setsSent := (dirOf s side).setsSent + 1 }).setPli
        { s.pli with
          bulk := s.pli.bulk ++
            set.lines.map fun l =>
              { addressee := n, frame := set.frame, line := l.1, samples := l.2 } } := by
  have accepts : bulkAccepts (setParcels n set) s = true :=
    (bulkAccepts_iff _ _).mpr ⟨by rw [setParcels_length]; exact room, queues⟩
  simp only [offerSet, neighbour, accepts, Bool.and_true, decide_eq_true_eq, credit, if_true,
    setParcels_length, pushBulk, State.setDir_frame]
  rfl

/-- R152: a set that is not accepted is pending. -/
theorem offerSet_waits {s : State} {side : Side} {n : Station} {set : HaloSet}
    (neighbour : neighbourOf s side = some n)
    (h : (dirOf s side).credit = 0 ∨ 16 < s.pli.bulk.length + set.lines.length) :
    offerSet side set s = s.setDir side { dirOf s side with pending := some set } := by
  have refuses : (decide (1 ≤ (dirOf s side).credit) && bulkAccepts (setParcels n set) s) = false := by
    obtain spent | full := h
    · simp [spent]
    · have no : bulkAccepts (setParcels n set) s = false := by
        rw [← Bool.not_eq_true, bulkAccepts_iff, setParcels_length]
        omega
      simp [no]
  simp [offerSet, neighbour, refuses]

/-! ## Pending sets (R153) -/

theorem setDir_self (s : State) (side : Side) : s.setDir side (dirOf s side) = s := by
  cases side <;> rfl

theorem offerPending_none {s : State} {side : Side} (h : (dirOf s side).pending = none) :
    offerPending s side = s := by
  simp [offerPending, h]

theorem offerPending_some {s : State} {side : Side} {set : HaloSet}
    (h : (dirOf s side).pending = some set) : offerPending s side = offerSet side set s := by
  simp [offerPending, h]

theorem offerPending_waits {s : State} {side : Side} {n : Station} {set : HaloSet}
    (pending : (dirOf s side).pending = some set) (neighbour : neighbourOf s side = some n)
    (h : (dirOf s side).credit = 0 ∨ 16 < s.pli.bulk.length + set.lines.length) :
    offerPending s side = s := by
  rw [offerPending_some pending, offerSet_waits neighbour h, ← pending]
  exact setDir_self s side

theorem offerPending_offered {s : State} {side : Side} {n : Station} {set : HaloSet}
    (pending : (dirOf s side).pending = some set) (neighbour : neighbourOf s side = some n)
    (member : s.cu.membership = .member) : Offered n set side s (offerPending s side) := by
  refine ⟨offerPending_waits pending neighbour, fun credit room => ?_⟩
  rw [offerPending_some pending, offerSet_room neighbour credit room (by rw [member]; rfl)]

theorem offerPending_other {side other : Side} (h : other ≠ side) (s : State) :
    dirOf (offerPending s side) other = dirOf s other := by
  unfold offerPending offerSet
  split
  · rfl
  · split
    · rfl
    · dsimp only
      split
      · rw [pushBulk, dirOf_of_hx (State.setPli_hx _ _), dirOf_setDir_other h]
      · exact dirOf_setDir_other h ..

/-- Two pending sets, offered in turn. -/
theorem offerPending_both {s : State} {first second : Side} {n m : Station} {older newest : HaloSet}
    (differ : second ≠ first) (p1 : (dirOf s first).pending = some older)
    (p2 : (dirOf s second).pending = some newest) (n1 : neighbourOf s first = some n)
    (n2 : neighbourOf s second = some m) (member : s.cu.membership = .member) :
    Offered n older first s (offerPending s first) ∧
      Offered m newest second (offerPending s first) (offerPending (offerPending s first) second) := by
  refine ⟨offerPending_offered p1 n1 member, offerPending_offered ?_ ?_ (by simpa using member)⟩
  · rw [offerPending_other differ, p2]
  · rw [neighbourOf_of_cp (s := s) (by simp), n2]

theorem pendingOrder_both {h : Halo} {u d : HaloSet} (up : h.up.pending = some u)
    (down : h.down.pending = some d) :
    pendingOrder h = if newer u.frame d.frame then [.lower, .upper] else [.upper, .lower] := by
  simp [pendingOrder, up, down]

theorem pendingOrder_single {h : Halo} (none_ : h.up.pending = none ∨ h.down.pending = none) :
    pendingOrder h = [.upper, .lower] := by
  unfold pendingOrder
  split
  · next up down => simp [up, down] at none_
  · rfl

/-- With one set pending only its side is offered. -/
theorem offerPendingSets_single {s : State} {side other : Side}
    (sides : side = .upper ∧ other = .lower ∨ side = .lower ∧ other = .upper)
    (none_ : (dirOf s other).pending = none) : offerPendingSets s = offerPending s side := by
  have still : (dirOf (offerPending s side) other).pending = none := by
    rw [offerPending_other, none_]
    obtain ⟨rfl, rfl⟩ | ⟨rfl, rfl⟩ := sides <;> nofun
  obtain ⟨rfl, rfl⟩ | ⟨rfl, rfl⟩ := sides
  · rw [offerPendingSets, pendingOrder_single (.inr none_), List.foldl_cons, List.foldl_cons,
      List.foldl_nil, offerPending_none still]
  · rw [offerPendingSets, pendingOrder_single (.inl none_), List.foldl_cons, List.foldl_cons,
      List.foldl_nil, offerPending_none none_]

/-- Settles O48. -/
theorem pendingSetsAreOfferedAgain : Obligations.PendingSetsAreOfferedAgain := by
  intro s h
  have next : exec .pendingSetOffer s = .next (offerPendingSets s) := live_next_of_pending h (by simp)
  rw [next]
  refine ⟨fun up down => ?_, fun side other n set sides pending none_ neighbour => ?_,
    fun up down above below first second nFirst nSecond older newest pUp pDown nUp nDown member
      newerFirst olderFirst => ?_⟩
  · rw [offerPendingSets_single (side := .upper) (.inl ⟨rfl, rfl⟩) down,
      offerPending_none (side := .upper) up]
  · rw [offerPendingSets_single sides none_]
    exact ⟨fun waits => by rw [offerPending_waits pending neighbour waits],
      fun member => ⟨_, rfl, offerPending_offered pending neighbour member⟩⟩
  · refine ⟨offerPending s first, offerPending (offerPending s first) second, ?_, ?_⟩
    · cases order : newer up.frame down.frame with
      | true =>
        obtain ⟨a, b⟩ := newerFirst order
        cases a
        cases b
        rw [offerPendingSets, pendingOrder_both pUp pDown, order]
        rfl
      | false =>
        obtain ⟨a, b⟩ := olderFirst order
        cases a
        cases b
        rw [offerPendingSets, pendingOrder_both pUp pDown, order]
        rfl
    · cases order : newer up.frame down.frame with
      | true =>
        obtain ⟨a, b⟩ := newerFirst order
        cases a
        cases b
        exact offerPending_both nofun pDown pUp nDown nUp member
      | false =>
        obtain ⟨a, b⟩ := olderFirst order
        cases a
        cases b
        exact offerPending_both nofun pUp pDown nUp nDown member

/-! ## The words of a row (R199) -/

theorem rowWords_length : ∀ (ys cbs crs : List Sample), ys.length = 2 * cbs.length →
    crs.length = cbs.length → (rowWords ys cbs crs).length = 4 * cbs.length
  | [], [], [], _, _ => rfl
  | [_], _, _, hy, _ => by simp only [List.length_singleton] at hy; omega
  | y0 :: y1 :: ys, cb :: cbs, cr :: crs, hy, hc => by
    have ih := rowWords_length ys cbs crs (by simp at hy; omega) (by simpa using hc)
    simp only [rowWords, List.length_cons, ih]
    omega

/-- R199: the samples of a row stand in the order Cb, Y, Cr, Y. -/
theorem rowWords_get : ∀ (ys cbs crs : List Sample) (j : Nat) (y0 y1 b r : Sample),
    ys.length = 2 * cbs.length → crs.length = cbs.length → cbs[j]? = some b → crs[j]? = some r →
    ys[2 * j]? = some y0 → ys[2 * j + 1]? = some y1 →
    (rowWords ys cbs crs)[4 * j]? = some (b.setWidth 16) ∧
      (rowWords ys cbs crs)[4 * j + 1]? = some (y0.setWidth 16) ∧
      (rowWords ys cbs crs)[4 * j + 2]? = some (r.setWidth 16) ∧
      (rowWords ys cbs crs)[4 * j + 3]? = some (y1.setWidth 16)
  | y :: y' :: ys, cb :: cbs, cr :: crs, 0, y0, y1, b, r, _, _, hb, hr, h0, h1 => by
    simp only [List.getElem?_cons_zero, Option.some.injEq, Nat.mul_zero, Nat.zero_add,
      List.getElem?_cons_succ] at hb hr h0 h1
    subst hb hr h0 h1
    exact ⟨rfl, rfl, rfl, rfl⟩
  | y :: y' :: ys, cb :: cbs, cr :: crs, j + 1, y0, y1, b, r, hy, hc, hb, hr, h0, h1 =>
    rowWords_get ys cbs crs j y0 y1 b r (by simp at hy; omega) (by simpa using hc)
      (by simpa using hb) (by simpa using hr) (by simpa [Nat.mul_add] using h0)
      (by simpa [Nat.mul_add] using h1)

theorem flat_length (c : ConfigItems) (y cb cr : Nat) :
    (flatRow c y cb cr).y.length = 2 * (flatRow c y cb cr).cb.length ∧
      (flatRow c y cb cr).cr.length = (flatRow c y cb cr).cb.length ∧
      (flatRow c y cb cr).cb.length = outputColumns c / 2 := by
  have even : outputColumns c = 2 * (outputColumns c / 2) := by
    unfold outputColumns
    split <;> rfl
  simp only [flatRow, List.length_replicate, and_true]
  exact even

theorem sample_word (n : Nat) : (BitVec.ofNat 10 n).setWidth 16 = BitVec.ofNat 16 (n % 1024) := by
  apply BitVec.eq_of_toNat_eq
  simp

/-! ## An emission (R197, R199) -/

/-- The four words of a tag, then the words of the samples. -/
theorem tagged_get (row : Nat) (requested : FieldNo) (shown : Option FieldNo) (f : TagFlags)
    (words : List Word16) (n : Nat) :
    (rowTag row requested shown f ++ words)[4 + n]? = words[n]? := by
  rw [List.getElem?_append_right (by simp [rowTag])]
  simp [rowTag]

theorem rowTag_third (row : Nat) (requested : FieldNo) (shown : Option FieldNo) (f : TagFlags)
    (words : List Word16) :
    ((rowTag row requested shown f ++ words)[3]?).map (·.toNat) =
      some ((if shown = none then 0 else 32768) + (if f.black then 32 else 0) +
        (if f.fill then 16 else 0) + (if f.repaired then 8 else 0) +
        (if f.seamClamped then 4 else 0) + (if f.unagreed then 2 else 0) +
        (if f.repeats then 1 else 0)) := by
  have bits (b : Bool) : bit b ≤ 1 := by cases b <;> decide
  have weigh (b : Bool) (w : Nat) : (if b then w else 0) = bit b * w := by cases b <;> simp [bit]
  have has : (if shown = none then 0 else 32768) = bit shown.isSome * 32768 := by
    cases shown <;> simp [bit]
  have b0 := bits shown.isSome
  have b1 := bits f.black
  have b2 := bits f.fill
  have b3 := bits f.repaired
  have b4 := bits f.seamClamped
  have b5 := bits f.unagreed
  have b6 := bits f.repeats
  simp only [weigh, has, rowTag, List.cons_append, List.nil_append, List.getElem?_cons_succ,
    List.getElem?_cons_zero, Option.map_some, BitVec.toNat_ofNat, Option.some.injEq]
  omega

/-- A row of one colour, sent with a tag. -/
theorem flat_words (c : ConfigItems) (y cb cr : Nat) (tag : List Word16) (ht : tag.length = 4)
    (words : List Word16)
    (hw : words = tag ++ rowWords (flatRow c y cb cr).y (flatRow c y cb cr).cb (flatRow c y cb cr).cr) :
    words.length = 4 + 2 * outputColumns c ∧
      ∀ j, j < outputColumns c / 2 →
        words[4 + 4 * j]? = some (BitVec.ofNat 16 (cb % 1024)) ∧
        words[5 + 4 * j]? = some (BitVec.ofNat 16 (y % 1024)) ∧
        words[6 + 4 * j]? = some (BitVec.ofNat 16 (cr % 1024)) ∧
        words[7 + 4 * j]? = some (BitVec.ofNat 16 (y % 1024)) := by
  obtain ⟨hy, hcr, hcb⟩ := flat_length c y cb cr
  have columns : outputColumns c = 2 * (outputColumns c / 2) := by
    unfold outputColumns
    split <;> rfl
  subst hw
  refine ⟨?_, fun j hj => ?_⟩
  · rw [List.length_append, ht, rowWords_length _ _ _ hy hcr, hcb]
    omega
  · have at_ (n : Nat) (l : List Word16) : (tag ++ l)[4 + n]? = l[n]? := by
      rw [List.getElem?_append_right (by omega), ht, Nat.add_sub_cancel_left]
    obtain ⟨w0, w1, w2, w3⟩ := rowWords_get _ _ _ j (BitVec.ofNat 10 y) (BitVec.ofNat 10 y)
      (BitVec.ofNat 10 cb) (BitVec.ofNat 10 cr) hy hcr
      (by simp [flatRow, hj]) (by simp [flatRow, hj])
      (by simp only [flatRow]; rw [List.getElem?_replicate, if_pos (by omega)])
      (by simp only [flatRow]; rw [List.getElem?_replicate, if_pos (by omega)])
    rw [show 5 + 4 * j = 4 + (4 * j + 1) by omega, show 6 + 4 * j = 4 + (4 * j + 2) by omega,
      show 7 + 4 * j = 4 + (4 * j + 3) by omega, at_, at_, at_, at_, w0, w1, w2, w3]
    simp only [sample_word, and_self]

theorem emissionWords_fill (s : State) {e : Emission} (h : e.source = .fill) :
    emissionWords s e =
      rowTag e.next e.requested e.shown { TagFlags.clear with fill := true } ++
        rowWords (flatRow s.cp.config s.cp.config.fillY s.cp.config.fillCb s.cp.config.fillCr).y
          (flatRow s.cp.config s.cp.config.fillY s.cp.config.fillCb s.cp.config.fillCr).cb
          (flatRow s.cp.config s.cp.config.fillY s.cp.config.fillCb s.cp.config.fillCr).cr := by
  simp only [emissionWords, emittedRow, h]

theorem emissionWords_black (s : State) {e : Emission} (h : e.source = .black) :
    emissionWords s e =
      rowTag e.next e.requested e.shown { TagFlags.clear with black := true } ++
        rowWords (flatRow s.cp.config 64 512 512).y (flatRow s.cp.config 64 512 512).cb
          (flatRow s.cp.config 64 512 512).cr := by
  simp only [emissionWords, emittedRow, h]

theorem emissionWords_stored {s : State} {e : Emission} {i : Bool} {st : StoredRow}
    (h : e.source = .buffer i) (stored : storedRow s i e.next = some st) :
    emissionWords s e =
      rowTag e.next e.requested e.shown (storedFlags st.flags e.repeats) ++
        rowWords st.samples.y st.samples.cb st.samples.cr := by
  simp only [emissionWords, emittedRow, h, stored]

/-- Settles O55. -/
theorem rowEmitSendsTagAndSamples : Obligations.RowEmitSendsTagAndSamples := by
  have next (s : State) (h : Live s) : exec .rowEmit s = .next (emitRow s) :=
    live_next_of_pending h (by simp)
  refine ⟨fun s h none_ => ?_, fun s e h emits => ?_⟩
  · rw [next s h]
    simp [emitRow, none_]
  · have sent : emitRow s = s.setOp
        { s.op with lastRow := emissionWords s e, emission := afterEmitted s.cp.ownership e } := by
      simp [emitRow, emits]
    refine ⟨_, next s h, ?_⟩
    rw [sent]
    refine ⟨rfl, fun more => if_pos more, fun last => if_neg (Nat.not_lt.mpr last), fun small => ?_,
      rfl, rfl, fun fill => ?_, fun black => ?_, fun i st source stored => ?_⟩
    · have word : ((emissionWords s e)[0]?) = some (BitVec.ofNat 16 (e.next % 4096)) := rfl
      rw [State.setOp_op, word, Option.map_some, BitVec.toNat_ofNat]
      congr 1
      omega
    · have words := emissionWords_fill s fill
      refine ⟨?_, flat_words _ _ _ _ _ (by rfl) _ words⟩
      rw [State.setOp_op, words, rowTag_third]
      simp [TagFlags.clear]
    · have words := emissionWords_black s black
      refine ⟨?_, flat_words _ _ _ _ _ (by rfl) _ words⟩
      rw [State.setOp_op, words, rowTag_third]
      simp [TagFlags.clear]
    · have words := emissionWords_stored source stored
      refine ⟨?_, fun j y0 y1 b r hy hc hb hr h0 h1 => ?_⟩
      · rw [State.setOp_op, words, rowTag_third]
        cases e.shown <;> simp [storedFlags] <;> rfl
      · obtain ⟨w0, w1, w2, w3⟩ := rowWords_get _ _ _ j y0 y1 b r hy hc hb hr h0 h1
        rw [State.setOp_op, words, show 5 + 4 * j = 4 + (4 * j + 1) by omega,
          show 6 + 4 * j = 4 + (4 * j + 2) by omega, show 7 + 4 * j = 4 + (4 * j + 3) by omega,
          tagged_get, tagged_get, tagged_get, tagged_get]
        exact ⟨w0, w1, w2, w3⟩

end Sys2Proof.Machine
end

section
/-! SUPPORT. Takes (chapters 4 to 6, 8, 9): what a taken parcel's effect is, what applying it changes
and leaves, and the takes that change one record of the Agreed State alone. -/

namespace Sys2Proof.Machine

/-! ## The effect of a take, by its content -/

/-- R62, R65: the effect of a take that members apply and others record. -/
def memberTaken (p : Parcel) (own : Bool) (s : State) : State :=
  if s.cu.membership.applies then applyTakeOwn p.sender p.content s
  else recordHeard own p.sender true s

/-- What the take of a parcel does once its slot has closed, given whether it was the station's own. -/
def takeEffect (p : Parcel) : Bool → State → State :=
  match p.content with
  | .leave => leaveTaken p
  | .snapshot j a => snapshotTaken p j a
  | .join _ f _ => joinTaken p f
  | .report _ _ u d => reportTaken p u d
  | .halo h => haloTaken p.sender h
  | _ => memberTaken p

theorem exec_takeCommand (p : Parcel) (s : State) :
    exec (takeCommand p) s = live (takeParcel p (takeEffect p)) s := by
  obtain ⟨sender, epoch, content⟩ := p
  cases content <;> rfl

/-! ## What applying a take leaves -/

/-- What a reset of a direction leaves, a take's resets leave. -/
theorem resetTouched_get {γ : Type} (get : State → γ)
    (h : ∀ s side, get (resetDirection s side) = get s) (hd : ∀ s : State, get s.drawn = get s)
    (touched : List Station) (s : State) : get (resetTouched touched s) = get s := by
  refine keeps_onBothSides get _ (fun t side => ?_) hd s
  split
  · exact h t side
  · rfl

@[simp] theorem resetTouched_frame (s : State) (touched : List Station) :
    (resetTouched touched s).li = s.li ∧ (resetTouched touched s).fs = s.fs ∧
      (resetTouched touched s).fa = s.fa ∧ (resetTouched touched s).cu = s.cu ∧
      (resetTouched touched s).lb = s.lb ∧ (resetTouched touched s).op = s.op ∧
      (resetTouched touched s).cp = s.cp ∧ (resetTouched touched s).pending = s.pending ∧
      (resetTouched touched s).pli.attached = s.pli.attached ∧
      (resetTouched touched s).pli.urgent = s.pli.urgent ∧
      (resetTouched touched s).hx.timer = s.hx.timer :=
  ⟨resetTouched_get (fun t => t.li) (by simp) (by simp) touched s,
    resetTouched_get (fun t => t.fs) (by simp) (by simp) touched s,
    resetTouched_get (fun t => t.fa) (by simp) (by simp) touched s,
    resetTouched_get (fun t => t.cu) (by simp) (by simp) touched s,
    resetTouched_get (fun t => t.lb) (by simp) (by simp) touched s,
    resetTouched_get (fun t => t.op) (by simp) (by simp) touched s,
    resetTouched_get (fun t => t.cp) (by simp) (by simp) touched s,
    resetTouched_get (fun t => t.pending) (by simp) (by simp) touched s,
    resetTouched_get (fun t => t.pli.attached) (by simp) (by simp) touched s,
    resetTouched_get (fun t => t.pli.urgent) (by simp) (by simp) touched s,
    resetTouched_get (fun t => t.hx.timer) (by simp) (by simp) touched s⟩

theorem rosterChanged_nil (s : State) : rosterChanged [] s = s := rfl

theorem rosterChanged_some {touched : List Station} (h : touched ≠ []) (s : State) :
    rosterChanged touched s = resetTouched touched (s.raise .membershipChanged) := by
  rw [rosterChanged, if_neg]
  simpa using h

theorem checkOwnEntry_nil (s : State) : checkOwnEntry [] s = s := rfl

/-- A take that changes no roster entry and asks for no act changes the Agreed State alone. -/
theorem applyRun_quiet {run : TakeRun} (acts : run.acts = []) (touched : run.touched = [])
    (s : State) : applyRun run s = s.setAgreed run.agreed := by
  rw [applyRun, acts, touched]
  rfl

theorem applyRun_pending (run : TakeRun) (s : State) : (applyRun run s).pending = s.pending := by
  have acts (u : State) : (run.acts.foldl doAct u).pending = u.pending :=
    keeps_foldl (fun t : State => t.pending) doAct (fun t a => by simp) _ _
  unfold applyRun rosterChanged
  split <;> simp [acts]

/-- R62: applying a take leaves the Agreed State that its course leads to. -/
theorem applyRun_agreed (run : TakeRun) (s : State) : (applyRun run s).cu.agreed = run.agreed := by
  have acts (u : State) : (run.acts.foldl doAct u).cu.agreed = u.cu.agreed :=
    keeps_foldl (fun t : State => t.cu.agreed) doAct (fun t a => by simp) _ _
  unfold applyRun rosterChanged
  split <;> simp [acts] <;> rfl

theorem applyTake_pending (n : Station) (c : Content) (s : State) :
    (applyTake n c s).pending = s.pending := applyRun_pending _ s

theorem applyTakeOwn_pending (n : Station) (c : Content) (s : State) :
    (applyTakeOwn n c s).pending = s.pending := by
  simp [applyTakeOwn, applyTake_pending]

theorem memberTaken_pending (p : Parcel) (own : Bool) (s : State) :
    (memberTaken p own s).pending = s.pending := by
  unfold memberTaken
  split
  · exact applyTakeOwn_pending ..
  · simp

theorem leaveTaken_pending (p : Parcel) (own : Bool) (s : State) :
    (leaveTaken p own s).pending = s.pending := by
  unfold leaveTaken
  split
  · split <;> simp [applyTake_pending, applyTakeOwn_pending]
  · simp

theorem snapshotTaken_pending (p : Parcel) (j : Station) (a : AgreedState) (own : Bool) (s : State) :
    (snapshotTaken p j a own s).pending = s.pending := by
  unfold snapshotTaken
  split
  · exact applyTakeOwn_pending ..
  · dsimp only
    split <;> simp

theorem joinTaken_pending (p : Parcel) (f own : Bool) (s : State) :
    (joinTaken p f own s).pending = s.pending := by
  unfold joinTaken
  split
  · simp [applyTakeOwn_pending]
  · simp [applyTakeOwn_pending]
  · split <;> simp
  · split <;> simp
  · rfl

theorem reportTaken_pending (p : Parcel) (up down : Nat) (own : Bool) (s : State) :
    (reportTaken p up down own s).pending = s.pending := by
  unfold reportTaken
  split
  · simp [applyTakeOwn_pending]
  · simp

theorem takeEffect_pending (p : Parcel) (own : Bool) (s : State) :
    (takeEffect p own s).pending = s.pending := by
  obtain ⟨sender, epoch, content⟩ := p
  cases content with
  | leave => exact leaveTaken_pending ..
  | snapshot j a => exact snapshotTaken_pending ..
  | join d f ws => exact joinTaken_pending ..
  | report f g u d => exact reportTaken_pending ..
  | halo h =>
    have taken : (haloTaken sender h own s).pending = s.pending := by simp
    exact taken
  | close | force | loopSet | bankSelect => exact memberTaken_pending ..

/-- A parcel that this attached station does not void is taken: its effect on what its own completion
leaves. -/
theorem exec_taken {p : Parcel} {s : State} (h : Live s) (attached : s.pli.attached = true)
    (sound : voidsIntact s p = false) :
    exec (takeCommand p) s =
      .next (takeEffect p (isOwn s p) (s.setPli (lineAfterTake s p))) := by
  have taken : takeParcel p (takeEffect p) s =
      takeEffect p (isOwn s p) (s.setPli (lineAfterTake s p)) := by
    rw [takeParcel_taken attached sound, takeParcel_start]
  rw [exec_takeCommand, live_next_of_pending h, taken]
  rw [taken, takeEffect_pending]
  rfl

theorem exec_detached {p : Parcel} {s : State} (h : Live s) (detached : s.pli.attached = false) :
    exec (takeCommand p) s = .next (s.setPli { s.pli with ackDrive := .none }) := by
  rw [exec_takeCommand, live_next_of_pending h, takeParcel_detached detached]
  · rfl
  · rw [takeParcel_detached detached]
    rfl

theorem exec_voided {p : Parcel} {s : State} (h : Live s) (attached : s.pli.attached = true)
    (voided : voidsIntact s p = true) (other : NotOwn s p) :
    exec (takeCommand p) s = .next (s.setPli { s.pli with ackDrive := .void }) := by
  have eq : takeParcel p (takeEffect p) s = s.drive .void := by
    rw [takeParcel_voided attached voided, isOwn_of_notOwn other]
    rfl
  rw [exec_takeCommand, live_next_of_pending h, eq]
  · rfl
  · rw [eq]
    rfl

/-! ## Stations that do not apply a take (R65, R72 to R74) -/

theorem voidsIntact_outside {s : State} (h : ¬ Applies s) (p : Parcel) : voidsIntact s p = false := by
  rw [← Bool.not_eq_true, voidsIntact_iff]
  exact fun both => h both.1

theorem lineAfterTake_other {s : State} {p : Parcel} (h : NotOwn s p) :
    lineAfterTake s p = { s.pli with ackDrive := .recessive } := by
  unfold lineAfterTake
  split
  · rfl
  · next x tx => exact if_neg (h x tx)

theorem mem_addStation (n m : Station) (l : List Station) :
    m ∈ addStation n l ↔ m ∈ l ∨ m = n := by
  induction l with
  | nil => simp [addStation]
  | cons x xs ih =>
    unfold addStation
    split
    · next same => simp +contextual [same]
    · split
      · simp [or_comm]
      · simp [ih, or_assoc]

/-- What bars a founding: a taken JOIN its founding flag, any other parcel. -/
def barsFounding (c : Content) : Bool :=
  match c with
  | .join _ founding _ => founding
  | _ => true

theorem memberTaken_outside {s : State} (h : ¬ Applies s) (p : Parcel) (own : Bool) :
    memberTaken p own s = recordHeard own p.sender true s :=
  if_neg (mt (applies_iff s).mp h)

theorem leaveTaken_outside {s : State} (h : ¬ Applies s) (p : Parcel) (own : Bool) :
    leaveTaken p own s = recordHeard own p.sender true s :=
  if_neg (mt (applies_iff s).mp h)

theorem reportTaken_outside {s : State} (h : ¬ Applies s) (p : Parcel) (up down : Nat) (own : Bool) :
    reportTaken p up down own s = recordHeard own p.sender true s :=
  if_neg (mt (applies_iff s).mp h)

theorem receiveHalo_outside {s : State} (h : s.cu.membership ≠ .member) (n : Station)
    (p : HaloParcel) : receiveHalo n p s = s := by
  have counts (side : Side) : neighbourCounts s side = false := by
    unfold neighbourCounts
    split <;> simp [h]
  unfold receiveHalo
  split
  · rfl
  · simp [counts]

/-- R65, R72 to R74: the effect of another station's take at a station that applies none, but for a
JOINING station that adopts. -/
theorem takeEffect_outside {s : State} {p : Parcel} (h : ¬ Applies s)
    (runs : s.cu.membership = .listening ∨ s.cu.membership = .joining ∨ s.cu.membership = .isolated)
    (stays : ∀ n a, p.content = .snapshot n a → adopts n a (recordHeard false p.sender true s) = false) :
    takeEffect p false s =
      recordHeard false p.sender (barsFounding p.content) s := by
  obtain ⟨sender, epoch, content⟩ := p
  cases content with
  | leave => exact leaveTaken_outside h _ _
  | snapshot j a =>
    have outside : ¬ s.cu.membership.applies = true := mt (applies_iff s).mp h
    have adoptsNot := stays j a rfl
    change snapshotTaken _ j a false s = _
    simp only [snapshotTaken, outside]
    rw [if_neg nofun, adoptsNot]
    rfl
  | join d f ws =>
    change joinTaken _ f false s = _
    obtain m | m | m := runs
    · simp [joinTaken, m, barsFounding]
    · simp [joinTaken, m, barsFounding]
    · simp [joinTaken, m, recordHeard]
  | report f g u d => exact reportTaken_outside h _ _ _ _
  | halo hp =>
    have notMember : s.cu.membership ≠ .member := fun m => h (.inl m)
    have stays : haloTaken sender hp false s = recordHeard false sender true s := by
      simp only [haloTaken]
      rw [receiveHalo_outside (by simpa using notMember)]
      simp
    exact stays
  | close | force | loopSet | bankSelect => exact memberTaken_outside h _ _

/-- Settles O35. -/
theorem takesOutsideMembershipAreRecorded : Obligations.TakesOutsideMembershipAreRecorded := by
  intro s p h
  refine ⟨exec_detached h, exec_voided h, fun bar attached other hbar => ?_⟩
  obtain rfl : bar = barsFounding p.content := by
    rw [hbar]
    cases p.content <;> rfl
  have effect (outside : ¬ Applies s)
      (runs : s.cu.membership = .listening ∨ s.cu.membership = .joining ∨
        s.cu.membership = .isolated)
      (stays : ∀ n a, p.content = .snapshot n a →
        adopts n a (recordHeard false p.sender true (s.setPli { s.pli with ackDrive := .recessive })) =
          false) :
      exec (takeCommand p) s = .next (recordHeard false p.sender (barsFounding p.content)
        (s.setPli { s.pli with ackDrive := .recessive })) := by
    rw [exec_taken h attached (voidsIntact_outside outside p), isOwn_of_notOwn other,
      lineAfterTake_other other]
    exact congrArg _ (takeEffect_outside (s := s.setPli { s.pli with ackDrive := .recessive })
      outside runs stays)
  refine ⟨fun m => ?_, fun m stays => ?_, fun m => ?_⟩
  · refine ⟨addStation p.sender s.cu.heard, ?_, fun n => mem_addStation p.sender n _⟩
    rw [effect (by simp [Applies, m]) (.inl m) (fun n a _ => by simp [adopts, m])]
    simp [recordHeard, m]
  · rw [effect (by simp [Applies, m]) (.inr (.inl m)) (fun n a eq => ?_)]
    · simp [recordHeard, m]
    · by_cases same : n = s.cp.station
      · subst same
        have adoptsNot := (stays _ a eq).resolve_left (absurd rfl)
        simp [adopts, adoptsNot]
      · simp [adopts, same]
  · rw [effect (by simp [Applies, m]) (.inr (.inr m)) (fun n a _ => by simp [adopts, m])]
    simp [recordHeard, m]

end Sys2Proof.Machine
end

section
/-! SUPPORT. Takes of one record of the Agreed State (FORCE, LOOP_SET, BANK_SELECT), and what two
stations that take the same parcel share. -/

namespace Sys2Proof.Machine

/-! ## The course of a take without goals -/

theorem workGoals_nil (c : ConfigItems) (fuel : Nat) (run : TakeRun) :
    workGoals c fuel [] run = run := by
  cases fuel <;> rfl

theorem advanceEpoch_untouched {run : TakeRun} (h : run.touched = []) : advanceEpoch run = run := by
  simp [advanceEpoch, h]

theorem advanceEpoch_touched {run : TakeRun} (h : run.touched ≠ []) :
    advanceEpoch run = { run with agreed := { run.agreed with epoch := run.agreed.epoch + 1 } } := by
  simp [advanceEpoch, h]

/-- A take whose first step leaves no goal and changes no entry ends with that step. -/
theorem runTake_first {c : ConfigItems} {sender : Station} {content : Content} {a : AgreedState}
    {run : TakeRun} (first : takeFirst sender content a = (run, [])) (untouched : run.touched = []) :
    runTake c sender content a = run := by
  simp only [runTake, first, workGoals_nil]
  exact advanceEpoch_untouched untouched

theorem applyTakeOwn_untouched {sender : Station} {content : Content} {s : State}
    (h : (runTake s.cp.config sender content s.cu.agreed).touched = []) :
    applyTakeOwn sender content s = applyTake sender content s := by
  rw [applyTakeOwn, takeTouched, h]
  rfl

/-- A take that calls for no act and changes no entry changes the Agreed State alone. -/
theorem applyTakeOwn_quiet {sender : Station} {content : Content} {s : State} {a : AgreedState}
    (h : runTake s.cp.config sender content s.cu.agreed = TakeRun.start a) :
    applyTakeOwn sender content s = s.setAgreed a := by
  rw [applyTakeOwn_untouched (by rw [h]; rfl), applyTake, h]
  exact applyRun_quiet rfl rfl s

theorem memberTaken_applies {s : State} (h : Applies s) (p : Parcel) (own : Bool) :
    memberTaken p own s = applyTakeOwn p.sender p.content s :=
  if_pos ((applies_iff s).mpr h)

theorem sound_of_known {s : State} {p : Parcel} (known : Known s p.sender p.epoch)
    (join : ∀ d f ws, p.content ≠ .join d f ws) (select : ∀ b d n, p.content ≠ .bankSelect b d n) :
    voidsIntact s p = false := by
  rw [← Bool.not_eq_true, voidsIntact_iff, memberVoids_other join select]
  exact fun both => both.2 known

/-! ## FORCE and LOOP_SET (R119, R127) -/

/-- Settles O36. -/
theorem takeForceSetsTheCadence : Obligations.TakeForceSetsTheCadence := by
  intro s sender epoch code phase p h attached applies known hp
  subst hp
  have taken := exec_taken (p := { sender, epoch, content := .force code phase }) h attached
    (sound_of_known known nofun nofun)
  refine ⟨forceTaken code phase s.cu.agreed.cadence, taken.trans (congrArg _ ?_), ?_, ?_, ?_, ?_, ?_, ?_⟩
  · have applied := memberTaken_applies (s := s.setPli (lineAfterTake s
      { sender, epoch, content := .force code phase })) applies
    refine (applied _ _).trans (applyTakeOwn_quiet (runTake_first rfl rfl))
  · rintro rfl; rfl
  · rintro rfl; rfl
  · rintro rfl; rfl
  · rintro rfl; rfl
  · rintro rfl; rfl
  · rintro n rfl; rfl

/-- Settles O37. -/
theorem takeLoopSetSetsTheLoop : Obligations.TakeLoopSetSetsTheLoop := by
  intro s sender epoch code value p h attached applies known hp
  subst hp
  have taken := exec_taken (p := { sender, epoch, content := .loopSet code value }) h attached
    (sound_of_known known nofun nofun)
  refine ⟨loopTaken code value s.cu.agreed.loop, taken.trans (congrArg _ ?_), ?_, ?_, ?_, ?_⟩
  · have applied := memberTaken_applies (s := s.setPli (lineAfterTake s
      { sender, epoch, content := .loopSet code value })) applies
    refine (applied _ _).trans (applyTakeOwn_quiet (runTake_first rfl rfl))
  · rintro rfl
    have least : min value 1023 = if 1023 < value then 1023 else value := by
      split <;> omega
    simp only [loopTaken, least]
  · rintro rfl; rfl
  · rintro rfl; rfl
  · rintro n rfl; rfl

/-! ## BANK_SELECT (R186, R188) -/

/-- R186 step 1: a switch leaves its old bank as the outgoing one. -/
theorem applyTakeOwn_switch {sender : Station} {content : Content} {s : State} {a : AgreedState}
    {o : Outgoing}
    (h : runTake s.cp.config sender content s.cu.agreed =
      { agreed := a, acts := [.switched o], touched := [] }) :
    applyTakeOwn sender content s = (s.setAgreed a).setSc { s.sc with outgoing := some o } := by
  rw [applyTakeOwn_untouched (by rw [h]), applyTake, h]
  rfl

theorem runTake_select (c : ConfigItems) (sender : Station) (b : BankName) (d : Digest)
    (target : FieldNo) (a : AgreedState) :
    runTake c sender (.bankSelect (.named b) d target) a =
      if newerThan target a.lastClosed then TakeRun.start (selectPending b d target a)
      else
        { agreed := { a with bank := { active := b, digest := d, pending := none } }
          acts :=
            [.switched
              { bank := a.bank.active, digest := a.bank.digest, switchFrame := target }]
          touched := [] } := by
  have due : (selectPending b d target a).bank.pending.filter
      (takeReaches (selectPending b d target a)) =
        if newerThan target a.lastClosed then none
        else some { bank := b, digest := d, target := target } := by
    change Option.filter _ (some _) = _
    rw [Option.filter_some]
    cases reach : newerThan target a.lastClosed <;> simp [takeReaches, selectPending, reach]
  have first : takeFirst sender (.bankSelect (.named b) d target) a =
      ({ agreed := switchBank ((selectPending b d target a).bank.pending.filter
            (takeReaches (selectPending b d target a))) (selectPending b d target a)
         acts := switchActs ((selectPending b d target a).bank.pending.filter
            (takeReaches (selectPending b d target a))) (selectPending b d target a)
         touched := [] }, []) := rfl
  rw [runTake_first first rfl, due]
  split <;> rfl

/-- Settles O38. -/
theorem takeBankSelectSelectsOrSwitches : Obligations.TakeBankSelectSelectsOrSwitches := by
  intro s sender epoch code digest target p h attached applies known unbegun none_ hp
  subst hp
  have stale : ¬¬ Known s sender epoch := not_not_intro known
  have notBegun : ¬ ∃ g, s.lb.lastBegun = some g ∧ (g = target ∨ newer g target = true) := by
    rintro ⟨g, eq, same | later⟩
    · exact (unbegun g eq).1 same
    · rw [(unbegun g eq).2] at later
      cases later
  have sound (c : BankCode) (passes : ¬ selectVoided s c digest target = true) :
      voidsIntact s { sender, epoch, content := .bankSelect c digest target } = false := by
    rw [← Bool.not_eq_true, voidsIntact_iff, memberVoids_select rfl]
    exact fun both => both.2.elim stale passes
  have taken (c : BankCode) (passes : ¬ selectVoided s c digest target = true) :=
    exec_taken (p := { sender, epoch, content := .bankSelect c digest target }) h attached
      (sound c passes)
  have applied (c : BankCode) := memberTaken_applies (s := s.setPli (lineAfterTake s
    { sender, epoch, content := .bankSelect c digest target })) applies
  refine ⟨?_, ?_⟩
  · rintro n rfl
    have passes : ¬ selectVoided s (.other n) digest target = true := by
      rw [selectVoided_other]
      exact fun voids => voids.elim notBegun (· none_)
    exact (taken _ passes).trans (congrArg _ ((applied _ _ _).trans
      (applyTakeOwn_quiet (runTake_first rfl rfl))))
  · rintro b rfl ready matched
    have passes : ¬ selectVoided s (.named b) digest target = true := by
      rw [selectVoided_named]
      rintro (unready | other | begun | pending)
      · exact unready ready
      · exact other matched
      · exact notBegun begun
      · exact pending none_
    refine ⟨fun open_ => ?_, fun closed => ?_⟩
    · refine (taken _ passes).trans (congrArg _ ((applied _ _ _).trans (applyTakeOwn_quiet ?_)))
      rw [runTake_select]
      exact if_pos open_
    · refine (taken _ passes).trans (congrArg _ ((applied _ _ _).trans (applyTakeOwn_switch ?_)))
      rw [runTake_select]
      exact if_neg (by rw [State.setPli_cu, closed]; nofun)

/-! ## Two stations that take the same parcel (R61, R62, R73) -/

theorem applyTakeOwn_agreed (sender : Station) (content : Content) (s : State) :
    (applyTakeOwn sender content s).cu.agreed =
      (runTake s.cp.config sender content s.cu.agreed).agreed := by
  simp [applyTakeOwn, applyTake, applyRun_agreed]

theorem runTake_halo (c : ConfigItems) (sender : Station) (h : HaloParcel) (a : AgreedState) :
    runTake c sender (.halo h) a = TakeRun.start a :=
  runTake_first rfl rfl

/-- R62: at a station that applies it, a take leaves the Agreed State its course leads to. -/
theorem takeEffect_agreed {s : State} (h : Applies s) (p : Parcel) (own : Bool) :
    (takeEffect p own s).cu.agreed = (runTake s.cp.config p.sender p.content s.cu.agreed).agreed := by
  have applies := (applies_iff s).mpr h
  obtain ⟨sender, epoch, content⟩ := p
  cases content with
  | leave =>
    change (leaveTaken _ own s).cu.agreed = _
    rw [leaveTaken, if_pos applies]
    cases own
    · exact applyTakeOwn_agreed _ _ s
    · simp [applyTake, applyRun_agreed]
  | snapshot j a =>
    change (snapshotTaken _ j a own s).cu.agreed = _
    rw [snapshotTaken, if_pos applies]
    exact applyTakeOwn_agreed _ _ s
  | join d f ws =>
    have taken : joinTaken { sender, epoch, content := .join d f ws } f own s =
        sendSnapshot sender (joinReplacesOwn sender
          (applyTakeOwn sender (.join d f ws) s)) := by
      obtain m | m := h <;> simp [joinTaken, m]
    change (joinTaken _ f own s).cu.agreed = _
    rw [taken]
    simp [applyTakeOwn_agreed]
  | report f g u d =>
    change (reportTaken _ u d own s).cu.agreed = _
    rw [reportTaken, if_pos applies, applyTakeOwn_agreed]
    simp
  | halo hp =>
    change (haloTaken sender hp own s).cu.agreed = _
    rw [runTake_halo]
    simp [TakeRun.start]
  | close | force | loopSet | bankSelect =>
    exact (congrArg (fun t : State => t.cu.agreed) (memberTaken_applies h _ own)).trans
      (applyTakeOwn_agreed _ _ s)

/-- R72: the course of a SNAPSHOT does not depend on the configuration. -/
theorem runTake_snapshot (c : ConfigItems) (sender joiner : Station) (carried a : AgreedState) :
    runTake c sender (.snapshot joiner carried) a =
      if isJoining a joiner then
        { agreed := { activateEntry joiner a with epoch := a.epoch + 1 }
          acts := [], touched := [joiner] }
      else TakeRun.start a := by
  have first : takeFirst sender (.snapshot joiner carried) a =
      if isJoining a joiner then
        ({ agreed := activateEntry joiner a, acts := [], touched := [joiner] }, [])
      else (TakeRun.start a, []) := rfl
  simp only [runTake, first]
  split
  · simp only [workGoals_nil]
    exact advanceEpoch_touched nofun
  · simp only [workGoals_nil]
    exact advanceEpoch_untouched rfl

theorem withdrawUrgent_agreed (hit : Queued → Bool) (s : State) :
    (withdrawUrgent hit s).cu.agreed = s.cu.agreed := by simp

theorem adopt_agreed (sender joiner : Station) (carried : AgreedState) (s : State) :
    (adopt sender joiner carried s).cu.agreed =
      (runTake s.cp.config sender (.snapshot joiner carried) carried).agreed := by
  simp only [adopt, resetDirections_frame, decideAdoption_frame, withdrawUrgent_frame]
  rfl

/-- R73: a JOINING station that a SNAPSHOT carries as JOINING adopts what it carries. -/
theorem takeEffect_adopts {s : State} {p : Parcel} {joiner : Station} {carried : AgreedState}
    (joining : s.cu.membership = .joining) (content : p.content = .snapshot joiner carried)
    (self : joiner = s.cp.station) (carries : isJoining carried s.cp.station = true) (own : Bool) :
    takeEffect p own s =
      adopt p.sender joiner carried (recordHeard own p.sender true s) := by
  obtain ⟨sender, epoch, c⟩ := p
  subst content
  have adopts_ : adopts joiner carried (recordHeard own sender true s) = true := by
    simp [adopts, joining, self, carries]
  change snapshotTaken _ joiner carried own s = _
  simp only [snapshotTaken]
  rw [if_neg (by simp [joining, Membership.applies]), if_pos adopts_]

/-- Settles O60: the Agreed State after a take is a function of what the two stations share. -/
theorem stationsTakeAlike : Obligations.StationsTakeAlike := by
  intro s t u v p hs ht applies attachedS attachedT soundS soundT nextS nextT
  rw [exec_taken hs attachedS soundS] at nextS
  rw [exec_taken ht attachedT soundT] at nextT
  obtain rfl := Host.Outcome.next.inj nextS
  obtain rfl := Host.Outcome.next.inj nextT
  have agreed := takeEffect_agreed (s := s.setPli (lineAfterTake s p)) applies p (isOwn s p)
  refine ⟨fun appliesT config same => ?_, fun joining content carries => ?_⟩
  · have other := takeEffect_agreed (s := t.setPli (lineAfterTake t p)) appliesT p (isOwn t p)
    rw [agreed, other]
    simp [config, same]
  · have adopted := takeEffect_adopts (s := t.setPli (lineAfterTake t p)) joining content rfl carries
      (isOwn t p)
    rw [agreed, adopted, adopt_agreed, content, runTake_snapshot, runTake_snapshot]
    rfl

end Sys2Proof.Machine
end

section
/-! SUPPORT. Takes that change the roster (LEAVE, JOIN, SNAPSHOT, and the removal of missed rounds): the
entries, what the station does about them, and what it does about its own. -/

namespace Sys2Proof.Machine

/-! ## Entries (R69, R72, R76, R80) -/

theorem rosterEntry_cons (e : RosterEntry) (es : List RosterEntry) (n : Station) :
    rosterEntry (e :: es) n = if e.station = n then some e else rosterEntry es n := by
  by_cases h : e.station = n
  · simp [rosterEntry, h]
  · simp [rosterEntry, h]

theorem rosterEntry_putRoster_same (e : RosterEntry) (es : List RosterEntry) :
    rosterEntry (putRoster e es) e.station = some e := by
  induction es with
  | nil => simp [putRoster, rosterEntry_cons]
  | cons x xs ih =>
    unfold putRoster
    split
    · simp [rosterEntry_cons]
    · next other =>
      split
      · simp [rosterEntry_cons]
      · rw [rosterEntry_cons, if_neg other, ih]

theorem rosterEntry_putRoster_other {e : RosterEntry} {n : Station} (h : n ≠ e.station)
    (es : List RosterEntry) : rosterEntry (putRoster e es) n = rosterEntry es n := by
  induction es with
  | nil => simp [putRoster, rosterEntry_cons, h.symm]
  | cons x xs ih =>
    unfold putRoster
    split
    · next same => rw [rosterEntry_cons, rosterEntry_cons, if_neg h.symm, if_neg (same ▸ h.symm)]
    · split
      · rw [rosterEntry_cons, if_neg h.symm]
      · rw [rosterEntry_cons, rosterEntry_cons, ih]

theorem rosterEntry_none_iff (es : List RosterEntry) (n : Station) :
    rosterEntry es n = none ↔ ∀ e ∈ es, e.station ≠ n := by
  simp [rosterEntry]

/-- A JOINING entry of a number the roster lacks leaves the ACTIVE stations as they are. -/
theorem activeStations_putJoining {n : Station} {es : List RosterEntry}
    (absent : rosterEntry es n = none) :
    activeStations (putRoster { station := n, standing := .joining, missed := 0 } es) =
      activeStations es := by
  induction es with
  | nil => rfl
  | cons x xs ih =>
    rw [rosterEntry_none_iff] at absent
    have other := absent x List.mem_cons_self
    have rest : rosterEntry xs n = none :=
      (rosterEntry_none_iff xs n).mpr fun e he => absent e (List.mem_cons_of_mem x he)
    unfold putRoster
    rw [if_neg other]
    split
    · rfl
    · have tail := ih rest
      simp only [activeStations] at tail ⊢
      simp only [List.filter_cons]
      split
      · simp [tail]
      · exact tail

theorem mem_activeStations {es : List RosterEntry} {n : Station} (h : n ∈ activeStations es) :
    ∃ e ∈ es, e.station = n := by
  obtain ⟨e, he, rfl⟩ := List.mem_map.mp h
  exact ⟨e, List.mem_of_mem_filter he, rfl⟩

theorem leaveExpected_fields (gone : List Station) (rounds : List Round) :
    (leaveExpected gone rounds).map (·.field) = rounds.map (·.field) := by
  simp [leaveExpected]

theorem leaveExpected_gone (n : Station) (rounds : List Round) :
    ∀ r ∈ leaveExpected [n] rounds, n ∉ r.expected := by
  intro r hr
  obtain ⟨x, -, rfl⟩ := List.mem_map.mp hr
  simp

/-! ## The local side of a roster change (R70, R76, R165) -/

theorem foldl_removal (gone : List Station) (s : State) :
    (removalActs gone).foldl doAct s = withdrawSnapshots gone s := by
  unfold removalActs
  split
  · next none_ => rw [List.isEmpty_iff.mp none_]; rfl
  · rfl

/-- R62, R76: what a take that changes entries, and asks for removals at most, does here. -/
structure RosterTaken (a : AgreedState) (s t : State) : Prop where
  cu : t.cu = { s.cu with agreed := a }
  cp : t.cp = { s.cp with events := s.cp.events ||| 1#12 <<< 0 }
  li : t.li = s.li
  fs : t.fs = s.fs
  fa : t.fa = s.fa
  lb : t.lb = s.lb
  op : t.op = s.op
  attached : t.pli.attached = s.pli.attached
  sends : t.pli.tx.isSome = s.pli.tx.isSome

theorem resetTouched_tx (touched : List Station) (s : State) :
    (resetTouched touched s).pli.tx.isSome = s.pli.tx.isSome :=
  resetTouched_get (fun t => t.pli.tx.isSome) (by simp) (by simp) touched s

/-- The state of a take that changes entries before its resets. -/
theorem applyRun_removal {a : AgreedState} {gone touched : List Station} (h : touched ≠ [])
    (s : State) :
    applyRun { agreed := a, acts := removalActs gone, touched := touched } s =
      resetTouched touched ((withdrawSnapshots gone (s.setAgreed a)).raise .membershipChanged) := by
  rw [applyRun, foldl_removal, rosterChanged_some h]

theorem applyRun_rosterTaken {a : AgreedState} {gone touched : List Station} (h : touched ≠ [])
    (s : State) :
    RosterTaken a s (applyRun { agreed := a, acts := removalActs gone, touched := touched } s) := by
  rw [applyRun_removal h]
  refine ⟨?_, ?_, ?_, ?_, ?_, ?_, ?_, ?_, ?_⟩
  · simp
    rfl
  · simp [State.raise]
    rfl
  all_goals simp [resetTouched_tx]

theorem withdrawnUrgent_idle {p : LineInterface} (h : p.tx = none) (hit : Queued → Bool) :
    (withdrawnUrgent hit p).urgent = p.urgent.filter fun q => !hit q := by
  have unsent : urgentOnLine p = false := by simp [urgentOnLine, h]
  unfold withdrawnUrgent
  split
  · next none_ => simp [none_]
  · next q rest eq =>
    simp only [unsent, Bool.false_eq_true, if_false]
    split
    · next yes => simp [eq, yes]
    · next no => simp [eq, no]

/-- R70, R77: with nothing in transmission the SNAPSHOTs to a removed station go. -/
theorem applyRun_removed_urgent {a : AgreedState} {n : Station} {touched : List Station}
    (h : touched ≠ []) {s : State} (idle : s.pli.tx = none) :
    (applyRun { agreed := a, acts := [.removed [n]], touched := touched } s).pli.urgent =
      s.pli.urgent.filter fun q => !isSnapshotTo n q := by
  have run := applyRun_removal (a := a) (gone := [n]) h s
  rw [show removalActs [n] = [.removed [n]] from rfl] at run
  rw [run]
  simp only [resetTouched_frame, State.raise_frame]
  change (withdrawUrgent (isSnapshotTo n) (s.setAgreed a)).pli.urgent = _
  rw [withdrawUrgent_pli]
  exact withdrawnUrgent_idle idle _

theorem applyRun_unremoved_urgent {a : AgreedState} {touched : List Station} (h : touched ≠ [])
    (s : State) :
    (applyRun { agreed := a, acts := [], touched := touched } s).pli.urgent = s.pli.urgent := by
  have run := applyRun_removal (a := a) (gone := []) h s
  rw [show removalActs [] = [] from rfl] at run
  rw [run]
  simp [withdrawSnapshots]

/-! ## The station's own entry (R78, R82) -/

theorem checkOwnEntry_other {touched : List Station} {s : State}
    (h : s.cp.station ∉ touched ∨ rosterEntry s.cu.agreed.roster s.cp.station ≠ none) :
    checkOwnEntry touched s = s := by
  refine if_neg ?_
  obtain absent | held := h
  · simp [absent]
  · cases e : rosterEntry s.cu.agreed.roster s.cp.station with
    | none => exact absurd e held
    | some x => simp

theorem checkOwnEntry_gone {touched : List Station} {s : State} (own : s.cp.station ∈ touched)
    (absent : rosterEntry s.cu.agreed.roster s.cp.station = none) :
    checkOwnEntry touched s = isolate s := by
  refine if_pos ?_
  simp [own, absent]

/-- R82: a member that must leave is isolated, a leaving station stops. -/
theorem isolate_membership {s : State} :
    (s.cu.membership = .member → (isolate s).cu.membership = .isolated) ∧
      (s.cu.membership = .leaving → (isolate s).cu.membership = .stopped) := by
  refine ⟨fun m => ?_, fun m => ?_⟩
  · rw [isolate_inside (.inr (.inr m))]
    rfl
  · rw [isolate_leaving m]
    exact (flushStopped_stopped (s := isolated s) nofun).membership

/-- A raised flag stays raised when the station is isolated. -/
theorem isolate_event {s : State} {b : Nat} (h : s.cp.events.getLsbD b = true) :
    (isolate s).cp.events.getLsbD b = true := by
  have raised : (isolated s).cp.events.getLsbD b = true := by
    rw [isolated_cp]
    simp [BitVec.getLsbD_or, h]
  rw [isolate_eq]
  split
  · simpa using raised
  · split
    · exact raised
    · exact h

theorem checkOwnEntry_event {s : State} {b : Nat} (touched : List Station)
    (h : s.cp.events.getLsbD b = true) : (checkOwnEntry touched s).cp.events.getLsbD b = true := by
  unfold checkOwnEntry
  split
  · exact isolate_event h
  · exact h

/-! ## What the goals of a take keep (R92, R93, R97) -/

theorem missedCount_station (r : Round) (e : RosterEntry) : (missedCount r e).station = e.station := by
  unfold missedCount
  split
  · rfl
  · split
    · split <;> rfl
    · rfl

theorem switchBank_keeps (due : Option PendingSelection) (a : AgreedState) :
    switchBank due a = { a with bank := (switchBank due a).bank } := by
  cases due <;> rfl

theorem closeRound_roster (c : ConfigItems) (kind : ClosureKind) (r : Round) (run : TakeRun) :
    (closeRound c kind r run).agreed.roster =
      (run.agreed.roster.map (missedCount r)).filter fun e => !missedOut e := by
  simp only [closeRound]
  rw [switchBank_keeps]
  rfl

theorem closeRound_openRounds (c : ConfigItems) (kind : ClosureKind) (r : Round) (run : TakeRun) :
    (closeRound c kind r run).agreed.openRounds =
      leaveExpected (missedStations (run.agreed.roster.map (missedCount r)))
        (run.agreed.openRounds.filter fun x => x.field != r.field) := by
  simp only [closeRound]
  rw [switchBank_keeps]
  rfl

theorem closeRound_epoch (c : ConfigItems) (kind : ClosureKind) (r : Round) (run : TakeRun) :
    (closeRound c kind r run).agreed.epoch = run.agreed.epoch := by
  simp only [closeRound]
  rw [switchBank_keeps]
  rfl

theorem closeRound_touched (c : ConfigItems) (kind : ClosureKind) (r : Round) (run : TakeRun) :
    (closeRound c kind r run).touched =
      run.touched ++ missedStations (run.agreed.roster.map (missedCount r)) := rfl

/-- R92 case 4: a run with a new round open. -/
def withRound (r : Round) (run : TakeRun) : TakeRun :=
  { run with
    agreed := { run.agreed with openRounds := insertByField Round.field r run.agreed.openRounds } }

/-- A goal leaves the run, closes one round, or opens a new one. -/
theorem goalStep_cases (c : ConfigItems) (g : Goal) (rest : List Goal) (run : TakeRun) :
    (goalStep c g rest run).1 = run ∨
      (∃ kind r, (goalStep c g rest run).1 = closeRound c kind r run) ∨
      ∃ n report, (goalStep c g rest run).1 = withRound (newRound run.agreed n [report]) run := by
  cases g with
  | complete f =>
    simp only [goalStep]
    split
    · exact .inl rfl
    · split
      · exact .inl rfl
      · split
        · exact .inr (.inl ⟨_, _, rfl⟩)
        · exact .inr (.inl ⟨_, _, rfl⟩)
  | sweep n =>
    simp only [goalStep]
    split
    · exact .inl rfl
    · exact .inr (.inl ⟨_, _, rfl⟩)
  | supersede n =>
    simp only [goalStep]
    split
    · split
      · exact .inl rfl
      · exact .inr (.inl ⟨_, _, rfl⟩)
    · exact .inl rfl
  | missing n =>
    simp only [goalStep]
    split
    · exact .inl rfl
    · exact .inr (.inl ⟨_, _, rfl⟩)
  | create n report =>
    simp only [goalStep]
    split
    · exact .inl rfl
    · exact .inr (.inr ⟨n, report, rfl⟩)
  | test =>
    simp only [goalStep]
    split <;> exact .inl rfl

/-- What every closure and every new round keeps, the goals of a take keep. -/
theorem workGoals_keeps {P : TakeRun → Prop} (c : ConfigItems)
    (close : ∀ run kind r, P run → P (closeRound c kind r run))
    (create : ∀ run n report, P run → P (withRound (newRound run.agreed n [report]) run)) :
    ∀ (fuel : Nat) (goals : List Goal) (run : TakeRun), P run → P (workGoals c fuel goals run)
  | 0, _, _, h => h
  | _ + 1, [], _, h => h
  | fuel + 1, g :: rest, run, h => by
    refine workGoals_keeps c close create fuel _ _ ?_
    obtain same | ⟨kind, r, closed⟩ | ⟨n, report, opened⟩ := goalStep_cases c g rest run
    · rwa [same]
    · rw [closed]
      exact close run kind r h
    · rw [opened]
      exact create run n report h

/-- R80: a run that has dropped station n's entry, at an epoch: the number is in no entry and no
expected set, and among those the take touched. -/
structure Departed (n : Station) (epoch : Epoch) (run : TakeRun) : Prop where
  roster : ∀ e ∈ run.agreed.roster, e.station ≠ n
  rounds : ∀ r ∈ run.agreed.openRounds, n ∉ r.expected
  epoch : run.agreed.epoch = epoch
  touched : n ∈ run.touched

theorem workGoals_departed {n : Station} {epoch : Epoch} (c : ConfigItems) (fuel : Nat)
    (goals : List Goal) {run : TakeRun} (h : Departed n epoch run) :
    Departed n epoch (workGoals c fuel goals run) := by
  refine workGoals_keeps c (fun run kind r h => ?_) (fun run f report h => ?_) fuel goals run h
  · refine ⟨?_, ?_, ?_, ?_⟩
    · rw [closeRound_roster]
      intro e he
      obtain ⟨x, hx, rfl⟩ := List.mem_map.mp (List.mem_of_mem_filter he)
      rw [missedCount_station]
      exact h.roster x hx
    · rw [closeRound_openRounds]
      intro x hx
      obtain ⟨y, hy, rfl⟩ := List.mem_map.mp hx
      exact fun k => h.rounds y (List.mem_of_mem_filter hy) (List.mem_of_mem_filter k)
    · rw [closeRound_epoch, h.epoch]
    · rw [closeRound_touched]
      exact List.mem_append_left _ h.touched
  · refine ⟨h.roster, fun x hx => ?_, h.epoch, h.touched⟩
    obtain rfl | old := (mem_insertByField Round.field _ x _).mp hx
    · intro k
      obtain ⟨e, he, same⟩ := mem_activeStations k
      exact h.roster e he same
    · exact h.rounds x old

/-- A completion test with no round open finds nothing. -/
theorem workGoals_test {c : ConfigItems} {fuel : Nat} {run : TakeRun}
    (h : run.agreed.openRounds = []) : workGoals c fuel [.test] run = run := by
  cases fuel with
  | zero => rfl
  | succ fuel =>
    have step : goalStep c .test [] run = (run, []) := by simp [goalStep, h]
    simp only [workGoals, step, workGoals_nil]

end Sys2Proof.Machine
end

section
/-! SUPPORT. The takes of LEAVE, JOIN and SNAPSHOT, and the removal of missed rounds, settled by what
they do to the entries and to the station's own membership. -/

namespace Sys2Proof.Machine

theorem takeTouched_eq (sender : Station) (content : Content) (s : State) :
    takeTouched sender content s = (runTake s.cp.config sender content s.cu.agreed).touched := rfl

theorem known_isSome {s : State} {n : Station} {epoch : Epoch} (h : Known s n epoch) :
    (rosterEntry s.cu.agreed.roster n).isSome = true := by
  obtain ⟨-, e, he, same⟩ := h
  rw [Option.isSome_iff_ne_none]
  exact fun none_ => (rosterEntry_none_iff _ _).mp none_ e he same

/-! ## LEAVE (R78, R80) -/

/-- R80: the run of a LEAVE after its first step. -/
def leaveStart (n : Station) (a : AgreedState) : TakeRun :=
  { agreed := dropEntry n a, acts := [.removed [n]], touched := [n] }

theorem runTake_leave {c : ConfigItems} {n : Station} {a : AgreedState}
    (h : (rosterEntry a.roster n).isSome = true) :
    runTake c n .leave a = advanceEpoch (workGoals c (takeFuel a) [.test] (leaveStart n a)) := by
  have first : takeFirst n .leave a = (leaveStart n a, [.test]) := if_pos h
  simp only [runTake, first]

theorem leaveStart_departed (n : Station) (a : AgreedState) : Departed n a.epoch (leaveStart n a) := by
  refine ⟨fun e he => ?_, leaveExpected_gone n a.openRounds, rfl, List.mem_singleton.mpr rfl⟩
  simpa using List.of_mem_filter he

theorem runTake_leave_departed {c : ConfigItems} {n : Station} {a : AgreedState}
    (h : (rosterEntry a.roster n).isSome = true) :
    Departed n (a.epoch + 1) (runTake c n .leave a) := by
  have worked := workGoals_departed c (takeFuel a) [.test] (leaveStart_departed n a)
  rw [runTake_leave h, advanceEpoch_touched (List.ne_nil_of_mem worked.touched)]
  exact ⟨worked.roster, worked.rounds, congrArg (· + 1) worked.epoch, worked.touched⟩

theorem runTake_leave_idle {c : ConfigItems} {n : Station} {a : AgreedState}
    (h : (rosterEntry a.roster n).isSome = true) (none_ : a.openRounds = []) :
    runTake c n .leave a =
      { agreed :=
          { a with roster := a.roster.filter fun e => e.station != n, epoch := a.epoch + 1 }
        acts := [.removed [n]], touched := [n] } := by
  have rounds : (leaveStart n a).agreed.openRounds = [] := by
    simp [leaveStart, dropEntry, none_, leaveExpected]
  rw [runTake_leave h, workGoals_test rounds,
    advanceEpoch_touched (run := leaveStart n a) (List.cons_ne_nil n [])]
  simp [leaveStart, dropEntry, none_, leaveExpected]

/-- Once an entry was touched MEMBERSHIP_CHANGED is set. -/
theorem applyRun_changed {run : TakeRun} (h : run.touched ≠ []) (s : State) :
    (applyRun run s).cp.events.getLsbD 0 = true := by
  rw [applyRun, rosterChanged_some h]
  simp only [resetTouched_frame]
  simp only [State.raise, State.setCp_cp, eventMask, BitVec.getLsbD_or, Bool.or_eq_true]
  exact .inr rfl

theorem applyRun_tx (run : TakeRun) (s : State) :
    (applyRun run s).pli.tx.isSome = s.pli.tx.isSome := by
  have acts (u : State) : (run.acts.foldl doAct u).pli.tx.isSome = u.pli.tx.isSome :=
    keeps_foldl (fun t : State => t.pli.tx.isSome) doAct (fun t a => by simp) _ _
  unfold applyRun rosterChanged
  split
  · simp [acts]
  · rw [resetTouched_tx]
    simp [acts]

theorem tx_none_of_isSome {p q : LineInterface} (h : p.tx.isSome = q.tx.isSome) (idle : q.tx = none) :
    p.tx = none := by
  rw [idle] at h
  exact Option.not_isSome_iff_eq_none.mp (by simp [h])

/-- A station with nothing on the line and empty queues keeps them so as it quits MEMBER. -/
theorem quitMember_flushed {s : State} (idle : s.pli.tx = none) (urgent : s.pli.urgent = [])
    (bulk : s.pli.bulk = []) : Flushed (quitMember s).pli := by
  have still : (quitMember s).pli.tx = none := tx_none_of_isSome (q := s.pli) (by simp) idle
  refine ⟨fun _ => ⟨by simpa using urgent, ?_⟩, fun x tx => by simp [still] at tx⟩
  unfold quitMember
  split
  · have unsent : bulkOnLine (cancelTimers s).pli = false := by simp [bulkOnLine, idle]
    rw [(resetDirections_bulk unsent).2]
    simp [bulk]
  · exact bulk

/-- R57, R81: a flush to STOPPED with nothing in transmission, in any state. -/
theorem flushStopped_idle {s : State} (idle : s.pli.tx = none) :
    (flushStopped s).cu.membership = .stopped ∧ (flushStopped s).pli.attached = false ∧
      (flushStopped s).pli.urgent = [] ∧ (flushStopped s).pli.bulk = [] := by
  have none_ : (flush s).pli.tx = none := tx_none_of_isSome (q := s.pli) (by simp) idle
  obtain ⟨urgent, bulk⟩ := (flush_flushed s).1 none_
  have stopped := enterStopped_quits (flush s)
  obtain ⟨noUrgent, noBulk⟩ := enterStopped_empties (quitMember_flushed none_ urgent bulk)
  exact ⟨stopped.membership, stopped.attached, noUrgent, noBulk⟩

theorem lineAfterTake_own {s : State} {p : Parcel} (h : OwnUrgent s p) :
    (lineAfterTake s p).tx = none ∧ (lineAfterTake s p).urgent = s.pli.urgent.drop 1 := by
  obtain ⟨x, tx, same, urgent⟩ := h
  simp [lineAfterTake, tx, same, urgent]

theorem lineAfterTake_attached (s : State) (p : Parcel) :
    (lineAfterTake s p).attached = s.pli.attached := by
  unfold lineAfterTake
  split
  · rfl
  · split
    · split <;> rfl
    · rfl

theorem leaveTaken_own {s : State} (h : Applies s) (p : Parcel) :
    leaveTaken p true s = flushStopped (applyTake p.sender p.content s) := by
  rw [leaveTaken, if_pos ((applies_iff s).mpr h), if_pos rfl]

theorem leaveTaken_other {s : State} (h : Applies s) (p : Parcel) :
    leaveTaken p false s = applyTakeOwn p.sender p.content s := by
  rw [leaveTaken, if_pos ((applies_iff s).mpr h), if_neg nofun]

theorem leaveTaken_changed {s : State} {p : Parcel} (h : Applies s)
    (touched : takeTouched p.sender p.content s ≠ []) (own : Bool) :
    (leaveTaken p own s).cp.events.getLsbD 0 = true := by
  have changed : (applyTake p.sender p.content s).cp.events.getLsbD 0 = true := applyRun_changed touched s
  cases own
  · rw [leaveTaken_other h]
    exact checkOwnEntry_event _ changed
  · rw [leaveTaken_own h]
    simpa using changed

/-- What applying a roster change does to a station whose own entry it removes. -/
theorem applyTakeOwn_gone {sender : Station} {content : Content} {s : State}
    (touched : s.cp.station ∈ takeTouched sender content s)
    (gone : rosterEntry (runTake s.cp.config sender content s.cu.agreed).agreed.roster s.cp.station =
      none) : applyTakeOwn sender content s = isolate (applyTake sender content s) := by
  have station : (applyTake sender content s).cp.station = s.cp.station := by
    have acts (u : State) : ((runTake s.cp.config sender content s.cu.agreed).acts.foldl doAct
        u).cp.station = u.cp.station :=
      keeps_foldl (fun t : State => t.cp.station) doAct (fun t a => by simp) _ _
    unfold applyTake applyRun rosterChanged
    split <;> simp [acts]
  rw [applyTakeOwn, checkOwnEntry_gone]
  · rwa [station]
  · rw [station, applyTake, applyRun_agreed]
    exact gone

/-- R80: with no round open, what applying another's LEAVE, or one of the own number, leaves. -/
theorem applyTake_leave {n : Station} {s : State} (known : (rosterEntry s.cu.agreed.roster n).isSome = true)
    (none_ : s.cu.agreed.openRounds = []) :
    RosterTaken
        { s.cu.agreed with
          roster := s.cu.agreed.roster.filter fun e => e.station != n
          epoch := s.cu.agreed.epoch + 1 } s (applyTake n .leave s) ∧
      (s.pli.tx = none →
        (applyTake n .leave s).pli.urgent = s.pli.urgent.filter fun q => !isSnapshotTo n q) := by
  rw [applyTake, runTake_leave_idle known none_]
  exact ⟨applyRun_rosterTaken (gone := [n]) (List.cons_ne_nil _ _) s,
    fun idle => applyRun_removed_urgent (List.cons_ne_nil _ _) idle⟩

theorem RosterTaken.agreed {a : AgreedState} {s t : State} (h : RosterTaken a s t) :
    t.cu.agreed = a := by rw [h.cu]

theorem RosterTaken.membership {a : AgreedState} {s t : State} (h : RosterTaken a s t) :
    t.cu.membership = s.cu.membership := by rw [h.cu]

theorem rosterEntry_filtered (n : Station) (es : List RosterEntry) :
    rosterEntry (es.filter fun e => e.station != n) n = none := by
  rw [rosterEntry_none_iff]
  intro e he
  simpa using List.of_mem_filter he

/-- R78, R82: a LEAVE of the own number from another station, with no round open. -/
theorem applyTakeOwn_leave_own {s : State}
    (known : (rosterEntry s.cu.agreed.roster s.cp.station).isSome = true)
    (none_ : s.cu.agreed.openRounds = []) :
    applyTakeOwn s.cp.station .leave s = isolate (applyTake s.cp.station .leave s) := by
  refine applyTakeOwn_gone ?_ ?_
  · rw [takeTouched_eq, runTake_leave_idle known none_]
    exact List.mem_singleton.mpr rfl
  · rw [runTake_leave_idle known none_]
    exact rosterEntry_filtered _ _

/-- Another station's LEAVE leaves the own entry alone. -/
theorem applyTakeOwn_leave_other {n : Station} {s : State} (other : n ≠ s.cp.station)
    (known : (rosterEntry s.cu.agreed.roster n).isSome = true)
    (none_ : s.cu.agreed.openRounds = []) : applyTakeOwn n .leave s = applyTake n .leave s := by
  refine checkOwnEntry_other (.inl ?_)
  obtain ⟨taken, -⟩ := applyTake_leave known none_
  rw [takeTouched_eq, runTake_leave_idle known none_, taken.cp]
  simpa using other.symm

/-- Settles O42: the course of a LEAVE drops the entry before anything else, and no later goal brings
the number back. -/
theorem takeLeaveRemovesTheEntry : Obligations.TakeLeaveRemovesTheEntry := by
  intro s n epoch p h attached applies known hp
  obtain ⟨u, hu⟩ : ∃ u, u = s.setPli (lineAfterTake s p) := ⟨_, rfl⟩
  have taken : exec (.takeLeave n epoch) s = .next (takeEffect p (isOwn s p) u) := by
    subst hp hu
    exact exec_taken (p := { sender := n, epoch := epoch, content := .leave }) h attached
      (sound_of_known known (by simp) (by simp))
  have effect (own : Bool) : takeEffect p own u = leaveTaken p own u := by subst hp; rfl
  have content : p.content = .leave := by rw [hp]
  obtain rfl : p.sender = n := by rw [hp]
  clear hp
  have cu : u.cu = s.cu := by rw [hu]; rfl
  have cp : u.cp = s.cp := by rw [hu]; rfl
  have appliesU : Applies u := by rw [hu]; exact applies
  have entry : (rosterEntry u.cu.agreed.roster p.sender).isSome = true := by
    rw [cu]; exact known_isSome known
  have departed := runTake_leave_departed (c := u.cp.config) entry
  have agreed := takeEffect_agreed appliesU p (isOwn s p)
  rw [content] at agreed
  refine ⟨_, taken, ?_, ?_, ?_, ?_, fun own => ?_, fun other none_ => ?_⟩
  · rw [agreed]
    exact departed.roster
  · rw [agreed, departed.epoch, cu]
  · rw [effect]
    refine leaveTaken_changed appliesU ?_ _
    rw [takeTouched_eq, content]
    exact List.ne_nil_of_mem departed.touched
  · rw [agreed]
    exact departed.rounds
  · have idle : u.pli.tx = none := by rw [hu]; exact (lineAfterTake_own own).1
    rw [effect, isOwn_of_ownUrgent own, leaveTaken_own appliesU]
    exact flushStopped_idle (tx_none_of_isSome (applyRun_tx _ _) idle)
  · have rounds : u.cu.agreed.openRounds = [] := by rw [cu]; exact none_
    obtain ⟨done, urgent⟩ := applyTake_leave entry rounds
    rw [cu] at done
    rw [runTake_leave_idle entry rounds, cu] at agreed
    rw [isOwn_of_notOwn other] at agreed ⊢
    refine ⟨agreed, ?_⟩
    rw [effect, leaveTaken_other appliesU, content]
    refine ⟨fun differs => ?_, fun same member => ?_, fun same leaving => ?_⟩
    · rw [applyTakeOwn_leave_other (by rwa [cp]) entry rounds, done.agreed]
      refine ⟨by rw [done.cu, cu], by rw [done.cp, cp], ?_, ?_, ?_, ?_, fun idle => ?_⟩
      · rw [done.fs, hu]; rfl
      · rw [done.li, hu]; rfl
      · rw [done.lb, hu]; rfl
      · rw [done.op, hu]; rfl
      · have line : u.pli = { s.pli with ackDrive := .recessive } := by
          rw [hu, lineAfterTake_other other]; rfl
        rw [urgent (by rw [line]; exact idle), line]
    · rw [same, ← cp] at entry ⊢
      rw [applyTakeOwn_leave_own entry rounds]
      refine isolate_membership.1 ?_
      rw [(applyTake_leave entry rounds).1.membership, cu, member]
    · rw [same, ← cp] at entry ⊢
      rw [applyTakeOwn_leave_own entry rounds]
      refine isolate_membership.2 ?_
      rw [(applyTake_leave entry rounds).1.membership, cu, leaving]

end Sys2Proof.Machine
end

section
/-! SUPPORT. The take of a JOIN: the entry it adds, and the SNAPSHOT that answers it. -/

namespace Sys2Proof.Machine

/-! ## The entry (R69, R76) -/

/-- R69, R76: the Agreed State after station n's JOIN. -/
def joined (n : Station) (a : AgreedState) : AgreedState :=
  { joinEntry n a with epoch := a.epoch + 1 }

/-- R69, R70: the stations whose SNAPSHOTs a JOIN of station n withdraws. -/
def replacedBy (n : Station) (a : AgreedState) : List Station :=
  if (rosterEntry a.roster n).isSome then [n] else []

/-- A new entry, or one replaced with no round open, closes no round. -/
theorem runTake_join {n : Station} {a : AgreedState} (d : Digest) (f : Bool) (ws : List Word16)
    (h : rosterEntry a.roster n = none ∨ a.openRounds = []) (c : ConfigItems) :
    runTake c n (.join d f ws) a =
      { agreed := joined n a, acts := removalActs (replacedBy n a), touched := [n] } := by
  have touched : ([n] : List Station) ≠ [] := List.cons_ne_nil n []
  cases e : rosterEntry a.roster n with
  | none => simp [runTake, takeFirst, e, workGoals_nil, advanceEpoch, joined, joinEntry, replacedBy,
      removalActs]
  | some x =>
    have none_ : a.openRounds = [] := h.resolve_left (by simp [e])
    have first : takeFirst n (.join d f ws) a =
        ({ agreed := joinEntry n a, acts := [.removed [n]], touched := [n] }, [.test]) := by
      simp [takeFirst, e]
    have rounds : (joinEntry n a).openRounds = [] := by simp [joinEntry, none_, leaveExpected]
    simp only [runTake, first]
    rw [workGoals_test rounds, advanceEpoch_touched touched]
    simp [joined, joinEntry, replacedBy, e, removalActs]

theorem rosterEntry_joined_same (n : Station) (a : AgreedState) :
    rosterEntry (joined n a).roster n = some { station := n, standing := .joining, missed := 0 } :=
  rosterEntry_putRoster_same _ a.roster

theorem rosterEntry_joined_other {n m : Station} (h : m ≠ n) (a : AgreedState) :
    rosterEntry (joined n a).roster m = rosterEntry a.roster m :=
  rosterEntry_putRoster_other h a.roster

/-- R69, R78: a JOIN changes the entries, and leaves the station's own in place. -/
theorem applyTakeOwn_join {n : Station} {s : State} (d : Digest) (f : Bool) (ws : List Word16)
    (h : rosterEntry s.cu.agreed.roster n = none ∨ s.cu.agreed.openRounds = []) :
    RosterTaken (joined n s.cu.agreed) s (applyTakeOwn n (.join d f ws) s) ∧
      (rosterEntry s.cu.agreed.roster n = none →
        (applyTakeOwn n (.join d f ws) s).pli.urgent = s.pli.urgent) := by
  have run := runTake_join d f ws h s.cp.config
  have done : RosterTaken (joined n s.cu.agreed) s (applyTake n (.join d f ws) s) := by
    rw [applyTake, run]
    exact applyRun_rosterTaken (List.cons_ne_nil n []) s
  have own : applyTakeOwn n (.join d f ws) s = applyTake n (.join d f ws) s := by
    refine checkOwnEntry_other ?_
    rw [takeTouched_eq, run, done.cp, done.agreed]
    by_cases same : s.cp.station = n
    · refine .inr ?_
      simp only [same, rosterEntry_joined_same]
      nofun
    · exact .inl (by simpa using same)
  rw [own]
  refine ⟨done, fun absent => ?_⟩
  rw [applyTake, run, show replacedBy n s.cu.agreed = [] by simp [replacedBy, absent]]
  exact applyRun_unremoved_urgent (List.cons_ne_nil n []) s

/-! ## The SNAPSHOT that answers it (R70) -/

theorem find_ne_of_not_mem {n : Station} {l : List Station} (h : n ∉ l) :
    l.find? (fun m => m != n) = l.head? := by
  cases l with
  | nil => rfl
  | cons x xs =>
    have other : x ≠ n := fun same => h (same ▸ List.mem_cons_self)
    simp [other]

theorem snapshotSender_joined {n : Station} {a : AgreedState} (absent : rosterEntry a.roster n = none) :
    snapshotSender (joined n a) n = (activeStations a.roster).head? := by
  have active : activeStations (joined n a).roster = activeStations a.roster :=
    activeStations_putJoining absent
  rw [snapshotSender, active]
  refine find_ne_of_not_mem fun h => ?_
  obtain ⟨e, he, same⟩ := mem_activeStations h
  exact (rosterEntry_none_iff _ _).mp absent e he same

theorem sameRound_snapshot (n : Station) (x : Queued) : sameRound (.snapshot n) x = false := by
  cases x <;> rfl

theorem sendSnapshot_other {n : Station} {s : State}
    (h : s.cu.membership ≠ .member ∨ snapshotSender s.cu.agreed n ≠ some s.cp.station) :
    sendSnapshot n s = s :=
  if_neg fun both => h.elim (fun m => m both.1) (fun m => m both.2)

theorem sendSnapshot_urgent {n : Station} {s : State} (member : s.cu.membership = .member)
    (sends : snapshotSender s.cu.agreed n = some s.cp.station) (idle : s.pli.tx = none)
    (room : s.pli.urgent.length < 8) :
    (sendSnapshot n s).pli.urgent =
      (s.pli.urgent.filter fun q => !isSnapshotTo n q) ++ [.snapshot n] := by
  have left := withdrawnUrgent_idle idle (isSnapshotTo n)
  have fits : (withdrawUrgent (isSnapshotTo n) s).pli.urgent.length < 8 := by
    rw [withdrawUrgent_pli, left]
    exact Nat.lt_of_le_of_lt (List.length_filter_le _ _) room
  rw [sendSnapshot, if_pos ⟨member, sends⟩, requestUrgent_accepted
    (urgentAnswer_room fits (sameRound_none (sameRound_snapshot n) _) (by simp [member, refusesQueueing]))]
  simp [pushUrgent, left]

/-! ## A member's own number (R78) -/

theorem joinReplacesOwn_other {n : Station} {s : State}
    (h : n ≠ s.cp.station ∨ s.cu.membership ≠ .member) : joinReplacesOwn n s = s :=
  if_neg fun both => h.elim (fun m => m both.1) (fun m => m both.2)

theorem joinReplacesOwn_own {s : State} (h : s.cu.membership = .member) :
    joinReplacesOwn s.cp.station s = enterJoining s :=
  if_pos ⟨rfl, h⟩

theorem joinTaken_applies {s : State} (h : Applies s) (p : Parcel) (f own : Bool) :
    joinTaken p f own s =
      sendSnapshot p.sender (joinReplacesOwn p.sender (applyTakeOwn p.sender p.content s)) := by
  obtain m | m := h <;> simp [joinTaken, m]

/-- Settles O43: the entries first, then what a JOIN of the own number does, then the SNAPSHOT. -/
theorem takeJoinAddsTheEntry : Obligations.TakeJoinAddsTheEntry := by
  intro s n epoch d f ws p h attached applies same hp apart
  obtain ⟨u, hu⟩ : ∃ u, u = s.setPli (lineAfterTake s p) := ⟨_, rfl⟩
  have sound : voidsIntact s p = false := by
    rw [← Bool.not_eq_true, voidsIntact_iff, memberVoids_join (by rw [hp])]
    exact fun both => both.2 same
  have taken : exec (.takeJoin n epoch d f ws) s = .next (takeEffect p (isOwn s p) u) := by
    subst hp hu
    exact exec_taken h attached sound
  have appliesU : Applies u := by rw [hu]; exact applies
  have cu : u.cu = s.cu := by rw [hu]; rfl
  have cp : u.cp = s.cp := by rw [hu]; rfl
  obtain ⟨w, hw⟩ : ∃ w, w = applyTakeOwn n (.join d f ws) u := ⟨_, rfl⟩
  have effect (own : Bool) : takeEffect p own u = sendSnapshot n (joinReplacesOwn n w) := by
    subst hp hw
    exact joinTaken_applies appliesU _ f own
  obtain ⟨done, urgent⟩ := applyTakeOwn_join (s := u) d f ws (by rw [cu]; exact apart)
  rw [← hw, cu] at done urgent
  have entries : (joinReplacesOwn n w).cu.agreed = joined n s.cu.agreed := by
    rw [← done.agreed]
    simp
  have member : w.cu.membership = s.cu.membership := by rw [done.membership, cu]
  have station : w.cp.station = s.cp.station := by rw [done.cp, cp]
  have agreed : (sendSnapshot n (joinReplacesOwn n w)).cu.agreed = joined n s.cu.agreed := by
    simpa using entries
  refine ⟨_, taken, ?_⟩
  rw [effect, agreed]
  refine ⟨rfl, rosterEntry_joined_same _ _, fun x other => rosterEntry_joined_other other _,
    leaveExpected_fields [n] _, leaveExpected_gone n _, ?_, ?_, ?_, ?_, ?_, fun other => ?_,
    fun own m => ?_, fun own m => ?_, fun idle other absent => ?_⟩
  · simpa [cp] using done.cp
  · simpa [hu] using done.fs
  · simpa [hu] using done.li
  · simpa [hu] using done.lb
  · simpa [hu] using done.op
  · rw [joinReplacesOwn_other (.inl (by rwa [station])), show (sendSnapshot n w).cu = w.cu by simp,
      done.cu, cu]
  · rw [own, ← station, joinReplacesOwn_own (by rw [member, m])]
    simp [enterJoining]
  · rw [joinReplacesOwn_other (.inr (by simp [member, m]))]
    simp [member, m]
  · have stays : joinReplacesOwn n w = w := joinReplacesOwn_other (.inl (by rwa [station]))
    have sender : snapshotSender w.cu.agreed n = (activeStations s.cu.agreed.roster).head? := by
      rw [done.agreed, snapshotSender_joined absent]
    have line : w.pli.urgent = (lineAfterTake s p).urgent := by rw [urgent absent, hu]; rfl
    rw [stays]
    refine ⟨fun m first room => ?_, fun waits => ?_⟩
    · rw [sendSnapshot_urgent (by rw [member, m]) (by rw [sender, first, station])
        (tx_none_of_isSome done.sends (by rw [hu]; exact idle)) (by rw [line]; exact room), line]
    · rw [sendSnapshot_other, line]
      obtain m | elsewhere := waits
      · exact .inl (by simp [member, m])
      · exact .inr (by rwa [sender, station])

end Sys2Proof.Machine
end

section
/-! SUPPORT. The station's own JOIN, the SNAPSHOT, and the removal of missed rounds. -/

namespace Sys2Proof.Machine

/-! ## The own JOIN in LISTENING or JOINING (R67, R68) -/

theorem ownJoinTaken_founds {s : State} (bar : s.cu.foundingBar = false)
    (ready : s.sc.bankA.state = .ready) : ownJoinTaken true s = found s := by
  simp [ownJoinTaken, bar, bankReady, bankOf, ready]

theorem ownJoinTaken_mismatch {s : State} (bar : s.cu.foundingBar = false)
    (unready : s.sc.bankA.state ≠ .ready) :
    ownJoinTaken true s = flushStopped (s.raise .bankMismatch) := by
  simp [ownJoinTaken, bar, bankReady, bankOf, unready]

theorem ownJoinTaken_joins {founding : Bool} {s : State} (other : s.cu.membership ≠ .member)
    (h : founding = false ∨ s.cu.foundingBar = true) :
    ownJoinTaken founding s =
      s.setCu { s.cu with membership := .joining, snapshotWait := 0, foundingBar := false } := by
  have joins : ownJoinTaken founding s = enterJoining s := by
    obtain h | h := h <;> simp [ownJoinTaken, h]
  rw [joins, enterJoining, quitMember_other other]

theorem joinTaken_outside {s : State} (p : Parcel) (founding : Bool)
    (h : s.cu.membership = .listening ∨ s.cu.membership = .joining) :
    joinTaken p founding true s = ownJoinTaken founding s := by
  obtain m | m := h <;> simp [joinTaken, m]

/-- Settles O44: it founds, stops for want of Bank A, or joins. -/
theorem ownJoinDecidesTheNextState : Obligations.OwnJoinDecidesTheNextState := by
  intro s n epoch d f ws p h attached waits hp own
  have member : s.cu.membership ≠ .member := by obtain m | m := waits <;> simp [m]
  have outside : ¬ Applies s := by obtain m | m := waits <;> simp [Applies, m]
  obtain ⟨u, hu⟩ : ∃ u, u = s.setPli (lineAfterTake s p) := ⟨_, rfl⟩
  have taken : exec (.takeJoin n epoch d f ws) s = .next (takeEffect p (isOwn s p) u) := by
    subst hp hu
    exact exec_taken (p := { sender := n, epoch := epoch, content := .join d f ws }) h attached
      (voidsIntact_outside outside _)
  have effect : takeEffect p true u = ownJoinTaken f u := by
    subst hp hu
    exact joinTaken_outside _ f waits
  rw [isOwn_of_ownUrgent own, effect] at taken
  obtain ⟨idle, urgent⟩ := lineAfterTake_own own
  have cu : u.cu = s.cu := by rw [hu]; rfl
  have cp : u.cp = s.cp := by rw [hu]; rfl
  have sc : u.sc = s.sc := by rw [hu]; rfl
  have line : u.pli = lineAfterTake s p := by rw [hu]; rfl
  have memberU : u.cu.membership ≠ .member := by rwa [cu]
  refine ⟨_, taken, fun founding bar ready => ?_, fun founding bar unready => ?_, fun joins => ?_⟩
  · subst founding
    rw [ownJoinTaken_founds (by rwa [cu]) (by rwa [sc])]
    refine ⟨by simp [found]; rfl, by simp [found, line, urgent], ?_, ?_, by simp [found, cp, sc]; rfl⟩
    · exact tx_none_of_isSome (q := u.pli) (by simp [found]) (by rw [line]; exact idle)
    · simp [found, State.raise, cp]
      rfl
  · subst founding
    rw [ownJoinTaken_mismatch (by rwa [cu]) (by rwa [sc])]
    have stopped := flushStopped_stopped (s := u.raise .bankMismatch) memberU
    obtain ⟨noUrgent, noBulk⟩ := flushStopped_queues (s := u.raise .bankMismatch) memberU
    exact ⟨stopped.membership, stopped.attached, noUrgent, noBulk, by simp [cu],
      by simp [State.raise, cp]; rfl⟩
  · rw [ownJoinTaken_joins memberU (by rwa [cu]), hu]
    rfl

/-! ## SNAPSHOT (R72, R73) -/

theorem applyTakeOwn_snapshot_stays {n joiner : Station} {carried : AgreedState} {s : State}
    (h : isJoining s.cu.agreed joiner = false) :
    applyTakeOwn n (.snapshot joiner carried) s = s :=
  applyTakeOwn_quiet (by rw [runTake_snapshot, if_neg (by simp [h])])

/-- R72, R76: the Agreed State after a SNAPSHOT to a JOINING station. -/
def activated (joiner : Station) (a : AgreedState) : AgreedState :=
  { activateEntry joiner a with epoch := a.epoch + 1 }

theorem runTake_snapshot_joining {c : ConfigItems} {n joiner : Station} {carried a : AgreedState}
    (h : isJoining a joiner = true) :
    runTake c n (.snapshot joiner carried) a =
      { agreed := activated joiner a, acts := removalActs [], touched := [joiner] } := by
  rw [runTake_snapshot, if_pos h]
  rfl

theorem rosterEntry_activated_same (joiner : Station) (a : AgreedState) :
    rosterEntry (activated joiner a).roster joiner =
      some { station := joiner, standing := .active, missed := 0 } :=
  rosterEntry_putRoster_same _ a.roster

theorem rosterEntry_activated_other {joiner n : Station} (h : n ≠ joiner) (a : AgreedState) :
    rosterEntry (activated joiner a).roster n = rosterEntry a.roster n :=
  rosterEntry_putRoster_other h a.roster

theorem applyTakeOwn_snapshot {n joiner : Station} {carried : AgreedState} {s : State}
    (h : isJoining s.cu.agreed joiner = true) :
    RosterTaken (activated joiner s.cu.agreed) s
      (applyTakeOwn n (.snapshot joiner carried) s) := by
  have run := runTake_snapshot_joining (c := s.cp.config) (n := n) (carried := carried) h
  have done : RosterTaken (activated joiner s.cu.agreed) s
      (applyTake n (.snapshot joiner carried) s) := by
    rw [applyTake, run]
    exact applyRun_rosterTaken (List.cons_ne_nil joiner []) s
  rw [applyTakeOwn, checkOwnEntry_other]
  · exact done
  · rw [takeTouched_eq, run, done.cp, done.agreed]
    by_cases same : s.cp.station = joiner
    · refine .inr ?_
      simp only [same, rosterEntry_activated_same]
      nofun
    · exact .inl (by simpa using same)

theorem snapshotTaken_applies {s : State} (h : Applies s) (p : Parcel) (joiner : Station)
    (carried : AgreedState) (own : Bool) :
    snapshotTaken p joiner carried own s = applyTakeOwn p.sender p.content s :=
  if_pos ((applies_iff s).mpr h)

theorem banksPass_iff (s : State) (r : BankRecord) :
    banksPass s r = true ↔ bankMatches s r.active r.digest = true ∧
      ∀ sel, r.pending = some sel → bankMatches s sel.bank sel.digest = true := by
  unfold banksPass
  cases r.pending <;> simp

/-- R73 step 3 reads the banks alone. -/
theorem bankMatches_of_sc {s t : State} (h : t.sc = s.sc) (b : BankName) (d : Digest) :
    bankMatches t b d = bankMatches s b d := by
  cases b <;> simp [bankMatches, bankReady, bankOf, h]

theorem decideAdoption_passes {s : State} (h : banksPass s s.cu.agreed.bank = true) :
    decideAdoption s = (s.setMembership .member).raise .membershipChanged :=
  if_pos h

theorem decideAdoption_fails {s : State} (h : banksPass s s.cu.agreed.bank ≠ true) :
    decideAdoption s = enterLeaving ((s.raise .bankMismatch).raise .membershipChanged) :=
  if_neg h

/-- R79: a station outside MEMBER that becomes LEAVING, with room in the Urgent Queue. -/
theorem enterLeaving_outside {s : State} (other : s.cu.membership ≠ .member) :
    (enterLeaving s).cu.membership = .leaving ∧ (s.pli.urgent.length < 8 →
      Queued.leave ∈ (enterLeaving s).pli.urgent ∧ (enterLeaving s).cu.leaveOwed = false) := by
  rw [enterLeaving, quitMember_other other]
  refine ⟨by simp, fun room => ?_⟩
  rw [askLeave_room (by simpa using room) (by simp [refusesQueueing])]
  simp [pushUrgent]

/-- R73: what an adopting station decides on. -/
def adopting (joiner : Station) (carried : AgreedState) (s : State) : State :=
  withdrawUrgent isJoin (s.setAgreed (activated joiner carried))

theorem adopt_eq {n joiner : Station} {carried : AgreedState} (h : isJoining carried joiner = true)
    (s : State) :
    adopt n joiner carried s = resetDirections (decideAdoption (adopting joiner carried s)) := by
  rw [adopt, runTake_snapshot_joining h]
  rfl

/-- Settles O45. -/
theorem takeSnapshotActivatesAndIsAdopted : Obligations.TakeSnapshotActivatesAndIsAdopted := by
  intro s n joiner epoch carried p h attached hp
  obtain ⟨u, hu⟩ : ∃ u, u = s.setPli (lineAfterTake s p) := ⟨_, rfl⟩
  have taken (sound : voidsIntact s p = false) :
      exec (.takeSnapshot n epoch joiner carried) s = .next (takeEffect p (isOwn s p) u) := by
    subst hp hu
    exact exec_taken (p := { sender := n, epoch := epoch, content := .snapshot joiner carried }) h
      attached sound
  have effect (applies : Applies s) (own : Bool) :
      takeEffect p own u = applyTakeOwn n (.snapshot joiner carried) u := by
    have effect : takeEffect p own u = snapshotTaken p joiner carried own u := by subst hp; rfl
    rw [effect, snapshotTaken_applies (by rw [hu]; exact applies), hp]
  have sound (known : Known s n epoch) : voidsIntact s p = false := by
    subst hp
    exact sound_of_known known (by simp) (by simp)
  have cu : u.cu = s.cu := by rw [hu]; rfl
  have cp : u.cp = s.cp := by rw [hu]; rfl
  refine ⟨fun applies known stays => ?_, fun applies known joins => ?_, fun joining self carries => ?_⟩
  · rw [taken (sound known), effect applies, applyTakeOwn_snapshot_stays (by rwa [cu]), hu]
  · have done := applyTakeOwn_snapshot (n := n) (carried := carried) (s := u) (by rwa [cu])
    rw [cu] at done
    refine ⟨_, taken (sound known), ?_⟩
    rw [effect applies, done.agreed]
    refine ⟨rfl, rosterEntry_activated_same _ _, fun x other => rosterEntry_activated_other other _,
      ?_, ?_, ?_, ?_, ?_, ?_⟩
    · rw [done.cu, cu]
    · rw [done.cp, cp]
    · rw [done.fs, hu]; rfl
    · rw [done.li, hu]; rfl
    · rw [done.lb, hu]; rfl
    · rw [done.op, hu]; rfl
  · have outside : ¬ Applies s := by simp [Applies, joining]
    obtain ⟨v, hv⟩ : ∃ v, v = recordHeard (isOwn s p) n true u := ⟨_, rfl⟩
    have adopted : takeEffect p (isOwn s p) u =
        resetDirections (decideAdoption (adopting joiner carried v)) := by
      rw [takeEffect_adopts (joiner := joiner) (carried := carried) (by rwa [cu]) (by rw [hp])
        (by rwa [cp]) (by rwa [cp, ← self]), adopt_eq carries, hv, hp]
    obtain ⟨w, hw⟩ : ∃ w, w = adopting joiner carried v := ⟨_, rfl⟩
    have agreed : w.cu.agreed = activated joiner carried := by
      rw [hw, adopting, withdrawUrgent_agreed]
      rfl
    have cpW : w.cp = s.cp := by simp [hw, adopting, hv, cp]
    have memberW : w.cu.membership ≠ .member := by simp [hw, adopting, hv, cu, joining]
    have banks (b : BankName) (digest : Digest) : bankMatches w b digest = bankMatches s b digest :=
      bankMatches_of_sc (by simp [hw, adopting, hv, hu]) b digest
    have passes : banksPass w w.cu.agreed.bank = true ↔
        bankMatches s carried.bank.active carried.bank.digest = true ∧
          ∀ sel, carried.bank.pending = some sel → bankMatches s sel.bank sel.digest = true := by
      rw [banksPass_iff, agreed]
      simp only [banks]
      rfl
    refine ⟨_, taken (voidsIntact_outside outside p), ?_⟩
    rw [adopted, ← hw]
    have kept : (resetDirections (decideAdoption w)).cu.agreed = activated joiner carried := by
      simpa using agreed
    rw [kept]
    refine ⟨rfl, rosterEntry_activated_same _ _, fun x other => rosterEntry_activated_other other _,
      fun active pending => ?_, fun fails => ?_⟩
    · rw [decideAdoption_passes (passes.mpr ⟨active, pending⟩)]
      refine ⟨by simp; rfl, ?_⟩
      simp [State.raise, cpW]
      rfl
    · rw [decideAdoption_fails]
      · obtain ⟨leaving, room⟩ := enterLeaving_outside
          (s := (w.raise .bankMismatch).raise .membershipChanged) (by simpa using memberW)
        refine ⟨by simpa using leaving, ?_, fun short => ?_⟩
        · simp [State.raise, cpW]
          rfl
        · have short : w.pli.urgent.length < 8 := by
            refine Nat.lt_of_le_of_lt ?_ short
            have line : v.pli = lineAfterTake s p := by simp [hv, hu]
            rw [hw, adopting, withdrawUrgent_pli, ← line]
            exact (withdrawnUrgent_keeps isJoin v.pli).1
          simpa using room (by simpa using short)
      · refine mt passes.mp ?_
        rintro ⟨active, pending⟩
        obtain off | ⟨sel, some_, off⟩ := fails
        · simp [active] at off
        · simp [pending sel some_] at off

/-! ## Removal (R77, R78) -/

theorem runRemoval_none {c : ConfigItems} {a : AgreedState} (h : ∀ e ∈ a.roster, e.missed < 3) :
    runRemoval c a = TakeRun.start a := by
  have none_ : missedStations a.roster = [] := by
    simpa [missedStations, missedOut] using h
  simp [runRemoval, none_]

/-- R77, R76: the Agreed State without the entries that missed three rounds. -/
def withoutMissed (a : AgreedState) : AgreedState :=
  { a with roster := a.roster.filter (fun e => e.missed < 3), epoch := a.epoch + 1 }

theorem missedStations_some {es : List RosterEntry} (h : ∃ e ∈ es, 3 ≤ e.missed) :
    missedStations es ≠ [] := by
  simpa [missedStations, missedOut] using h

theorem runRemoval_some {c : ConfigItems} {a : AgreedState} (h : ∃ e ∈ a.roster, 3 ≤ e.missed)
    (none_ : a.openRounds = []) :
    runRemoval c a =
      { agreed := withoutMissed a, acts := removalActs (missedStations a.roster)
        touched := missedStations a.roster } := by
  have gone := missedStations_some h
  have stays (e : RosterEntry) : (!missedOut e) = decide (e.missed < 3) := by
    simp [missedOut, ← decide_not]
  rw [runRemoval, if_neg (by simpa using gone),
    workGoals_test (by simp [removeMissed, none_, leaveExpected])]
  rw [advanceEpoch_touched gone]
  simp [removeMissed, none_, leaveExpected, withoutMissed, stays]

theorem mem_missedStations {es : List RosterEntry} {n : Station} :
    n ∈ missedStations es ↔ ∃ e ∈ es, 3 ≤ e.missed ∧ e.station = n := by
  simp [missedStations, missedOut, and_assoc]

theorem missedRemoval_applies {s : State} (h : Applies s) :
    missedRemoval s =
      checkOwnEntry (runRemoval s.cp.config s.cu.agreed).touched
        (applyRun (runRemoval s.cp.config s.cu.agreed) s) :=
  if_pos ((applies_iff s).mpr h)

theorem missedRemoval_undue {s : State}
    (h : ¬ Applies s ∨ ∀ e ∈ s.cu.agreed.roster, e.missed < 3) : missedRemoval s = s := by
  by_cases applies : Applies s
  · rw [missedRemoval_applies applies, runRemoval_none (h.resolve_left (absurd applies))]
    exact (checkOwnEntry_nil _).trans (applyRun_quiet rfl rfl s)
  · exact if_neg (mt (applies_iff s).mp applies)

theorem missedRemoval_pending (s : State) : (missedRemoval s).pending = s.pending := by
  unfold missedRemoval
  split
  · simp [applyRun_pending]
  · rfl

/-- Settles O46. -/
theorem missedRoundRemovalRemovesTheEntries : Obligations.MissedRoundRemovalRemovesTheEntries := by
  intro s h
  have next : exec .missedRoundRemoval s = .next (missedRemoval s) :=
    live_next_of_pending h (missedRemoval_pending s)
  refine ⟨fun undue => by rw [next, missedRemoval_undue undue], fun applies due none_ => ?_⟩
  obtain ⟨gone, hgone⟩ : ∃ gone, gone = missedStations s.cu.agreed.roster := ⟨_, rfl⟩
  have touched : gone ≠ [] := by rw [hgone]; exact missedStations_some due
  obtain ⟨w, hw⟩ : ∃ w, w =
      applyRun { agreed := withoutMissed s.cu.agreed, acts := removalActs gone, touched := gone } s :=
    ⟨_, rfl⟩
  have done : RosterTaken (withoutMissed s.cu.agreed) s w := by
    rw [hw]
    exact applyRun_rosterTaken touched s
  have removal : missedRemoval s = checkOwnEntry gone w := by
    rw [missedRemoval_applies applies, runRemoval_some due none_, hw, hgone]
  refine ⟨_, next, ?_⟩
  rw [removal]
  have agreed : (checkOwnEntry gone w).cu.agreed = withoutMissed s.cu.agreed := by
    rw [← done.agreed]
    simp
  refine ⟨agreed, ?_, fun others => ?_, fun ⟨e, he, same⟩ all => ?_⟩
  · refine checkOwnEntry_event gone ?_
    rw [done.cp]
    simp
  · have stays : checkOwnEntry gone w = w := by
      refine checkOwnEntry_other (.inl ?_)
      rw [done.cp, hgone, mem_missedStations]
      rintro ⟨e, he, missed, same⟩
      exact others e he missed same
    rw [stays, done.agreed]
    exact ⟨done.cu, done.cp⟩
  · have leaves : checkOwnEntry gone w = isolate w := by
      refine checkOwnEntry_gone ?_ ?_
      · rw [done.cp, hgone, mem_missedStations]
        exact ⟨e, he, all e he same, same⟩
      · rw [done.agreed, done.cp, rosterEntry_none_iff]
        intro x hx own
        obtain ⟨hx, few⟩ := List.mem_filter.mp hx
        exact absurd (all x hx own) (by simpa using few)
    rw [leaves]
    have course := isolate_membership (s := w)
    rwa [done.membership] at course

end Sys2Proof.Machine
end

section
/-! SUPPORT. The take of a HALO: what it counts at its sender, and where it is stored at its
addressee. -/

namespace Sys2Proof.Machine

/-! ## At the sender (R154, R155) -/

theorem outboundEvent_taken {d : Direction} {r : Outbound} {f : FieldNo} (h : d.outbound = [r])
    (same : r.frame = f) :
    (1 < r.remaining → outboundEvent parcelTaken f d =
        { d with outbound := [{ r with remaining := r.remaining - 1, taken := r.taken + 1 }] }) ∧
      (r.remaining = 1 → outboundEvent parcelTaken f d = { d with outbound := [] }) := by
  refine ⟨fun more => ?_, fun last => ?_⟩
  · have left : r.remaining - 1 ≠ 0 := by omega
    simp [outboundEvent, h, countOutbound, same, parcelTaken, left]
  · simp [outboundEvent, h, countOutbound, same, parcelTaken, last]

theorem recordHeard_applies {s : State} (h : Applies s) (own : Bool) (n : Station) (bar : Bool) :
    recordHeard own n bar s = s := by
  cases own
  · obtain m | m := h <;> simp [recordHeard, m]
  · rfl

theorem haloTaken_applies {s : State} (h : Applies s) (n : Station) (p : HaloParcel) :
    (p.addressee ≠ s.cp.station →
      haloTaken n p true s = ownHaloTaken p s ∧ haloTaken n p false s = s) ∧
      (p.addressee = s.cp.station → haloTaken n p false s = receiveHalo n p s) := by
  refine ⟨fun other => ?_, fun same => ?_⟩
  · simp [haloTaken, recordHeard_applies h, other]
  · simp [haloTaken, recordHeard_applies h, same]

theorem ownHaloTaken_some {s : State} {p : HaloParcel} {side : Side}
    (h : sideOf s p.addressee = some side) :
    ownHaloTaken p s = s.setDir side (outboundEvent parcelTaken p.frame (dirOf s side)) := by
  simp [ownHaloTaken, h]

/-! ## At the addressee: the slot (R159) -/

theorem newer_asymm {f g : FieldNo} (h : newer f g = true) : newer g f = false := by
  simp only [newer, Bool.and_eq_true, decide_eq_true_eq, Bool.and_eq_false_iff,
    decide_eq_false_iff_not] at h ⊢
  bv_omega

theorem sideOf_none {s : State} {n : Station} (h : NotNeighbour s n) : sideOf s n = none := by
  simp [sideOf, h.1, h.2]

theorem receiveHalo_elsewhere {s : State} {n : Station} (h : NotNeighbour s n) (p : HaloParcel) :
    receiveHalo n p s = s := by
  simp [receiveHalo, sideOf_none h]

theorem receiveHalo_uncounted {s : State} {n : Station} {side : Side} (h : sideOf s n = some side)
    (counts : neighbourCounts s side = false) (p : HaloParcel) : receiveHalo n p s = s := by
  simp [receiveHalo, h, counts]

/-- A parcel that a counting neighbour sends, by where R159 puts it. -/
theorem receiveHalo_counted {s : State} {n : Station} {side : Side} {p : HaloParcel}
    (h : sideOf s n = some side) (counts : neighbourCounts s side = true) :
    (placeIn s (dirOf s side) p.frame = .drop → receiveHalo n p s = s) ∧
      (placeIn s (dirOf s side) p.frame = .staleDrop →
        receiveHalo n p s = s.setDir side (noteRelease p.frame (dirOf s side))) ∧
      (∀ i, placeIn s (dirOf s side) p.frame = .place i →
        receiveHalo n p s = placeHalo side i p s) := by
  refine ⟨fun place => ?_, fun place => ?_, fun i place => ?_⟩ <;>
    simp [receiveHalo, h, counts, place]

theorem findIdx_first {α : Type} {l : List α} {i : Nat} {x : α} {p : α → Bool} (h : l[i]? = some x)
    (hit : p x = true) (before : ∀ (j : Nat) (y : α), j < i → l[j]? = some y → p y = false) :
    l.findIdx? p = some i := by
  obtain ⟨lt, rfl⟩ := List.getElem?_eq_some_iff.mp h
  rw [List.findIdx?_eq_some_iff_getElem]
  refine ⟨lt, hit, fun j hj => ?_⟩
  rw [before j _ hj (List.getElem?_eq_getElem (Nat.lt_trans hj lt))]
  nofun

theorem findIdx_none {α : Type} {l : List α} {p : α → Bool} (h : ∀ x ∈ l, p x = false) :
    l.findIdx? p = none :=
  List.findIdx?_eq_none_iff.mpr h

theorem placeIn_held {s : State} {d : Direction} {f : FieldNo} {i : Nat} {sl : ReceiveSlot}
    (h : d.slots[i]? = some sl) (holds : sl.frame = some f)
    (before : ∀ (j : Nat) (x : ReceiveSlot), j < i → d.slots[j]? = some x → x.frame ≠ some f) :
    placeIn s d f = .place i := by
  have found : (d.slots.findIdx? fun sl => sl.frame == some f) = some i :=
    findIdx_first h (by simp [holds]) fun j x hj hx => by simpa using before j x hj hx
  simp only [placeIn, found]

section Unheld
variable {s : State} {d : Direction} {f : FieldNo} (unheld : ∀ sl ∈ d.slots, sl.frame ≠ some f)
include unheld

theorem findIdx_unheld : (d.slots.findIdx? fun sl => sl.frame == some f) = none :=
  findIdx_none fun sl hs => by simpa using unheld sl hs

theorem placeIn_letGo (h : notNewerThan f d.letGo = true) : placeIn s d f = .drop := by
  simp [placeIn, findIdx_unheld unheld, h]

theorem placeIn_stale (h : notNewerThan f d.letGo = false) (stale : staleFrame s f = true) :
    placeIn s d f = .staleDrop := by
  simp [placeIn, findIdx_unheld unheld, h, stale]

theorem placeIn_free {i : Nat} {sl : ReceiveSlot} (h : notNewerThan f d.letGo = false)
    (fresh : staleFrame s f = false) (at_ : d.slots[i]? = some sl) (free : sl.state = .free)
    (before : ∀ (j : Nat) (x : ReceiveSlot), j < i → d.slots[j]? = some x → x.state ≠ .free) :
    placeIn s d f = .place i := by
  have found : (d.slots.findIdx? fun sl => sl.state == .free) = some i :=
    findIdx_first at_ (by simp [free]) fun j x hj hx => by simpa using before j x hj hx
  simp [placeIn, findIdx_unheld unheld, h, fresh, found]

theorem placeIn_oldest {i : Nat} {g : FieldNo} (h : notNewerThan f d.letGo = false)
    (fresh : staleFrame s f = false) (full : ∀ x ∈ d.slots, x.state ≠ .free)
    (oldest : oldestSlot 0 d.slots = some (i, g)) : placeIn s d f = .place i := by
  have none_ : (d.slots.findIdx? fun sl => sl.state == .free) = none :=
    findIdx_none fun x hx => by simpa using full x hx
  simp [placeIn, findIdx_unheld unheld, h, fresh, none_, oldest]

end Unheld

/-- R159 step 6: the slot is IN_USE, or holds a frame newer than g. -/
def Outlasts (g : FieldNo) (x : ReceiveSlot) : Prop :=
  x.state = .inUse ∨ ∃ g', x.frame = some g' ∧ newer g' g = true

/-- What R159 step 6 does with one slot more, by the choice among the rest. -/
theorem oldestSlot_cons (k : Nat) (sl : ReceiveSlot) (rest : List ReceiveSlot) :
    (sl.state = .inUse ∨ sl.frame = none →
      oldestSlot k (sl :: rest) = oldestSlot (k + 1) rest) ∧
      (∀ f, sl.state ≠ .inUse → sl.frame = some f →
        (oldestSlot (k + 1) rest = none → oldestSlot k (sl :: rest) = some (k, f)) ∧
        ∀ j g, oldestSlot (k + 1) rest = some (j, g) →
          oldestSlot k (sl :: rest) = if newer f g then some (j, g) else some (k, f)) := by
  obtain ⟨state, frame, received⟩ := sl
  refine ⟨fun h => ?_, fun f used holds => ⟨fun none_ => ?_, fun j g chosen => ?_⟩⟩
  · cases state <;> cases frame <;> simp [oldestSlot] at h ⊢
  · obtain rfl : frame = some f := holds
    cases state <;> simp [oldestSlot, none_] at used ⊢
  · obtain rfl : frame = some f := holds
    cases state <;> simp [oldestSlot, chosen] at used ⊢

theorem oldestSlot_outlasts {g : FieldNo} {l : List ReceiveSlot} (h : ∀ x ∈ l, Outlasts g x) :
    ∀ (k j : Nat) (f : FieldNo), oldestSlot k l = some (j, f) → newer f g = true := by
  induction l with
  | nil => exact fun k j f eq => by simp [oldestSlot] at eq
  | cons sl rest ih =>
    intro k j f eq
    have rest_ := ih (fun x hx => h x (List.mem_cons_of_mem sl hx))
    obtain ⟨skips, holds⟩ := oldestSlot_cons k sl rest
    by_cases used : sl.state = .inUse
    · exact rest_ (k + 1) j f (by rwa [skips (.inl used)] at eq)
    · obtain ⟨g', hg', later⟩ := (h sl List.mem_cons_self).resolve_left used
      obtain ⟨alone, among⟩ := holds g' used hg'
      cases chosen : oldestSlot (k + 1) rest with
      | none =>
        rw [alone chosen] at eq
        simp only [Option.some.injEq, Prod.mk.injEq] at eq
        exact eq.2 ▸ later
      | some pair =>
        rw [among pair.1 pair.2 chosen] at eq
        split at eq
        · exact rest_ (k + 1) j f (chosen.trans eq)
        · simp only [Option.some.injEq, Prod.mk.injEq] at eq
          exact eq.2 ▸ later

/-- R159 step 6: the slot that every other outlasts. -/
theorem oldestSlot_eq {g : FieldNo} {l : List ReceiveSlot} :
    ∀ {i : Nat} {sl : ReceiveSlot} (k : Nat), l[i]? = some sl → sl.state ≠ .inUse →
      sl.frame = some g →
      (∀ (j : Nat) (x : ReceiveSlot), j ≠ i → l[j]? = some x → Outlasts g x) →
      oldestSlot k l = some (k + i, g) := by
  induction l with
  | nil => exact fun k h => by simp at h
  | cons x rest ih =>
    intro i sl k h used holds others
    obtain ⟨skips, held⟩ := oldestSlot_cons k x rest
    cases i with
    | zero =>
      obtain rfl : x = sl := by simpa using h
      obtain ⟨alone, among⟩ := held g used holds
      have outlast : ∀ y ∈ rest, Outlasts g y := fun y hy => by
        obtain ⟨j, hj⟩ := List.mem_iff_getElem?.mp hy
        exact others (j + 1) y (Nat.succ_ne_zero j) (by simpa using hj)
      cases chosen : oldestSlot (k + 1) rest with
      | none => exact alone chosen
      | some pair =>
        rw [among pair.1 pair.2 chosen, if_neg]
        · rfl
        · simp [newer_asymm (oldestSlot_outlasts outlast _ _ _ chosen)]
    | succ i =>
      have chosen := ih (k + 1) (by simpa using h) used holds
        fun j y other hy => others (j + 1) y (by omega) (by simpa using hy)
      rw [show k + (i + 1) = k + 1 + i by omega]
      by_cases inUse : x.state = .inUse
      · rw [skips (.inl inUse), chosen]
      · obtain ⟨g', hg', later⟩ := (others 0 x (Nat.succ_ne_zero i).symm rfl).resolve_left inUse
        rw [(held g' inUse hg').2 _ _ chosen, if_pos later]

/-! ## At the addressee: the line (R160) -/

theorem modify_of_get {α : Type} {l : List α} {i : Nat} {x : α} (h : l[i]? = some x) (f : α → α) :
    l.modify i f = l.set i (f x) := by
  rw [List.modify_eq_set_getElem?, h]
  rfl

/-- R160: a slot with a line stored, COMPLETE once a FILLING slot holds every line. -/
def storedSlot (sl : ReceiveSlot) (k : Nat) (v : LineSamples) : ReceiveSlot :=
  let stored := { sl with received := sl.received.set k (some v) }
  if stored.state = .filling && slotFull stored then { stored with state := .complete } else stored

theorem receiveLine_expected {o : Ownership} {side : Side} {p : HaloParcel} {k : Nat}
    (h : expectedPlace o side p.line = some k) (sl : ReceiveSlot) :
    receiveLine o side p sl = storedSlot sl k p.samples := by
  simp only [receiveLine, h]
  rfl

theorem slotFull_iff (sl : ReceiveSlot) : slotFull sl = true ↔ ∀ x ∈ sl.received, x ≠ none := by
  simp [slotFull, Option.isSome_iff_ne_none]

theorem storedSlot_eq (sl : ReceiveSlot) (k : Nat) (v : LineSamples) :
    storedSlot sl k v =
      { sl with
        state := (storedSlot sl k v).state, received := sl.received.set k (some v) } := by
  simp only [storedSlot]
  split <;> rfl

theorem storedSlot_complete_iff (sl : ReceiveSlot) (k : Nat) (v : LineSamples) :
    (storedSlot sl k v).state = .complete ↔ sl.state = .complete ∨
      (sl.state = .filling ∧ ∀ x ∈ sl.received.set k (some v), x ≠ none) := by
  have full := slotFull_iff { sl with received := sl.received.set k (some v) }
  simp only at full
  simp only [storedSlot]
  split
  · next both =>
    simp only [Bool.and_eq_true, decide_eq_true_eq] at both
    exact ⟨fun _ => .inr ⟨both.1, full.mp both.2⟩, fun _ => rfl⟩
  · next not_ =>
    simp only [Bool.and_eq_true, decide_eq_true_eq] at not_
    rw [← full]
    simp only [or_iff_left not_]

theorem storedSlot_inUse {sl : ReceiveSlot} (h : sl.state = .inUse) (k : Nat) (v : LineSamples) :
    storedSlot sl k v = { sl with received := sl.received.set k (some v) } := by
  simp [storedSlot, h]

theorem storedSlot_unused {sl : ReceiveSlot} (h : sl.state ≠ .inUse) (k : Nat) (v : LineSamples) :
    (storedSlot sl k v).state ≠ .inUse := by
  simp only [storedSlot]
  split
  · nofun
  · exact h

/-- One line does not fill a slot of three or four. -/
theorem storedSlot_first (side : Side) (f : FieldNo) (k : Nat) (v : LineSamples) :
    storedSlot { state := .filling, frame := some f, received := List.replicate (sideSize side) none } k v =
      { state := .filling, frame := some f
        received := (List.replicate (sideSize side) none).set k (some v) } := by
  refine if_neg ?_
  rw [Bool.and_eq_true, slotFull_iff]
  rintro ⟨-, full⟩
  have first := fun i (hi : i < sideSize side) (other : i ≠ k) =>
    full none (List.mem_iff_getElem?.mpr ⟨i, by
      rw [List.getElem?_set_ne other.symm]
      exact List.getElem?_replicate_of_lt hi⟩) rfl
  have two : 1 < sideSize side := by cases side <;> decide
  by_cases zero : 0 = k
  · exact first 1 two (by omega)
  · exact first 0 (by omega) zero

theorem resolveIfFull_unused {side : Side} {i : Nat} {s : State} {sl : ReceiveSlot}
    (h : (dirOf s side).slots[i]? = some sl) (unused : sl.state ≠ .inUse) :
    resolveIfFull side i s = s := by
  simp [resolveIfFull, h, unused]

theorem resolveIfFull_inUse {side : Side} {i : Nat} {s : State} {sl : ReceiveSlot}
    (h : (dirOf s side).slots[i]? = some sl) (inUse : sl.state = .inUse) :
    ((slotFull sl && sideUnresolved s side) = true →
      resolveIfFull side i s = resolveSide side (linesFrom sl.received) s) ∧
      ((slotFull sl && sideUnresolved s side) ≠ true → resolveIfFull side i s = s) := by
  refine ⟨fun both => ?_, fun not_ => ?_⟩
  · simp only [Bool.and_eq_true] at both
    simp [resolveIfFull, h, inUse, both.1, both.2]
  · have off : (slotFull sl && sideUnresolved s side) = false := by simpa using not_
    simp only [resolveIfFull, h, inUse, decide_true, Bool.true_and, off]
    rfl

theorem prepareSlot_held {s : State} {side : Side} {i : Nat} {f : FieldNo} {d : Direction}
    {sl : ReceiveSlot} (h : d.slots[i]? = some sl) (holds : sl.frame = some f) :
    prepareSlot s side i f d = d := by
  simp [prepareSlot, h, holds]

theorem get_set_same {α : Type} {l : List α} {i : Nat} {x : α} (h : l[i]? = some x) (y : α) :
    (l.set i y)[i]? = some y := by
  obtain ⟨lt, -⟩ := List.getElem?_eq_some_iff.mp h
  simp [lt]

/-- R160: a line of a frame that a slot holds. -/
theorem placeHalo_held {side : Side} {i k : Nat} {p : HaloParcel} {s : State} {sl : ReceiveSlot}
    (h : (dirOf s side).slots[i]? = some sl) (holds : sl.frame = some p.frame)
    (expected : expectedPlace s.cp.ownership side p.line = some k) :
    placeHalo side i p s =
      resolveIfFull side i
        (s.setDir side
          { dirOf s side with
            slots := (dirOf s side).slots.set i (storedSlot sl k p.samples) }) := by
  simp only [placeHalo]
  rw [prepareSlot_held h holds, modify_of_get h, receiveLine_expected expected]

/-- R160: a line of a frame new to its slot, with `released` the record once the frame that the slot
held is let go. -/
theorem placeHalo_fresh {side : Side} {i k : Nat} {p : HaloParcel} {s : State} {sl : ReceiveSlot}
    {released : Direction} (h : (dirOf s side).slots[i]? = some sl)
    (held : (sl.frame = none ∧ released = dirOf s side) ∨
      ∃ g, sl.frame = some g ∧ g ≠ p.frame ∧ released = noteRelease g (dirOf s side))
    (waits : buildFrame s ≠ some p.frame)
    (expected : expectedPlace s.cp.ownership side p.line = some k) :
    placeHalo side i p s =
      s.setDir side
        { released with
          slots := (dirOf s side).slots.set i
            { state := .filling, frame := some p.frame
              received := (List.replicate (sideSize side) none).set k (some p.samples) } } := by
  have prepared : prepareSlot s side i p.frame (dirOf s side) =
      { released with
        slots := (dirOf s side).slots.set i
          { state := .filling, frame := some p.frame
            received := List.replicate (sideSize side) none } } := by
    obtain ⟨none_, rfl⟩ | ⟨g, some_, other, rfl⟩ := held
    · simp [prepareSlot, h, none_, waits]
    · simp [prepareSlot, h, some_, other, waits]
  simp only [placeHalo]
  rw [prepared, modify_of_get (get_set_same h _), receiveLine_expected expected,
    storedSlot_first, List.set_set]
  exact resolveIfFull_unused (by rw [dirOf_setDir_same]; exact get_set_same h _) (by simp)

theorem linesFrom_full {received : List (Option LineSamples)} (h : ∀ x ∈ received, x ≠ none) :
    linesFrom received = received.filterMap fun r => r.map HaloLine.neighbour := by
  induction received with
  | nil => rfl
  | cons x xs ih =>
    obtain ⟨v, rfl⟩ := Option.ne_none_iff_exists'.mp (h x List.mem_cons_self)
    have tail := ih fun y hy => h y (List.mem_cons_of_mem _ hy)
    rw [List.filterMap_cons_some (f := fun r => Option.map HaloLine.neighbour r) (b := .neighbour v) rfl,
      ← tail]
    rfl

theorem sideUnresolved_setDir (s : State) (side other : Side) (d : Direction) :
    sideUnresolved (s.setDir side d) other = sideUnresolved s other := by
  simp [sideUnresolved]

/-! ## At the addressee: what a parcel does (R159, R160) -/

section Counted
variable {s : State} {n : Station} {side : Side} {p : HaloParcel} (toward : sideOf s n = some side)
  (counts : neighbourCounts s side = true)
include toward counts

theorem receiveHalo_unused {i k : Nat} {sl : ReceiveSlot} (h : (dirOf s side).slots[i]? = some sl)
    (holds : sl.frame = some p.frame)
    (before : ∀ (j : Nat) (x : ReceiveSlot), j < i → (dirOf s side).slots[j]? = some x →
      x.frame ≠ some p.frame)
    (unused : sl.state ≠ .inUse) (expected : expectedPlace s.cp.ownership side p.line = some k) :
    receiveHalo n p s =
      s.setDir side
        { dirOf s side with
          slots := (dirOf s side).slots.set i (storedSlot sl k p.samples) } := by
  rw [(receiveHalo_counted toward counts).2.2 i (placeIn_held h holds before),
    placeHalo_held h holds expected]
  refine resolveIfFull_unused (sl := storedSlot sl k p.samples) ?_ (storedSlot_unused unused k _)
  rw [dirOf_setDir_same]
  exact get_set_same h _

/-- R160, R162: what a line stored in an IN_USE slot leaves, with or without its side resolved. -/
structure StoredInUse (side : Side) (d : Direction) (received : List (Option LineSamples))
    (s t : State) : Prop where
  own : dirOf t side = d
  other : ∀ other, other ≠ side → dirOf t other = dirOf s other ∧ sideRecord t other = sideRecord s other
  timer : t.hx.timer = s.hx.timer
  resolves : (∀ x ∈ received, x ≠ none) → sideUnresolved s side = true →
    sideRecord t side = some { lines := some (received.filterMap fun r => r.map HaloLine.neighbour) }
  waits : (∃ x ∈ received, x = none) ∨ sideUnresolved s side = false →
    sideRecord t side = sideRecord s side ∧ t.sc = s.sc
  blocks : t.pli = s.pli ∧ t.li = s.li ∧ t.fs = s.fs ∧ t.fa = s.fa ∧ t.cu = s.cu ∧ t.lb = s.lb ∧
    t.op = s.op ∧ t.cp = s.cp

omit toward counts in
theorem storedInUse_resolveIfFull {d : Direction} {i : Nat} {sl : ReceiveSlot}
    (h : d.slots[i]? = some sl) (inUse : sl.state = .inUse) :
    StoredInUse side d sl.received s (resolveIfFull side i (s.setDir side d)) := by
  obtain ⟨resolved, same⟩ := resolveIfFull_inUse (s := s.setDir side d) (i := i)
    (by rwa [dirOf_setDir_same]) inUse
  rw [sideUnresolved_setDir] at resolved same
  have others (other : Side) (apart : other ≠ side) : dirOf (s.setDir side d) other = dirOf s other :=
    dirOf_setDir_other apart s d
  by_cases both : (slotFull sl && sideUnresolved s side) = true
  · rw [resolved both]
    rw [Bool.and_eq_true, slotFull_iff] at both
    obtain ⟨full, unresolved⟩ := both
    refine ⟨by simp, fun other apart => ?_, by simp, fun _ _ => ?_, fun waits => ?_, by simp⟩
    · rw [dirOf_resolveSide, sideRecord_resolveSide_other apart, others other apart]
      exact ⟨rfl, by simp⟩
    · rw [sideRecord_resolveSide_same, linesFrom_full full]
    · obtain ⟨x, hx, none_⟩ | off := waits
      · exact absurd none_ (full x hx)
      · simp [off] at unresolved
  · rw [same both]
    rw [Bool.and_eq_true, slotFull_iff] at both
    refine ⟨by simp, fun other apart => ⟨others other apart, by simp⟩, by simp,
      fun full unresolved => absurd ⟨full, unresolved⟩ both, fun _ => ⟨by simp, by simp⟩, by simp⟩

theorem receiveHalo_inUse {i k : Nat} {sl : ReceiveSlot} {received : List (Option LineSamples)}
    (h : (dirOf s side).slots[i]? = some sl) (holds : sl.frame = some p.frame)
    (before : ∀ (j : Nat) (x : ReceiveSlot), j < i → (dirOf s side).slots[j]? = some x →
      x.frame ≠ some p.frame)
    (inUse : sl.state = .inUse) (expected : expectedPlace s.cp.ownership side p.line = some k)
    (stored : received = sl.received.set k (some p.samples)) :
    StoredInUse side
      { dirOf s side with
        slots := (dirOf s side).slots.set i { sl with received := received } }
      received s (receiveHalo n p s) := by
  subst stored
  rw [(receiveHalo_counted toward counts).2.2 i (placeIn_held h holds before),
    placeHalo_held h holds expected, storedSlot_inUse inUse]
  exact storedInUse_resolveIfFull (sl := { sl with received := sl.received.set k (some p.samples) })
    (get_set_same h _) inUse

section Unheld
variable (unheld : ∀ sl ∈ (dirOf s side).slots, sl.frame ≠ some p.frame)
include unheld

theorem receiveHalo_letGo (h : notNewerThan p.frame (dirOf s side).letGo = true) :
    receiveHalo n p s = s :=
  (receiveHalo_counted toward counts).1 (placeIn_letGo unheld h)

variable (newest : notNewerThan p.frame (dirOf s side).letGo = false)
include newest

theorem receiveHalo_stale (stale : staleFrame s p.frame = true) :
    receiveHalo n p s =
      s.setDir side
        { dirOf s side with
          release := min 3 ((dirOf s side).release + 1), letGo := some p.frame } := by
  have later : newerThan p.frame (dirOf s side).letGo = true := by simpa [notNewerThan] using newest
  rw [(receiveHalo_counted toward counts).2.1 (placeIn_stale unheld newest stale), noteRelease,
    if_pos later]
  rfl

theorem receiveHalo_free {i k : Nat} {sl : ReceiveSlot} (fresh : staleFrame s p.frame = false)
    (h : (dirOf s side).slots[i]? = some sl) (free : sl.state = .free) (empty : sl.frame = none)
    (before : ∀ (j : Nat) (x : ReceiveSlot), j < i → (dirOf s side).slots[j]? = some x →
      x.state ≠ .free)
    (waits : buildFrame s ≠ some p.frame)
    (expected : expectedPlace s.cp.ownership side p.line = some k) :
    receiveHalo n p s =
      s.setDir side
        { dirOf s side with
          slots := (dirOf s side).slots.set i
            { state := .filling, frame := some p.frame
              received := (List.replicate (sideSize side) none).set k (some p.samples) } } := by
  rw [(receiveHalo_counted toward counts).2.2 i (placeIn_free unheld newest fresh h free before)]
  exact placeHalo_fresh h (.inl ⟨empty, rfl⟩) waits expected

theorem receiveHalo_oldest {i k : Nat} {sl : ReceiveSlot} {g : FieldNo}
    (fresh : staleFrame s p.frame = false) (h : (dirOf s side).slots[i]? = some sl)
    (full : ∀ x ∈ (dirOf s side).slots, x.state ≠ .free) (used : sl.state ≠ .inUse)
    (holds : sl.frame = some g)
    (others : ∀ (j : Nat) (x : ReceiveSlot), j ≠ i → (dirOf s side).slots[j]? = some x → Outlasts g x)
    (waits : buildFrame s ≠ some p.frame)
    (expected : expectedPlace s.cp.ownership side p.line = some k) :
    receiveHalo n p s =
      s.setDir side
        { dirOf s side with
          release := min 3 ((dirOf s side).release + 1)
          letGo := if newerThan g (dirOf s side).letGo = true then some g else (dirOf s side).letGo
          slots := (dirOf s side).slots.set i
            { state := .filling, frame := some p.frame
              received := (List.replicate (sideSize side) none).set k (some p.samples) } } := by
  have oldest : oldestSlot 0 (dirOf s side).slots = some (i, g) := by
    have found := oldestSlot_eq 0 h used holds others
    rwa [Nat.zero_add] at found
  have other : g ≠ p.frame := fun same =>
    unheld sl (List.mem_of_getElem? h) (same ▸ holds)
  rw [(receiveHalo_counted toward counts).2.2 i (placeIn_oldest unheld newest fresh full oldest),
    placeHalo_fresh h (.inr ⟨g, holds, other, rfl⟩) waits expected]
  rfl

end Unheld
end Counted

theorem notOwn_of_isOwn {s : State} {p : Parcel} (h : isOwn s p = false) : NotOwn s p := by
  intro x tx same
  simp [isOwn, tx, same] at h

/-- Settles O47. -/
theorem takeHaloCountsAndStores : Obligations.TakeHaloCountsAndStores := by
  intro s n epoch h p live_ attached applies known hp
  obtain ⟨u, hu⟩ : ∃ u, u = s.setPli (lineAfterTake s p) := ⟨_, rfl⟩
  have taken (own : Bool) (who : isOwn s p = own) :
      exec (.takeHalo n epoch h) s = .next (haloTaken n h own u) := by
    subst hp hu who
    exact exec_taken (p := { sender := n, epoch := epoch, content := .halo h }) live_ attached
      (sound_of_known known (by simp) (by simp))
  have owned (mine : ¬ NotOwn s p) : isOwn s p = true := by
    rw [← Bool.not_eq_false]
    exact fun none_ => mine (notOwn_of_isOwn none_)
  have appliesU : Applies u := by rw [hu]; exact applies
  obtain ⟨elsewhere, here⟩ := haloTaken_applies appliesU n h
  have receives (other : NotOwn s p) (mine : h.addressee = s.cp.station) :
      exec (.takeHalo n epoch h) s = .next (receiveHalo n h u) := by
    rw [taken false (isOwn_of_notOwn other), here (by rw [hu]; exact mine)]
  have counts (side : Side) (mine : ¬ NotOwn s p) (away : h.addressee ≠ s.cp.station)
      (toward : sideOf s h.addressee = some side) :
      exec (.takeHalo n epoch h) s =
        .next (u.setDir side (outboundEvent parcelTaken h.frame (dirOf s side))) := by
    rw [taken true (owned mine), (elsewhere (by rw [hu]; exact away)).1,
      ownHaloTaken_some (side := side) (by rw [hu]; exact toward),
      dirOf_of_hx (s := s) (t := u) (by rw [hu]; rfl)]
  rw [← hu]
  refine ⟨fun other apart => ?_, fun side r mine away toward only same more => ?_,
    fun side r mine away toward only same last => ?_, fun side other mine toward quiet => ?_,
    fun side other mine toward counted => ?_⟩
  · by_cases mine : h.addressee = s.cp.station
    · rw [receives other mine, receiveHalo_elsewhere]
      rw [hu]
      exact apart.resolve_left (absurd mine)
    · rw [taken false (isOwn_of_notOwn other), (elsewhere (by rw [hu]; exact mine)).2]
  · rw [counts side mine away toward, (outboundEvent_taken only same).1 more]
  · rw [counts side mine away toward, (outboundEvent_taken only same).2 last]
  · rw [receives other mine, receiveHalo_uncounted (side := side) (by rw [hu]; exact toward)
      (by rw [hu]; exact quiet)]
  · have dir : dirOf u side = dirOf s side := dirOf_of_hx (by rw [hu]; rfl) side
    have towardU : sideOf u n = some side := by rw [hu]; exact toward
    have countedU : neighbourCounts u side = true := by rw [hu]; exact counted
    have own : u.cp.ownership = s.cp.ownership := by rw [hu]; rfl
    rw [receives other mine]
    refine ⟨fun i sl k at_ holds before unused expected => ?_,
      fun i sl k received at_ holds before inUse expected stored => ?_, fun unheld => ?_⟩
    · refine ⟨(storedSlot sl k h.samples).state, ?_, storedSlot_complete_iff sl k h.samples⟩
      rw [receiveHalo_unused towardU countedU (by rwa [dir]) holds (by rwa [dir]) unused (by rwa [own]),
        dir, ← storedSlot_eq]
    · have done := receiveHalo_inUse towardU countedU (by rwa [dir]) holds (by rwa [dir]) inUse
        (by rwa [own]) stored
      rw [dir] at done
      subst hu
      obtain ⟨pli, rest⟩ := done.blocks
      exact ⟨_, rfl, done.own, done.other, done.timer, done.resolves, done.waits, pli, rest⟩
    · rw [← dir] at unheld ⊢
      refine ⟨fun passed => by rw [receiveHalo_letGo towardU countedU unheld passed], fun newest => ?_⟩
      refine ⟨fun stale => ?_, fun i k sl fresh at_ free empty before waits expected => ?_,
        fun i k sl g fresh at_ full used holds others waits expected => ?_⟩
      · rw [receiveHalo_stale towardU countedU unheld newest (by rw [hu]; exact stale)]
      · rw [receiveHalo_free towardU countedU unheld newest (by rw [hu]; exact fresh) at_ free empty
          before (by rw [hu]; exact waits) (by rwa [own])]
      · rw [receiveHalo_oldest towardU countedU unheld newest (by rw [hu]; exact fresh) at_ full used
          holds others (by rw [hu]; exact waits) (by rwa [own])]

end Sys2Proof.Machine
end

section
/-! SUPPORT. The halo wait (R162, R163, R175): how a side resolves, and what the Scaler is told. -/

namespace Sys2Proof.Machine

/-! ## What the Scaler is told (R175) -/

theorem toldResolved_idle {s : State} (h : ∀ r, s.sc.scaling = some r → r.phase ≠ .edges)
    (side : Side) : toldResolved side s = s := by
  cases scaling : s.sc.scaling with
  | none => simp [toldResolved, scaling]
  | some r => simp [toldResolved, scaling, h r scaling]

section InEdges
variable {s : State} {r : ScalingRecord} {side : Side} (scaling : s.sc.scaling = some r)
  (edges : r.phase = .edges) (empty : r.queue = []) (waiting : edgeOf r side = .waiting)
include scaling edges empty waiting

theorem toldResolved_begins (idle : r.current = none) :
    toldResolved side s = s.setSc { s.sc with scaling := some (beginning s side [] r) } := by
  simp [toldResolved, scaling, edges, empty, waiting, idle, beginSide, beginning]

theorem toldResolved_queues {other : Side} (busy : r.current = some other) (apart : side ≠ other) :
    toldResolved side s = s.setSc { s.sc with scaling := some { r with queue := [side] } } := by
  simp [toldResolved, scaling, edges, empty, waiting, busy, apart.symm]

end InEdges

/-! ## One side at the expiry (R163) -/

/-- R163: the halo lines an expiring side resolves to. -/
def expiredLines (frame : FieldNo) (s : State) (side : Side) : List HaloLine :=
  match slotHolding frame (dirOf s side) with
  | some sl => linesFrom sl.received
  | none => clampedLines side

theorem expiredLines_held {frame : FieldNo} {s : State} {side : Side} {sl : ReceiveSlot}
    (h : slotHolding frame (dirOf s side) = some sl) :
    expiredLines frame s side = linesFrom sl.received := by
  simp only [expiredLines, h]

theorem expiredLines_unheld {frame : FieldNo} {s : State} {side : Side}
    (h : slotHolding frame (dirOf s side) = none) : expiredLines frame s side = clampedLines side := by
  simp only [expiredLines, h]

theorem expireSide_settled {frame : FieldNo} {s : State} {side : Side}
    (h : sideUnresolved s side = false) : expireSide frame s side = s := by
  simp [expireSide, h]

theorem expireSide_unresolved {frame : FieldNo} {s : State} {side : Side}
    (h : sideUnresolved s side = true) :
    expireSide frame s side = resolveSide side (expiredLines frame s side) s := by
  rw [expireSide, if_pos h]
  cases held : slotHolding frame (dirOf s side) with
  | none => rw [expiredLines_unheld held]
  | some sl => rw [expiredLines_held held]

theorem sideRecord_expireSide_other {side other : Side} (h : other ≠ side) (frame : FieldNo)
    (s : State) : sideRecord (expireSide frame s side) other = sideRecord s other := by
  cases unresolved : sideUnresolved s side with
  | false => rw [expireSide_settled unresolved]
  | true => rw [expireSide_unresolved unresolved, sideRecord_resolveSide_other h]

theorem sideUnresolved_of_record {s t : State} {side : Side}
    (h : sideRecord t side = sideRecord s side) : sideUnresolved t side = sideUnresolved s side := by
  simp [sideUnresolved, h]

theorem dirOf_of_parts {s t : State} (up : t.hx.up = s.hx.up) (down : t.hx.down = s.hx.down)
    (side : Side) : dirOf t side = dirOf s side := by
  cases side
  · exact up
  · exact down

theorem expiredLines_of_dir {s t : State} {side : Side} (h : dirOf t side = dirOf s side)
    (frame : FieldNo) : expiredLines frame t side = expiredLines frame s side := by
  simp [expiredLines, h]

/-! ## Both sides -/

/-- The two sides in an order: one, then the other. -/
theorem exists_sides (act : State → Side → State) (s : State) :
    ∃ u first second, first ≠ second ∧ (u = s ∨ u = s.drawn) ∧
      onBothSides act s = act (act u first) second := by
  obtain ⟨u, which, eq | eq⟩ := onBothSides_cases act s
  · exact ⟨u, .upper, .lower, nofun, which, eq⟩
  · exact ⟨u, .lower, .upper, nofun, which, eq⟩

theorem side_eq_or {first second : Side} (h : first ≠ second) (side : Side) :
    side = first ∨ side = second := by
  cases first <;> cases second <;> cases side <;> simp at h ⊢

section Both
variable (frame : FieldNo) (s : State) {first second : Side} (apart : first ≠ second)
include apart

/-- R163: each UNRESOLVED side resolves by what the state before both holds. -/
theorem sideRecord_expireBoth (side : Side) :
    (sideUnresolved s side = true →
      sideRecord (expireSide frame (expireSide frame s first) second) side =
        some { lines := some (expiredLines frame s side) }) ∧
      (sideUnresolved s side = false →
        sideRecord (expireSide frame (expireSide frame s first) second) side = sideRecord s side) := by
  obtain rfl | rfl := side_eq_or apart side
  · rw [sideRecord_expireSide_other apart]
    exact ⟨fun h => by rw [expireSide_unresolved h, sideRecord_resolveSide_same],
      fun h => by rw [expireSide_settled h]⟩
  · have record := sideRecord_expireSide_other apart.symm frame s
    have dir : dirOf (expireSide frame s first) side = dirOf s side :=
      dirOf_of_parts (by simp) (by simp) side
    refine ⟨fun h => ?_, fun h => ?_⟩
    · rw [expireSide_unresolved (by rwa [sideUnresolved_of_record record]), sideRecord_resolveSide_same,
        expiredLines_of_dir dir]
    · rw [expireSide_settled (by rwa [sideUnresolved_of_record record]), record]

/-- The second side does not act on a side already settled. -/
theorem expireBoth_one {side : Side} (h : sideUnresolved s side = true)
    (others : ∀ other, other ≠ side → sideUnresolved s other = false) :
    expireSide frame (expireSide frame s first) second =
      resolveSide side (expiredLines frame s side) s := by
  obtain rfl | rfl := side_eq_or apart side
  · rw [expireSide_settled (side := second), expireSide_unresolved h]
    rw [sideUnresolved_of_record (sideRecord_expireSide_other apart.symm frame s)]
    exact others second apart.symm
  · rw [expireSide_settled (others first apart), expireSide_unresolved h]

omit apart in
/-- Outside EDGES the Scaler does nothing at an expiry. -/
theorem expireBoth_idle (h : ∀ r, s.sc.scaling = some r → r.phase ≠ .edges) :
    (expireSide frame (expireSide frame s first) second).sc = s.sc := by
  have idle (u : State) (same : u.sc = s.sc) (side : Side) : (expireSide frame u side).sc = s.sc := by
    cases unresolved : sideUnresolved u side with
    | false => rw [expireSide_settled unresolved, same]
    | true =>
      rw [expireSide_unresolved unresolved, resolveSide, toldResolved_idle]
      · simpa using same
      · simpa [same] using h
  exact idle _ (idle s rfl first) second

/-- R175: with both sides UNRESOLVED and waiting, the first is begun and the second follows it. -/
theorem expireBoth_both {r : ScalingRecord} (scaling : s.sc.scaling = some r) (edges : r.phase = .edges)
    (empty : r.queue = []) (idle : r.current = none)
    (unresolved : ∀ side, sideUnresolved s side = true) (waiting : ∀ side, edgeOf r side = .waiting) :
    (expireSide frame (expireSide frame s first) second).sc =
      { s.sc with scaling := some (beginning s first [second] r) } := by
  have begins : (expireSide frame s first).sc =
      { s.sc with scaling := some (beginning s first [] r) } := by
    rw [expireSide_unresolved (unresolved first), resolveSide,
      toldResolved_begins (r := r) (by simpa using scaling) edges empty (waiting first) idle]
    simp [beginning]
  have record := sideRecord_expireSide_other apart.symm frame s
  have waits : edgeOf (beginning s first [] r) second = .waiting := by
    rw [← waiting second]
    cases second <;> rfl
  rw [expireSide_unresolved (by rw [sideUnresolved_of_record record]; exact unresolved second),
    resolveSide, toldResolved_queues (r := beginning s first [] r) (by simp [begins]) rfl rfl waits
      rfl apart.symm]
  simp [begins, beginning]

end Both

theorem haloExpiry_undue {s : State} (h : s.lb.build = none ∨ s.hx.timer = false) :
    haloExpiry s = s := by
  unfold haloExpiry
  split
  · rfl
  · next b build => simp [h.resolve_left (by simp [build])]

theorem haloExpiry_due {s : State} {b : BuildRecord} (build : s.lb.build = some b)
    (timer : s.hx.timer = true) :
    haloExpiry s =
      (onBothSides (expireSide b.frame) s).setHx
        { (onBothSides (expireSide b.frame) s).hx with timer := false } := by
  simp [haloExpiry, build, timer]

theorem haloExpiry_pending (s : State) : (haloExpiry s).pending = s.pending := by
  cases build : s.lb.build with
  | none => rw [haloExpiry_undue (.inl build)]
  | some b =>
    cases timer : s.hx.timer with
    | false => rw [haloExpiry_undue (.inr timer)]
    | true =>
      obtain ⟨u, first, second, -, which, course⟩ := exists_sides (expireSide b.frame) s
      rw [haloExpiry_due build timer, course]
      obtain rfl | rfl := which <;> simp

/-- Settles O51: the two sides expire in one order or the other, and the record of each is settled by
the state before both. -/
theorem haloWaitExpiryResolvesTheSides : Obligations.HaloWaitExpiryResolvesTheSides := by
  intro s h
  have next : exec .haloWaitExpiry s = .next (haloExpiry s) :=
    live_next_of_pending h (haloExpiry_pending s)
  refine ⟨fun undue => by rw [next, haloExpiry_undue undue], fun b build timer => ?_⟩
  refine ⟨_, next, ?_⟩
  rw [haloExpiry_due build timer]
  obtain ⟨u, first, second, apart, which, course⟩ := exists_sides (expireSide b.frame) s
  rw [course]
  have hx : u.hx = s.hx := by obtain rfl | rfl := which <;> rfl
  have sc : u.sc = s.sc := by obtain rfl | rfl := which <;> rfl
  have cp : u.cp = s.cp := by obtain rfl | rfl := which <;> rfl
  have unresolved (side : Side) : sideUnresolved u side = sideUnresolved s side :=
    sideUnresolved_of_record (sideRecord_of_hx hx side)
  have lines (side : Side) : expiredLines b.frame u side = expiredLines b.frame s side :=
    expiredLines_of_dir (dirOf_of_hx hx side) b.frame
  obtain ⟨t, ht⟩ : ∃ t, t = expireSide b.frame (expireSide b.frame u first) second := ⟨_, rfl⟩
  have record (side : Side) : sideRecord (t.setHx { t.hx with timer := false }) side =
      sideRecord t side := by cases side <;> rfl
  have both := sideRecord_expireBoth b.frame u apart
  simp only [unresolved, lines] at both
  rw [← ht] at both ⊢
  simp only [record]
  refine ⟨rfl, by simp [ht, hx], by simp [ht, hx], fun side wait => ⟨fun sl held => ?_, fun none_ => ?_⟩,
    fun side done => ?_, fun idle => ?_, fun r side other scaling edges two empty waits wait => ?_, ?_⟩
  · rw [(both side).1 wait, expiredLines_held held]
    rfl
  · rw [(both side).1 wait, expiredLines_unheld none_]
    rfl
  · rw [(both side).2 done]
    exact sideRecord_of_hx hx side
  · rw [State.setHx_sc, ht, expireBoth_idle b.frame u (by rwa [sc]), sc]
  · rw [State.setHx_sc, ht]
    have alone (off : sideUnresolved s other = false) := expireBoth_one b.frame u apart
      (side := side) (by rwa [unresolved]) fun x hx => by
        obtain rfl := (side_eq_or two x).resolve_left hx
        rwa [unresolved]
    refine ⟨fun off idle => ?_, fun off busy => ?_, fun on waitsToo idle => ?_⟩
    · rw [alone off, resolveSide, toldResolved_begins (r := r) (by simpa [sc]) edges empty waits idle]
      simp [sc, beginning, cp]
    · rw [alone off, resolveSide,
        toldResolved_queues (r := r) (by simpa [sc]) edges empty waits busy two]
      simp [sc]
    · refine ⟨first, second, apart, ?_⟩
      rw [expireBoth_both b.frame u apart (r := r) (by rwa [sc]) edges empty idle
        (fun x => ?_) (fun x => ?_)]
      · simp [sc, beginning, cp]
      · obtain rfl | rfl := side_eq_or two x <;> rwa [unresolved]
      · obtain rfl | rfl := side_eq_or two x <;> assumption
  · obtain rfl | rfl := which <;> simp [ht]

end Sys2Proof.Machine
end

section
/-! SUPPORT. The take of a REPORT that closes no round (R89 to R92): the credit it returns, and the
round it joins or opens. -/

namespace Sys2Proof.Machine

/-! ## The goals of a take, with fuel to spare -/

/-- From a run, the goals are worked off to `out` by any fuel from k on. -/
def Settles (c : ConfigItems) (k : Nat) (goals : List Goal) (run out : TakeRun) : Prop :=
  ∀ fuel, k ≤ fuel → workGoals c fuel goals run = out

theorem settles_nil (c : ConfigItems) (run : TakeRun) : Settles c 0 [] run run :=
  fun fuel _ => workGoals_nil c fuel run

theorem Settles.step {c : ConfigItems} {k : Nat} {g : Goal} {rest goals : List Goal}
    {run next out : TakeRun} (h : Settles c k goals next out)
    (first : goalStep c g rest run = (next, goals)) : Settles c (k + 1) (g :: rest) run out := by
  intro fuel enough
  obtain ⟨fuel, rfl⟩ : ∃ f, fuel = f + 1 := ⟨fuel - 1, by omega⟩
  simp only [workGoals, first]
  exact h fuel (by omega)

theorem runTake_settles {c : ConfigItems} {n : Station} {content : Content} {a : AgreedState}
    {run out : TakeRun} {goals : List Goal} {k : Nat} (first : takeFirst n content a = (run, goals))
    (h : Settles c k goals run out) (enough : k ≤ 12) : runTake c n content a = advanceEpoch out := by
  simp only [runTake, first]
  rw [h (takeFuel a) (by unfold takeFuel; omega)]

/-! ## Rounds (R91 to R93) -/

theorem alreadyClosed_false {a : AgreedState} {n : FieldNo} (h : newerThan n a.lastClosed = true) :
    alreadyClosed a n = false := by simp [alreadyClosed, h]

theorem alreadyClosed_true {a : AgreedState} {n : FieldNo} (h : newerThan n a.lastClosed = false) :
    alreadyClosed a n = true := by simp [alreadyClosed, h]

theorem openRound_field {a : AgreedState} {n : FieldNo} {r : Round} (h : openRound a n = some r) :
    r.field = n := by
  simpa using List.find?_some h

theorem hasReport_append (r : Round) (mine : RoundReport) (x : Station) :
    hasReport { r with reports := r.reports ++ [mine] } x = true ↔
      hasReport r x = true ∨ mine.station = x := by
  simp [hasReport, or_comm]

theorem roundComplete_iff (r : Round) :
    roundComplete r = true ↔ ∀ x ∈ r.expected, hasReport r x = true := by
  simp [roundComplete]

/-- R92: the open rounds with a report added to the round of its number. -/
def withReport (n : FieldNo) (grown : Round) (a : AgreedState) : AgreedState :=
  { a with openRounds := a.openRounds.map fun x => if x.field = n then grown else x }

theorem openRound_withReport {a : AgreedState} {n : FieldNo} {r grown : Round}
    (h : openRound a n = some r) (same : grown.field = n) :
    openRound (withReport n grown a) n = some grown := by
  have found : ∀ rounds : List Round, (rounds.find? fun x => x.field == n) = some r →
      ((rounds.map fun x => if x.field = n then grown else x).find? fun x => x.field == n) =
        some grown := by
    intro rounds
    induction rounds with
    | nil => nofun
    | cons x xs ih =>
      intro eq
      by_cases hit : x.field = n
      · simp [hit, same]
      · rw [List.find?_cons_of_neg (by simpa using hit)] at eq
        simpa [hit] using ih eq
  exact found a.openRounds h

/-- A report that leaves its round open, or opens none. -/
theorem reportGoals_closed {a : AgreedState} {n : FieldNo} {mine : RoundReport}
    (h : newerThan n a.lastClosed = false) : reportGoals a n mine = (a, []) := by
  simp [reportGoals, alreadyClosed_true h]

section Open
variable {a : AgreedState} {n : FieldNo} {mine : RoundReport} (open_ : newerThan n a.lastClosed = true)
include open_

theorem reportGoals_repeated {r : Round} (h : openRound a n = some r)
    (has : hasReport r mine.station = true) : reportGoals a n mine = (a, []) := by
  simp [reportGoals, alreadyClosed_false open_, h, has]

theorem reportGoals_added {r : Round} (h : openRound a n = some r)
    (first : hasReport r mine.station = false) :
    reportGoals a n mine =
      (withReport n { r with reports := r.reports ++ [mine] } a,
        if roundComplete { r with reports := r.reports ++ [mine] } then [.complete n] else []) := by
  simp [reportGoals, alreadyClosed_false open_, h, first, withReport]

theorem reportGoals_late (h : openRound a n = none)
    (late : ∃ x ∈ a.openRounds, twoNewer x.field n = true) : reportGoals a n mine = (a, []) := by
  have any : (a.openRounds.any fun x => twoNewer x.field n) = true := by simpa using late
  simp [reportGoals, alreadyClosed_false open_, h, any]

theorem reportGoals_new (h : openRound a n = none)
    (fresh : ∀ x ∈ a.openRounds, twoNewer x.field n = false) :
    reportGoals a n mine = (a, [.supersede n, .create n mine]) := by
  have none_ : (a.openRounds.any fun x => twoNewer x.field n) = false := by simpa using fresh
  simp [reportGoals, alreadyClosed_false open_, h, none_]

theorem goalStep_create {c : ConfigItems} {rest : List Goal} {run : TakeRun} (same : run.agreed = a)
    {x : Station} (active : x ∈ activeStations a.roster) (other : x ≠ mine.station) :
    goalStep c (.create n mine) rest run = (withRound (newRound a n [mine]) run, rest) := by
  have waits : roundComplete (newRound a n [mine]) = false := by
    rw [← Bool.not_eq_true, roundComplete_iff]
    intro all
    have has := all x active
    simp only [hasReport, newRound, List.any_cons, List.any_nil, Bool.or_false, beq_iff_eq] at has
    exact other has.symm
  simp only [goalStep, same, alreadyClosed_false open_, waits]
  simp [withRound, same]

end Open

theorem goalStep_supersede_none {c : ConfigItems} {n : FieldNo} {rest : List Goal} {run : TakeRun}
    (h : ∀ x ∈ run.agreed.openRounds, twoNewer n x.field = false) :
    goalStep c (.supersede n) rest run = (run, rest) := by
  have none_ : (run.agreed.openRounds.any fun r => twoNewer n r.field) = false := by simpa using h
  simp [goalStep, none_]

theorem openRound_inserted {a : AgreedState} {r : Round} (h : openRound a r.field = none) :
    openRound (withRound r (TakeRun.start a)).agreed r.field = some r := by
  have found : ∀ rounds : List Round, (rounds.find? fun x => x.field == r.field) = none →
      ((insertByField Round.field r rounds).find? fun x => x.field == r.field) = some r := by
    intro rounds
    induction rounds with
    | nil => exact fun _ => by simp [insertByField]
    | cons x xs ih =>
      intro eq
      unfold insertByField
      split
      · simp
      · rw [List.find?_eq_none] at eq
        rw [List.find?_cons_of_neg (p := fun y : Round => y.field == r.field) (eq x List.mem_cons_self)]
        exact ih (List.find?_eq_none.mpr fun y hy => eq y (List.mem_cons_of_mem x hy))
  exact found a.openRounds h

/-! ## Credit (R157) -/

theorem returnCredit_upper {s : State} {n : Station} {up down : Nat} (h : neighbourOf s .upper = some n) :
    returnCredit n up down s =
      s.setHx
        { s.hx with
          up :=
            { s.hx.up with
              credit :=
                if neighbourCounts s .upper = true then min 2 (s.hx.up.credit + down)
                else s.hx.up.credit } } := by
  have side : sideOf s n = some .upper := by simp [sideOf, h]
  simp only [returnCredit, side]
  split <;> rfl

theorem returnCredit_lower {s : State} {n : Station} {up down : Nat} (h : neighbourOf s .lower = some n)
    (apart : neighbourOf s .upper ≠ some n) :
    returnCredit n up down s =
      s.setHx
        { s.hx with
          down :=
            { s.hx.down with
              credit :=
                if neighbourCounts s .lower = true then min 2 (s.hx.down.credit + up)
                else s.hx.down.credit } } := by
  have side : sideOf s n = some .lower := by simp [sideOf, h, apart]
  simp only [returnCredit, side]
  split <;> rfl

theorem returnCredit_none {s : State} {n : Station} {up down : Nat} (h : NotNeighbour s n) :
    returnCredit n up down s = s := by
  simp [returnCredit, sideOf_none h]

theorem returnCredit_form (s : State) (n : Station) (up down : Nat) :
    returnCredit n up down s =
      s.setHx
        { s.hx with
          up := { s.hx.up with credit := (returnCredit n up down s).hx.up.credit }
          down := { s.hx.down with credit := (returnCredit n up down s).hx.down.credit } } := by
  by_cases upper : neighbourOf s .upper = some n
  · rw [returnCredit_upper upper]
    rfl
  · by_cases lower : neighbourOf s .lower = some n
    · rw [returnCredit_lower lower upper]
      rfl
    · rw [returnCredit_none ⟨upper, lower⟩]
      rfl

/-! ## The take (R89) -/

/-- R91, R92: what a report that closes no round makes of the Agreed State. -/
structure RoundJoined (n : FieldNo) (mine : RoundReport) (a b : AgreedState) : Prop where
  rounds : b = { a with openRounds := b.openRounds }
  closed : newerThan n a.lastClosed = false → b = a
  known : newerThan n a.lastClosed = true → ∀ r, openRound a n = some r →
    (hasReport r mine.station = true → b = a) ∧
      (hasReport r mine.station = false →
        openRound b n = some { r with reports := r.reports ++ [mine] })
  absent : newerThan n a.lastClosed = true → openRound a n = none →
    ((∃ x ∈ a.openRounds, twoNewer x.field n = true) → b = a) ∧
      ((∀ x ∈ a.openRounds, twoNewer x.field n = false) →
        openRound b n =
            some { field := n, expected := activeStations a.roster, reports := [mine] } ∧
          ∀ x, x.field ≠ n → (x ∈ b.openRounds ↔ x ∈ a.openRounds))

/-- A report whose round, if it has one, waits for another station. -/
def RoundWaits (n : FieldNo) (mine : Station) (a : AgreedState) : Prop :=
  newerThan n a.lastClosed = false ∨
    (∃ r, openRound a n = some r ∧
      (hasReport r mine = true ∨ ∃ x ∈ r.expected, x ≠ mine ∧ hasReport r x = false)) ∨
    (openRound a n = none ∧
      ((∃ x ∈ a.openRounds, twoNewer x.field n = true) ∨
        ((∀ x ∈ a.openRounds, twoNewer n x.field = false) ∧
          ∃ x ∈ activeStations a.roster, x ≠ mine)))

section Report
variable {c : ConfigItems} {n : FieldNo} {sender : Station} {figures : Option Figures} {up down : Nat}
  {a : AgreedState}

/-- What the course of a REPORT leaves, if its first step leaves these goals. -/
theorem runTake_report {b : AgreedState} {goals : List Goal} {out : TakeRun} {k : Nat}
    (first : reportGoals a n { station := sender, figures := figures } = (b, goals))
    (h : Settles c k goals (TakeRun.start b) out) (enough : k ≤ 12) :
    runTake c sender (.report n figures up down) a = advanceEpoch out := by
  refine runTake_settles (run := TakeRun.start b) (goals := goals) ?_ h enough
  simp only [takeFirst, first]

theorem runTake_report_kept (first : reportGoals a n { station := sender, figures := figures } = (a, [])) :
    runTake c sender (.report n figures up down) a = TakeRun.start a :=
  runTake_report first (settles_nil c _) (Nat.zero_le 12)

/-- The course of a report that closes no round. -/
theorem exists_roundJoined (c : ConfigItems) (figures : Option Figures) (up down : Nat)
    (h : RoundWaits n sender a) :
    ∃ b, runTake c sender (.report n figures up down) a = TakeRun.start b ∧
      RoundJoined n { station := sender, figures := figures } a b := by
  cases open_ : newerThan n a.lastClosed with
  | false =>
    exact ⟨a, runTake_report_kept (reportGoals_closed open_), rfl, fun _ => rfl,
      fun newest => by simp [open_] at newest, fun newest => by simp [open_] at newest⟩
  | true =>
    cases known : openRound a n with
    | some r =>
      cases has : hasReport r sender with
      | true =>
        refine ⟨a, runTake_report_kept (reportGoals_repeated open_ known has), rfl, fun _ => rfl,
          fun _ x eq => ⟨fun _ => rfl, fun lacks => ?_⟩, fun _ none_ => by simp [known] at none_⟩
        obtain rfl := Option.some.inj (known.symm.trans eq)
        simp [has] at lacks
      | false =>
        obtain ⟨x, hx, other, waits⟩ : ∃ x ∈ r.expected, x ≠ sender ∧ hasReport r x = false := by
          obtain h | ⟨x, eq, h⟩ | ⟨none_, -⟩ := h
          · simp [open_] at h
          · obtain rfl := Option.some.inj (known.symm.trans eq)
            exact h.resolve_left (by simp [has])
          · simp [known] at none_
        have partial_ : roundComplete
            { r with reports := r.reports ++ [{ station := sender, figures := figures }] } = false := by
          rw [← Bool.not_eq_true, roundComplete_iff]
          intro all
          obtain already | mine := (hasReport_append r _ x).mp (all x hx)
          · simp [waits] at already
          · exact other mine.symm
        have first := reportGoals_added (mine := { station := sender, figures := figures }) open_ known has
        rw [partial_] at first
        refine ⟨_, runTake_report first (settles_nil c _) (Nat.zero_le 12), rfl,
          fun newest => by simp [open_] at newest, fun _ x eq => ⟨fun has' => ?_, fun _ => ?_⟩,
          fun _ none_ => by simp [known] at none_⟩
        · obtain rfl := Option.some.inj (known.symm.trans eq)
          simp [has] at has'
        · obtain rfl := Option.some.inj (known.symm.trans eq)
          exact openRound_withReport known (openRound_field known :)
    | none =>
      by_cases late : ∃ x ∈ a.openRounds, twoNewer x.field n = true
      · refine ⟨a, runTake_report_kept (reportGoals_late open_ known late), rfl, fun _ => rfl,
          fun _ r eq => by simp [known] at eq, fun _ _ => ⟨fun _ => rfl, fun fresh => ?_⟩⟩
        obtain ⟨x, hx, later⟩ := late
        simp [fresh x hx] at later
      · have fresh : ∀ x ∈ a.openRounds, twoNewer x.field n = false := by simpa using late
        obtain ⟨old, x, active, other⟩ : (∀ x ∈ a.openRounds, twoNewer n x.field = false) ∧
            ∃ x ∈ activeStations a.roster, x ≠ sender := by
          obtain h | ⟨r, eq, -⟩ | ⟨-, h⟩ := h
          · simp [open_] at h
          · simp [known] at eq
          · exact h.resolve_left late
        have opens : Settles c 2
            [.supersede n, .create n { station := sender, figures := figures }] (TakeRun.start a)
            (withRound (newRound a n [{ station := sender, figures := figures }])
              (TakeRun.start a)) :=
          (((settles_nil c _).step (goalStep_create open_ rfl active other)).step
            (goalStep_supersede_none old))
        refine ⟨_, runTake_report (reportGoals_new open_ known fresh) opens (by omega), rfl,
          fun newest => by simp [open_] at newest, fun _ r eq => by simp [known] at eq,
          fun _ _ => ⟨fun late' => absurd late' late, fun _ => ⟨openRound_inserted known, fun x other => ?_⟩⟩⟩
        refine (mem_insertByField Round.field _ x a.openRounds).trans (or_iff_right ?_)
        rintro rfl
        exact other rfl

end Report

theorem reportTaken_applies {s : State} (h : Applies s) (p : Parcel) (up down : Nat) (own : Bool) :
    reportTaken p up down own s =
      applyTakeOwn p.sender p.content (returnCredit p.sender up down s) :=
  if_pos ((applies_iff s).mpr h)

/-- Settles O39. -/
theorem takeReportReturnsCreditAndOpensRounds : Obligations.TakeReportReturnsCreditAndOpensRounds := by
  intro s sender epoch n figures up down p mine h attached applies known hp hmine waits
  obtain ⟨u, hu⟩ : ∃ u, u = s.setPli (lineAfterTake s p) := ⟨_, rfl⟩
  have taken : exec (.takeReport sender epoch n figures up down) s =
      .next (takeEffect p (isOwn s p) u) := by
    subst hp hu
    exact exec_taken (p := { sender := sender, epoch := epoch, content := .report n figures up down })
      h attached (sound_of_known known (by simp) (by simp))
  obtain ⟨b, run, joined⟩ := exists_roundJoined s.cp.config figures up down waits
  rw [← hmine] at joined
  obtain ⟨v, hv⟩ : ∃ v, v = returnCredit sender up down u := ⟨_, rfl⟩
  have cu : v.cu = s.cu := by simp [hv, hu]
  have cp : v.cp = s.cp := by simp [hv, hu]
  have effect : takeEffect p (isOwn s p) u = v.setAgreed b := by
    have reported : takeEffect p (isOwn s p) u = reportTaken p up down (isOwn s p) u := by
      subst hp; rfl
    rw [reported, reportTaken_applies (by rw [hu]; exact applies), hp, ← hv]
    exact applyTakeOwn_quiet (by rw [cp, cu]; exact run)
  have form := returnCredit_form u sender up down
  rw [← hv] at form
  have hx : u.hx = s.hx := by rw [hu]; rfl
  refine ⟨_, taken, ?_⟩
  rw [effect]
  refine ⟨?_, fun upper apart => ?_, fun lower apart => ?_, fun outside => ?_, joined.closed,
    fun newest => ⟨fun r eq => ?_, joined.absent newest⟩⟩
  · subst hu
    have rounds : b = { s.cu.agreed with openRounds := b.openRounds } := joined.rounds
    exact (congrArg (·.setAgreed b) form).trans (congrArg (State.setAgreed _) rounds)
  · rw [hv, returnCredit_upper (by rw [hu]; exact upper), hu]
    exact ⟨rfl, rfl⟩
  · rw [hv, returnCredit_lower (by rw [hu]; exact lower) (by rw [hu]; exact apart), hu]
    exact ⟨rfl, rfl⟩
  · rw [hv, returnCredit_none (by rw [hu]; exact outside), hu]
    rfl
  · have := joined.known newest r eq
    rw [hmine] at this ⊢
    exact this

end Sys2Proof.Machine
end

section
/-! SUPPORT. What the functions of a closure give (R98 to R101, R108 to R118, R124 to R126): the
rules of the statement on completion. -/

namespace Sys2Proof.Machine

/-! ## Signature and missed rounds (R99, R101) -/

/-- The figures summed, field by field. -/
def sumFigures (data : List Figures) : Figures :=
  { d1 := (data.map (·.d1)).sum, d2 := (data.map (·.d2)).sum, comb := (data.map (·.comb)).sum
    stillTotal := (data.map (·.stillTotal)).sum, stillCount := (data.map (·.stillCount)).sum
    samples := (data.map (·.samples)).sum }

theorem foldl_addFigures (data : List Figures) :
    ∀ acc : Figures, data.foldl addFigures acc = addFigures acc (sumFigures data) := by
  induction data with
  | nil => exact fun acc => rfl
  | cons f rest ih =>
    intro acc
    rw [List.foldl_cons, ih]
    simp only [addFigures, sumFigures, List.map_cons, List.sum_cons, Nat.add_assoc]

theorem foldl_filterMap_eq {α β γ : Type} (pick : α → Option β) (add : γ → β → γ) (step : γ → α → γ)
    (skip : ∀ acc x, pick x = none → step acc x = acc)
    (take : ∀ acc x y, pick x = some y → step acc x = add acc y) (xs : List α) :
    ∀ acc, xs.foldl step acc = (xs.filterMap pick).foldl add acc := by
  induction xs with
  | nil => exact fun acc => rfl
  | cons x rest ih =>
    intro acc
    cases eq : pick x with
    | none => rw [List.foldl_cons, skip acc x eq, ih, List.filterMap_cons_none eq]
    | some y => rw [List.foldl_cons, take acc x y eq, ih, List.filterMap_cons_some eq, List.foldl_cons]

theorem sumReports_eq (reports : List RoundReport) :
    sumReports reports = sumFigures (reports.filterMap (·.figures)) := by
  unfold sumReports
  rw [foldl_filterMap_eq (·.figures) addFigures _ (fun acc x none_ => by simp [none_])
    (fun acc x f some_ => by simp [some_, addFigures]), foldl_addFigures]
  simp [addFigures]

theorem filterMap_figures_nil (reports : List RoundReport) :
    reports.filterMap (·.figures) = [] ↔ (reports.any fun r => r.figures.isSome) = false := by
  simp [Option.isSome_iff_ne_none, List.filterMap_eq_nil_iff]

theorem signatureRule : SignatureRule := by
  intro c reports data d1 d2 n hdata hd1 hd2 hn
  have sums : sumReports reports = sumFigures data := by rw [sumReports_eq, hdata]
  have none_ : data = [] ↔ (reports.any fun r => r.figures.isSome) = false := by
    rw [hdata, filterMap_figures_nil]
  have d1_ : (sumFigures data).d1 = d1 := hd1.symm
  have d2_ : (sumFigures data).d2 = d2 := hd2.symm
  have n_ : (sumFigures data).samples = n := hn.symm
  refine ⟨?_, fun empty => ?_, fun some_ still1 still2 => ?_, fun some_ moves =>
    ⟨fun mode repeats => ?_, fun other => ⟨fun pairs => ?_, fun apart => ?_⟩⟩⟩
  · rw [sums, hd1, hd2, hn]
    rfl
  · simp [classify, none_.mp empty]
  all_goals
    have any : (reports.any fun r => r.figures.isSome) = true := by
      simpa [Option.isSome_iff_ne_none] using mt none_.mpr some_
  · simp [classify, sums, d1_, d2_, n_, any, still1, still2]
  all_goals
    have notStill : ¬ (d1 ≤ c.stillLimit * n ∧ d2 ≤ c.stillLimit * n) := by omega
    have open_ (h : ¬ (c.mode525 = true ∧ d2 * 4 ≤ d1)) :
        classify c reports = if d1 * 4 ≤ d2 then .pairPrev else .motion := by
      simp only [classify, sums, d1_, d2_, n_, any, Bool.not_true, Bool.false_eq_true, if_false,
        if_neg notStill, if_neg h]
  · simp only [classify, sums, d1_, d2_, n_, any, Bool.not_true, Bool.false_eq_true, if_false,
      if_neg notStill]
    exact if_pos ⟨mode, repeats⟩
  · rw [open_ (fun both => by obtain off | few := other <;> [simp [off] at both; omega]), if_pos pairs]
  · rw [open_ (fun both => by obtain off | few := other <;> [simp [off] at both; omega]),
      if_neg (by omega)]

theorem hasReport_iff (r : Round) (n : Station) :
    hasReport r n = true ↔ ∃ x ∈ r.reports, x.station = n := by simp [hasReport]

theorem missedCountRule : MissedCountRule := by
  rintro r ⟨station, standing, missed⟩
  cases standing with
  | joining => simp [missedCount]
  | active =>
    have some_ := hasReport_iff r station
    by_cases expected : station ∈ r.expected
    · cases has : hasReport r station with
      | true =>
        have counted : missedCount r { station, standing := .active, missed } =
            { station, standing := .active, missed := 0 } := by simp [missedCount, expected, has]
        rw [has] at some_
        obtain ⟨x, hx, same⟩ := some_.mp rfl
        rw [counted]
        exact ⟨rfl, rfl, nofun, fun _ out => absurd expected out,
          fun _ _ => ⟨fun _ => rfl, fun none_ => absurd same (none_ x hx)⟩⟩
      | false =>
        have counted : missedCount r { station, standing := .active, missed } =
            { station, standing := .active, missed := missed + 1 } := by
          simp [missedCount, expected, has]
        rw [has] at some_
        rw [counted]
        exact ⟨rfl, rfl, nofun, fun _ out => absurd expected out,
          fun _ _ => ⟨fun held => absurd (some_.mpr held) nofun, fun _ => rfl⟩⟩
    · simp [missedCount, expected]

/-! ## Cadence steps (R98, R108 to R118) -/

theorem noneSteps_eq_iterate : ∀ (n : Nat) (r : Cadence), noneSteps n r = Nat.iterate noneStep n r
  | 0, _ => rfl
  | n + 1, r => noneSteps_eq_iterate n (noneStep r)

theorem noneStepRule : NoneStepRule := by
  refine ⟨rfl, rfl, rfl, fun p n => ⟨rfl, rfl, rfl, rfl, rfl, rfl⟩, fun c sums r => rfl,
    fun gap r => ⟨fun few => ?_, fun many => ?_⟩, fun n => ⟨rfl, fun l later => ?_⟩⟩
  · rw [skippedCadence, if_pos few, noneSteps_eq_iterate]
  · rw [skippedCadence, if_neg (by omega)]
  · simp only [newer, Bool.and_eq_true, decide_eq_true_eq] at later
    simp only [closureGap]
    bv_omega

theorem enters_entryTest (c : ConfigItems) (sig : Signature) : Enters c sig (entryTest c.mode525 sig) := by
  cases mode : c.mode525 <;> cases sig <;> simp [Enters, entryTest, mode]

theorem consistent22_iff (phase : Nat) (sig : Signature) :
    consistent22 phase sig = true ↔ Consistent22 phase sig := by
  cases sig <;> simp [consistent22, Consistent22]

theorem not_consistent22 {phase : Nat} {sig : Signature} (h : Inconsistent22 phase sig) :
    consistent22 phase sig = false := by
  obtain ⟨rfl, rfl⟩ | ⟨rfl, rfl⟩ := h <;> rfl

theorem consistent32_iff {phase : Nat} {sig : Signature} (h : sig ≠ .none) :
    consistent32 phase sig = true ↔ ¬ Inconsistent32 phase sig := by
  cases sig <;> simp [consistent32, Inconsistent32] at h ⊢

theorem combFails_iff (c : ConfigItems) (sums : Figures) :
    combFails c.combLimit sums.comb sums.samples = true ↔ CombFails c sums := by
  simp [combFails, CombFails]

theorem combPhase_iff (p : Nat) :
    (combPhase .twoTwo p = true ↔ p = 1) ∧ (combPhase .threeTwo p = true ↔ p = 0 ∨ p = 2 ∨ p = 4) := by
  simp [combPhase, or_assoc]

section Step
variable {c : ConfigItems} {sig : Signature} (sums : Figures) (some_ : sig ≠ .none)
include some_

theorem roundStep_candidate22 (p n : Nat) :
    roundStep c sig sums (.candidate .twoTwo p n) =
      (candidate22 c.mode525 sig ((p + 1) % 2) n, false) := by
  simp [roundStep, some_, nextPhase]

theorem roundStep_candidate32 (p n : Nat) :
    roundStep c sig sums (.candidate .threeTwo p n) =
      (candidate32 c.mode525 sig ((p + 1) % 5) n, false) := by
  simp [roundStep, some_, nextPhase]

/-- R113, R114, R116: a lock holds, or is tested for entry again with an edit point. -/
theorem roundStep_film (k : FilmKind) (p : Nat) :
    (consistentLock k (nextPhase k p) sig = true →
        ¬ (combPhase k (nextPhase k p) = true ∧ CombFails c sums) →
      roundStep c sig sums (.film k p) = (.film k (nextPhase k p), false)) ∧
      (consistentLock k (nextPhase k p) sig = false ∨
          (combPhase k (nextPhase k p) = true ∧ CombFails c sums) →
        roundStep c sig sums (.film k p) = (entryTest c.mode525 sig, true)) := by
  rw [← combFails_iff, ← Bool.and_eq_true]
  have step : roundStep c sig sums (.film k p) =
      if (consistentLock k (nextPhase k p) sig &&
          !(combPhase k (nextPhase k p) && combFails c.combLimit sums.comb sums.samples)) = true then
        (.film k (nextPhase k p), false)
      else (entryTest c.mode525 sig, true) := by
    simp only [roundStep, if_neg some_]
  rw [step]
  refine ⟨fun holds passes => if_pos ?_, fun broken => if_neg ?_⟩
  · rw [holds, Bool.eq_false_iff.mpr passes]
    rfl
  · rw [Bool.and_eq_true]
    rintro ⟨holds, passes⟩
    obtain off | fails := broken
    · simp [off] at holds
    · simp [fails] at passes

end Step

theorem roundStepRule : RoundStepRule := by
  intro c sig sums some_
  have enters := enters_entryTest c sig
  refine ⟨⟨_, ?_, enters⟩, fun p n q hq => ?_, fun p n q hq => ?_, ?_, ?_⟩
  · simp [roundStep, some_]
  · subst hq
    rw [roundStep_candidate22 sums some_]
    obtain ⟨holds, breaks⟩ := roundStep_film (c := c) sums some_ .twoTwo p
    simp only [(combPhase_iff _).1, consistentLock] at holds breaks
    refine ⟨fun same full => ?_, fun same short => ?_, fun apart => ⟨_, ?_, enters⟩,
      fun same passes => holds ((consistent22_iff _ _).mpr same) passes,
      fun broken => ⟨_, breaks (broken.imp_left not_consistent22), enters⟩, ?_⟩
    · simp [candidate22, (consistent22_iff _ _).mpr same, full]
    · simp [candidate22, (consistent22_iff _ _).mpr same, short]
    · simp [candidate22, not_consistent22 apart]
    · simp [roundStep, some_, nextPhase]
  · subst hq
    rw [roundStep_candidate32 sums some_]
    obtain ⟨holds, breaks⟩ := roundStep_film (c := c) sums some_ .threeTwo p
    simp only [(combPhase_iff _).2, consistentLock, Bool.eq_false_iff, ne_eq,
      consistent32_iff some_, not_not] at holds breaks
    refine ⟨fun later other => ?_, fun zero repeats full => ?_, fun fails => ⟨_, ?_, enters⟩,
      holds, fun broken => ⟨_, breaks broken, enters⟩, ?_⟩
    · simp [candidate32, later, other]
    · simp [candidate32, zero, repeats, full]
    · obtain ⟨later, repeats⟩ | ⟨zero, repeats, few⟩ | ⟨zero, other⟩ := fails
      · simp [candidate32, later, repeats]
      · simp [candidate32, zero, repeats, Nat.ne_of_lt few]
      · simp [candidate32, zero, other]
    · simp [roundStep, some_, nextPhase]
  · simp [roundStep, some_]
  · simp [roundStep, some_]

/-! ## The loop step (R124 to R126) -/

theorem loopStep_still {gain : Nat} {sums : Figures} {l : LoopRecord}
    (h : l.mode = .off ∨ sums.stillCount = 0) : loopStep gain sums l = l :=
  if_pos h

theorem trendUp_four (a b c d : Nat) : trendUp [a, b, c, d] = true ↔ d * 9 < a * 8 := by
  simp [trendUp]

theorem trendDown_four (a b c d : Nat) : trendDown [a, b, c, d] = true ↔ a * 8 < d * 7 := by
  simp [trendDown]

theorem trends_short {history : List Nat} (h : history.length < 4) :
    trendUp history = false ∧ trendDown history = false := by
  have short : (history.length == 4) = false := by simpa using Nat.ne_of_lt h
  simp [trendUp, trendDown, short]

theorem moveThreshold_toInt (t target divisor : Nat) :
    (moveThreshold t target divisor : Int) =
      max 0 (min 1023 (t + Int.tdiv ((target : Int) - t) divisor)) :=
  Int.toNat_of_nonneg (le_max_left _ _)

theorem loopStepRule : LoopStepRule := by
  intro gain nz sums l l' hl
  subst hl
  refine ⟨loopStep_still, fun on some_ hnz => ?_⟩
  have moves : ¬ (l.mode = .off ∨ sums.stillCount = 0) := by
    rintro (off | none_)
    · exact on off
    · omega
  rw [loopStep, if_neg moves, ← hnz]
  refine ⟨rfl, rfl, fun short => trends_short short, fun a b c d four => ?_, fun held => ?_,
    fun auto => ?_⟩
  · have four : noteNoise nz l.history = [a, b, c, d] := four
    simp only [four]
    exact ⟨trendUp_four a b c d, trendDown_four a b c d⟩
  · exact if_neg (by simp [held])
  · simp only [auto, if_true, moveThreshold_toInt, Bool.or_eq_true]
    split <;> rfl

end Sys2Proof.Machine
end

section
/-! SUPPORT. Closures: what one makes of the Agreed State (R98 to R102, R186), what they count
(R107), and the goals of a CLOSE and of a completed round (R93, R96, R97). -/

namespace Sys2Proof.Machine

/-! ## One closure (R98 to R102, R186) -/

theorem missedOut_not (e : RosterEntry) : (!missedOut e) = decide (e.missed < 3) := by
  simp [missedOut, ← decide_not]

theorem closeRound_agreed (c : ConfigItems) (kind : ClosureKind) (r : Round) (run : TakeRun) :
    (closeRound c kind r run).agreed =
      { steppedState c r run.agreed with
        roster := (run.agreed.roster.map (missedCount r)).filter fun e => e.missed < 3
        openRounds := (closeRound c kind r run).agreed.openRounds
        lastClosed := some r.field
        bank := (closeRound c kind r run).agreed.bank } := by
  simp only [closeRound]
  rw [switchBank_keeps]
  simp only [setClosed, removeMissed, missedOut_not]
  rfl

/-- R186: the selection a closure switches to, if any. -/
theorem closeRound_bank (c : ConfigItems) (kind : ClosureKind) (r : Round) (run : TakeRun) :
    (run.agreed.bank.pending = none →
      (closeRound c kind r run).agreed.bank = run.agreed.bank) ∧
      ∀ sel, run.agreed.bank.pending = some sel →
        (¬ Reaches r.field sel.target →
          (closeRound c kind r run).agreed.bank = run.agreed.bank) ∧
        (Reaches r.field sel.target →
          (closeRound c kind r run).agreed.bank =
            { active := sel.bank, digest := sel.digest, pending := none }) := by
  obtain ⟨closed, hclosed⟩ : ∃ closed,
      closed = setClosed r.field (removeMissed (steppedState c r run.agreed)) := ⟨_, rfl⟩
  have bank : closed.bank = run.agreed.bank := by rw [hclosed]; rfl
  have last : closed.lastClosed = some r.field := by rw [hclosed]; rfl
  have course : (closeRound c kind r run).agreed =
      switchBank (closed.bank.pending.filter (closureReaches closed)) closed := by
    rw [hclosed]; rfl
  rw [course, bank]
  refine ⟨fun none_ => ?_, fun sel some_ => ⟨fun early => ?_, fun reaches => ?_⟩⟩
  · rw [none_]
    exact bank
  · rw [some_, Option.filter_some, if_neg (mt (closureReaches_iff last sel).mp early)]
    exact bank
  · rw [some_, Option.filter_some, if_pos ((closureReaches_iff last sel).mpr reaches)]
    rfl

theorem closeRound_closes (c : ConfigItems) (kind : ClosureKind) (r : Round) (run : TakeRun) :
    Closes c r run.agreed (closeRound c kind r run).agreed := by
  obtain ⟨none_, some_⟩ := closeRound_bank c kind r run
  rw [closeRound_agreed]
  exact ⟨rfl, rfl, rfl, rfl, rfl, none_, some_⟩

theorem missedStations_none {es : List RosterEntry} (h : ∀ e ∈ es, e.missed < 3) :
    missedStations es = [] := by
  simpa [missedStations, missedOut] using h

theorem leaveExpected_none (rounds : List Round) : leaveExpected [] rounds = rounds := by
  simp [leaveExpected]

/-- R77: the stations a closure removes. -/
def goneAt (r : Round) (a : AgreedState) : List Station :=
  missedStations (a.roster.map (missedCount r))

theorem goneAt_nil_iff (r : Round) (a : AgreedState) :
    goneAt r a = [] ↔ ∀ e ∈ a.roster, (missedCount r e).missed < 3 := by
  simp [goneAt, missedStations, missedOut]

theorem closeRound_openRounds_kept {c : ConfigItems} {kind : ClosureKind} {r : Round} {run : TakeRun}
    (h : goneAt r run.agreed = []) :
    (closeRound c kind r run).agreed.openRounds =
      run.agreed.openRounds.filter fun x => x.field != r.field := by
  rw [closeRound_openRounds]
  unfold goneAt at h
  rw [h, leaveExpected_none]

theorem closeRound_openRounds_nil {c : ConfigItems} {kind : ClosureKind} {r : Round} {run : TakeRun}
    (h : ∀ x ∈ run.agreed.openRounds, x.field = r.field) :
    (closeRound c kind r run).agreed.openRounds = [] := by
  have none_ : (run.agreed.openRounds.filter fun x => x.field != r.field) = [] := by simpa using h
  rw [closeRound_openRounds, none_]
  rfl

/-! ## What the station counts (R107) -/

/-- R107: the count of closures of a kind. -/
def closureCount (k : ClosureKind) (c : Consensus) : Word32 :=
  match k with
  | .complete => c.completeCount
  | .closed => c.closedCount
  | .superseded => c.supersededCount

theorem doAct_closureCount (k : ClosureKind) (s : State) (a : Act) :
    closureCount k (doAct s a).cu =
      closureCount k s.cu + if a = .counted k then 1 else 0 := by
  cases a with
  | counted kind => cases k <;> cases kind <;> simp [doAct, countClosure, closureCount]
  | edited => simp [doAct]
  | removed gone => simp [doAct]
  | switched o => simp [doAct]
  | decided d => simp [doAct]
  | roundClosed n => cases k <;> simp [doAct, roundClosedHere, closureCount]

theorem foldl_closureCount (k : ClosureKind) (acts : List Act) :
    ∀ s : State, closureCount k (acts.foldl doAct s).cu =
      closureCount k s.cu + BitVec.ofNat 32 (acts.count (.counted k)) := by
  induction acts with
  | nil => simp
  | cons a rest ih =>
    intro s
    rw [List.foldl_cons, ih, doAct_closureCount]
    by_cases same : a = .counted k
    · rw [if_pos same, same, List.count_cons_self, BitVec.ofNat_add, add_assoc,
        add_comm (BitVec.ofNat 32 _)]
      rfl
    · simp [same]

theorem quitMember_closureCount (k : ClosureKind) (s : State) :
    closureCount k (quitMember s).cu = closureCount k s.cu := by
  unfold quitMember
  split
  · rw [show (resetDirections (cancelTimers s)).cu = (cancelTimers s).cu by simp]
    cases k <;> rfl
  · rfl

theorem flushStopped_closureCount (k : ClosureKind) (s : State) :
    closureCount k (flushStopped s).cu = closureCount k s.cu := by
  have stopped : (flushStopped s).cu = (stopConsensus (quitMember (flush s))).cu := by
    simp [flushStopped, enterStopped]
  have consensus : closureCount k (stopConsensus (quitMember (flush s))).cu =
      closureCount k (quitMember (flush s)).cu := by
    cases k <;> rfl
  rw [stopped, consensus, quitMember_closureCount]
  simp

theorem isolate_closureCount (k : ClosureKind) (s : State) :
    closureCount k (isolate s).cu = closureCount k s.cu := by
  have isolated_ : closureCount k (isolated s).cu = closureCount k s.cu := by
    have quit : closureCount k (isolated s).cu =
        closureCount k (flush (quitMember (s.raise .isolated))).cu := by
      cases k <;> rfl
    rw [quit, show (flush (quitMember (s.raise .isolated))).cu = (quitMember (s.raise .isolated)).cu by simp,
      quitMember_closureCount]
    simp
  rw [isolate_eq]
  split
  · rw [flushStopped_closureCount, isolated_]
  · split
    · exact isolated_
    · rfl

/-- R107: applying a take adds the closures of its course. -/
theorem applyTakeOwn_closureCount (k : ClosureKind) (n : Station) (content : Content) (s : State) :
    closureCount k (applyTakeOwn n content s).cu =
      closureCount k s.cu +
        BitVec.ofNat 32
          ((runTake s.cp.config n content s.cu.agreed).acts.count (.counted k)) := by
  have applied (run : TakeRun) : closureCount k (applyRun run s).cu =
      closureCount k s.cu + BitVec.ofNat 32 (run.acts.count (.counted k)) := by
    have acts := foldl_closureCount k run.acts (s.setAgreed run.agreed)
    rw [show closureCount k (s.setAgreed run.agreed).cu = closureCount k s.cu by cases k <;> rfl] at acts
    rw [applyRun, ← acts]
    unfold rosterChanged
    split <;> simp
  have checked (touched : List Station) (u : State) :
      closureCount k (checkOwnEntry touched u).cu = closureCount k u.cu := by
    unfold checkOwnEntry
    split
    · exact isolate_closureCount k u
    · rfl
  rw [applyTakeOwn, checked, applyTake, applied]

theorem closeRound_count (c : ConfigItems) (kind k : ClosureKind) (r : Round) (run : TakeRun) :
    (closeRound c kind r run).acts.count (.counted k) =
      run.acts.count (.counted k) + if kind = k then 1 else 0 := by
  have removals (gone : List Station) : (removalActs gone).count (.counted k) = 0 := by
    unfold removalActs
    split <;> simp
  have switches (due : Option PendingSelection) (a : AgreedState) :
      (switchActs due a).count (.counted k) = 0 := by
    cases due <;> simp [switchActs]
  have decisions (ds : List DecisionRecord) : (ds.map Act.decided).count (.counted k) = 0 := by
    simp [List.count_eq_zero]
  have edits (b : Bool) : (if b then [Act.edited] else []).count (.counted k) = 0 := by
    cases b <;> simp
  simp only [closeRound, List.count_append, removals, switches, decisions, edits]
  by_cases same : kind = k <;> simp [same]

/-! ## Goals (R93, R96) -/

/-- R93: the tests that removals call for find nothing while no open round is complete. -/
theorem Settles.afterRemovals {c : ConfigItems} {k : Nat} {goals : List Goal} {before run out : TakeRun}
    (h : Settles c k goals run out) (none_ : run.agreed.openRounds.find? roundComplete = none) :
    Settles c (k + 1) (afterRemovals before run goals) run out := by
  unfold Machine.afterRemovals
  split
  · exact fun fuel enough => h fuel (by omega)
  · refine h.step ?_
    simp only [goalStep, none_]

/-- With no entry touched by a closure, no test comes first. -/
theorem afterRemovals_none {before run : TakeRun} (h : run.touched = before.touched)
    (goals : List Goal) : afterRemovals before run goals = goals :=
  if_pos (by rw [h])

theorem closeRound_touched_none {c : ConfigItems} {kind : ClosureKind} {r : Round} {run : TakeRun}
    (h : goneAt r run.agreed = []) : (closeRound c kind r run).touched = run.touched := by
  unfold goneAt at h
  rw [closeRound_touched, h, List.append_nil]

section Steps
variable {c : ConfigItems} {n : FieldNo} {rest : List Goal} {run : TakeRun}

theorem goalStep_sweep_none (h : ∀ x ∈ run.agreed.openRounds, newer x.field n = true) :
    goalStep c (.sweep n) rest run = (run, rest) := by
  have none_ : (run.agreed.openRounds.find? fun r => !newer r.field n) = none := by
    simpa [List.find?_eq_none] using h
  simp only [goalStep, none_]

theorem goalStep_sweep_first {r : Round} {others : List Round}
    (h : run.agreed.openRounds = r :: others) (due : newer r.field n = false) :
    goalStep c (.sweep n) rest run =
      (closeRound c .closed r run,
        afterRemovals run (closeRound c .closed r run) (.sweep n :: rest)) := by
  have found : (run.agreed.openRounds.find? fun r => !newer r.field n) = some r := by
    rw [h, List.find?_cons_of_pos (by simp [due])]
  simp only [goalStep, found]

theorem goalStep_missing_closed (h : newerThan n run.agreed.lastClosed = false) :
    goalStep c (.missing n) rest run = (run, rest) := by
  simp [goalStep, alreadyClosed_true h]

theorem goalStep_missing_open (h : newerThan n run.agreed.lastClosed = true) :
    goalStep c (.missing n) rest run =
      (closeRound c .closed (newRound run.agreed n []) run,
        afterRemovals run (closeRound c .closed (newRound run.agreed n []) run) rest) := by
  simp [goalStep, alreadyClosed_false h]

theorem goalStep_test_none (h : run.agreed.openRounds.find? roundComplete = none) :
    goalStep c .test rest run = (run, rest) := by
  simp only [goalStep, h]

end Steps

theorem newer_self (n : FieldNo) : newer n n = false := by simp [newer]

/-- What is left of a CLOSE once field n is closed and every open round is newer and incomplete. -/
theorem settles_closed {c : ConfigItems} {n : FieldNo} {run : TakeRun}
    (closed : newerThan n run.agreed.lastClosed = false)
    (later : ∀ x ∈ run.agreed.openRounds, newer x.field n = true)
    (waits : run.agreed.openRounds.find? roundComplete = none) :
    Settles c 3 [.sweep n, .missing n, .test] run run :=
  (((settles_nil c run).step (goalStep_test_none waits)).step (goalStep_missing_closed closed)).step
    (goalStep_sweep_none later)

/-- A CLOSE with every open round newer: the round is created and closed. -/
theorem settles_missing {c : ConfigItems} {n : FieldNo} {run out : TakeRun}
    (later : ∀ x ∈ run.agreed.openRounds, newer x.field n = true)
    (open_ : newerThan n run.agreed.lastClosed = true)
    (hout : out = closeRound c .closed (newRound run.agreed n []) run)
    (waits : out.agreed.openRounds.find? roundComplete = none) :
    Settles c 4 [.sweep n, .missing n, .test] run out := by
  subst hout
  exact ((((settles_nil c _).step (goalStep_test_none waits)).afterRemovals waits).step
    (goalStep_missing_open open_)).step (goalStep_sweep_none later)

/-- A CLOSE closes the first open round not newer, and goes on. -/
theorem settles_sweep {c : ConfigItems} {n : FieldNo} {k : Nat} {r : Round} {others : List Round}
    {run next out : TakeRun} (h : run.agreed.openRounds = r :: others) (due : newer r.field n = false)
    (hnext : next = closeRound c .closed r run)
    (waits : next.agreed.openRounds.find? roundComplete = none ∨ goneAt r run.agreed = [])
    (goes : Settles c k [.sweep n, .missing n, .test] next out) :
    Settles c (k + 2) [.sweep n, .missing n, .test] run out := by
  subst hnext
  obtain waits | kept := waits
  · exact (goes.afterRemovals waits).step (goalStep_sweep_first h due)
  · have step := goalStep_sweep_first (c := c) (rest := [.missing n, .test]) h due
    rw [afterRemovals_none (closeRound_touched_none kept)] at step
    exact fun fuel enough => (goes.step step) fuel (by omega)

end Sys2Proof.Machine
end

section
/-! SUPPORT. The take of a CLOSE (R96, R97). -/

namespace Sys2Proof.Machine

theorem advanceEpoch_agreed (run : TakeRun) :
    (advanceEpoch run).agreed = { run.agreed with epoch := (advanceEpoch run).agreed.epoch } := by
  unfold advanceEpoch
  split <;> rfl

theorem advanceEpoch_acts (run : TakeRun) : (advanceEpoch run).acts = run.acts := by
  unfold advanceEpoch
  split <;> rfl

theorem advanceEpoch_epoch {run : TakeRun} {p : Prop} [Decidable p] (h : run.touched = [] ↔ p) :
    (advanceEpoch run).agreed.epoch =
      if p then run.agreed.epoch else run.agreed.epoch + 1 := by
  by_cases holds : p
  · rw [if_pos holds, advanceEpoch_untouched (h.mpr holds)]
  · rw [if_neg holds, advanceEpoch_touched (mt h.mp holds)]

/-! ## The new round of a CLOSE (R91, R96, R101) -/

theorem missedCount_newRound {a : AgreedState} {e : RosterEntry} (n : FieldNo) (h : e ∈ a.roster) :
    missedCount (newRound a n []) e = { e with missed := e.missed + 1 } := by
  have silent : hasReport (newRound a n []) e.station = false := rfl
  cases standing : e.standing with
  | joining => simp [missedCount, standing]
  | active =>
    have expected : e.station ∈ (newRound a n []).expected := by
      refine List.mem_map.mpr ⟨e, List.mem_filter.mpr ⟨h, ?_⟩, rfl⟩
      simp [standing]
    simp [missedCount, standing, expected, silent]

theorem classify_newRound (c : ConfigItems) (a : AgreedState) (n : FieldNo) :
    classify c (newRound a n []).reports = .none := rfl

theorem sumReports_newRound (a : AgreedState) (n : FieldNo) :
    (sumReports (newRound a n []).reports).stillCount = 0 := rfl

/-! ## The course of a CLOSE -/

theorem runTake_close {c : ConfigItems} {sender : Station} {n : FieldNo} {a : AgreedState}
    {out : TakeRun} {k : Nat} (open_ : newerThan n a.lastClosed = true)
    (h : Settles c k [.sweep n, .missing n, .test] (TakeRun.start a) out) (enough : k ≤ 12) :
    runTake c sender (.close n) a = advanceEpoch out := by
  refine runTake_settles (run := TakeRun.start a) ?_ h enough
  simp [takeFirst, closeGoals, alreadyClosed_false open_]

theorem runTake_close_closed {c : ConfigItems} {sender : Station} {n : FieldNo} {a : AgreedState}
    (closed : newerThan n a.lastClosed = false) :
    runTake c sender (.close n) a = TakeRun.start a :=
  runTake_first (by simp [takeFirst, closeGoals, alreadyClosed_true closed]) rfl

/-- What a take leaves whose course is `out`, before the epoch advances. -/
structure Closed (s : State) (out : TakeRun) (t : State) : Prop where
  agreed : t.cu.agreed = (advanceEpoch out).agreed
  counts : ∀ k, closureCount k t.cu =
    closureCount k s.cu + BitVec.ofNat 32 (out.acts.count (.counted k))

theorem Closed.epoch {s t : State} {out : TakeRun} (h : Closed s out t) {p : Prop} [Decidable p]
    (touched : out.touched = [] ↔ p) :
    t.cu.agreed.epoch = if p then out.agreed.epoch else out.agreed.epoch + 1 := by
  rw [h.agreed, advanceEpoch_epoch touched]

theorem Closed.fields {s t : State} {out : TakeRun} (h : Closed s out t) :
    t.cu.agreed = { out.agreed with epoch := t.cu.agreed.epoch } := by
  rw [h.agreed]
  exact advanceEpoch_agreed out

/-- A closure does not read the epoch it leaves. -/
theorem Closed.closes {s t : State} {out : TakeRun} (h : Closed s out t) {c : ConfigItems} {r : Round}
    {a : AgreedState} (closes : Closes c r a out.agreed) : Closes c r a t.cu.agreed := by
  rw [h.fields]
  exact closes

/-- R107: a course that closed k rounds CLOSED and none otherwise. -/
theorem Closed.closedCounts {s t : State} {out : TakeRun} (h : Closed s out t) {m : Nat}
    (closed : out.acts.count (.counted .closed) = m)
    (complete : out.acts.count (.counted .complete) = 0)
    (superseded : out.acts.count (.counted .superseded) = 0) :
    t.cu.closedCount = s.cu.closedCount + BitVec.ofNat 32 m ∧
      t.cu.completeCount = s.cu.completeCount ∧
      t.cu.supersededCount = s.cu.supersededCount := by
  have closed_ := h.counts .closed
  have complete_ := h.counts .complete
  have superseded_ := h.counts .superseded
  rw [closed] at closed_
  rw [complete] at complete_
  rw [superseded] at superseded_
  exact ⟨closed_, complete_.trans (BitVec.add_zero _), superseded_.trans (BitVec.add_zero _)⟩

theorem start_count (a : AgreedState) (k : ClosureKind) :
    (TakeRun.start a).acts.count (.counted k) = 0 := rfl

section Take
variable {s : State} {sender : Station} {epoch : Epoch} {n : FieldNo} (live_ : Live s)
  (attached : s.pli.attached = true) (applies : Applies s) (known : Known s sender epoch)
include live_ attached applies known

theorem exec_takeClose :
    exec (.takeClose sender epoch n) s =
      .next
        (applyTakeOwn sender (.close n)
          (s.setPli (lineAfterTake s { sender := sender, epoch := epoch, content := .close n }))) := by
  have taken := exec_taken (p := { sender := sender, epoch := epoch, content := .close n }) live_
    attached (sound_of_known known (by simp) (by simp))
  have applied := memberTaken_applies (s := s.setPli (lineAfterTake s
    { sender := sender, epoch := epoch, content := .close n })) applies
  exact taken.trans (congrArg _ (applied _ _))

theorem exists_closed {out : TakeRun} {k : Nat} (open_ : newerThan n s.cu.agreed.lastClosed = true)
    (h : Settles s.cp.config k [.sweep n, .missing n, .test] (TakeRun.start s.cu.agreed) out)
    (enough : k ≤ 12) :
    ∃ t, exec (.takeClose sender epoch n) s = .next t ∧ Closed s out t := by
  obtain ⟨u, hu⟩ : ∃ u, u = s.setPli
      (lineAfterTake s { sender := sender, epoch := epoch, content := .close n }) := ⟨_, rfl⟩
  have next := exec_takeClose live_ attached applies known (n := n)
  rw [← hu] at next
  have run : runTake u.cp.config sender (.close n) u.cu.agreed = advanceEpoch out := by
    rw [hu]
    exact runTake_close open_ h enough
  refine ⟨_, next, ?_, fun k => ?_⟩
  · rw [applyTakeOwn_agreed, run]
  · rw [applyTakeOwn_closureCount, run, advanceEpoch_acts, hu]
    rfl

end Take

/-! ## The courses -/

theorem find_complete_nil {a : AgreedState} (h : a.openRounds = []) :
    a.openRounds.find? roundComplete = none := by
  rw [h]
  rfl

theorem closeRound_lastClosed (c : ConfigItems) (kind : ClosureKind) (r : Round) (run : TakeRun) :
    (closeRound c kind r run).agreed.lastClosed = some r.field := by
  rw [closeRound_agreed]

theorem closedBy_self {r : Round} {n : FieldNo} (same : r.field = n) (c : ConfigItems)
    (kind : ClosureKind) (run : TakeRun) :
    newerThan n (closeRound c kind r run).agreed.lastClosed = false := by
  rw [closeRound_lastClosed, same]
  exact newer_self n

/-- The run after the closures, as CLOSED, of the rounds given. -/
def closedRounds (c : ConfigItems) (rs : List Round) (run : TakeRun) : TakeRun :=
  rs.foldl (fun run r => closeRound c .closed r run) run

theorem closedRounds_count (c : ConfigItems) (rs : List Round) (k : ClosureKind) :
    ∀ run : TakeRun, (closedRounds c rs run).acts.count (.counted k) =
      run.acts.count (.counted k) + if ClosureKind.closed = k then rs.length else 0 := by
  induction rs with
  | nil => simp [closedRounds]
  | cons r rest ih =>
    intro run
    refine (ih (closeRound c .closed r run)).trans ?_
    rw [closeRound_count]
    split <;> simp [add_assoc, add_comm]

theorem Closed.closedRounds_counts {s t : State} {c : ConfigItems} {rs : List Round} {a : AgreedState}
    (h : Closed s (closedRounds c rs (TakeRun.start a)) t) :
    t.cu.closedCount = s.cu.closedCount + BitVec.ofNat 32 rs.length ∧
      t.cu.completeCount = s.cu.completeCount ∧
      t.cu.supersededCount = s.cu.supersededCount := by
  refine h.closedCounts ?_ ?_ ?_ <;> rw [closedRounds_count] <;> simp [start_count]

theorem touched_two (c : ConfigItems) (x y : Round) (a : AgreedState) :
    (closedRounds c [x, y] (TakeRun.start a)).touched =
      goneAt x a ++ goneAt y (closedRounds c [x] (TakeRun.start a)).agreed := rfl

section Courses
variable {c : ConfigItems} {n : FieldNo} {a : AgreedState}

/-- No round is open: the round is created and closed. -/
theorem course_empty (none_ : a.openRounds = []) (open_ : newerThan n a.lastClosed = true) :
    Settles c 4 [.sweep n, .missing n, .test] (TakeRun.start a)
      (closedRounds c [newRound a n []] (TakeRun.start a)) ∧
      (closedRounds c [newRound a n []] (TakeRun.start a)).agreed.openRounds = [] := by
  have rounds : (closedRounds c [newRound a n []] (TakeRun.start a)).agreed.openRounds = [] :=
    closeRound_openRounds_nil (by simp [TakeRun.start, none_])
  exact ⟨settles_missing (by simp [TakeRun.start, none_]) open_ rfl (find_complete_nil rounds), rounds⟩

/-- The one open round has the number. -/
theorem course_one {r : Round} (one : a.openRounds = [r]) (same : r.field = n) :
    Settles c 5 [.sweep n, .missing n, .test] (TakeRun.start a)
      (closedRounds c [r] (TakeRun.start a)) ∧
      (closedRounds c [r] (TakeRun.start a)).agreed.openRounds = [] := by
  have rounds : (closedRounds c [r] (TakeRun.start a)).agreed.openRounds = [] :=
    closeRound_openRounds_nil (by simp [TakeRun.start, one])
  have rest := settles_closed (c := c) (closedBy_self same c .closed (TakeRun.start a))
    (by rw [show (closeRound c .closed r (TakeRun.start a)).agreed.openRounds = [] from rounds]; simp)
    (find_complete_nil rounds)
  exact ⟨settles_sweep one (by rw [same, newer_self]) rfl (.inl (find_complete_nil rounds)) rest, rounds⟩

/-- An older round, which removes no entry, closes before the round of the number. -/
theorem course_two {old r : Round} (two : a.openRounds = [old, r]) (later : newer n old.field = true)
    (same : r.field = n) (few : goneAt old a = []) :
    Settles c 7 [.sweep n, .missing n, .test] (TakeRun.start a)
      (closedRounds c [old, r] (TakeRun.start a)) ∧
      (closedRounds c [old, r] (TakeRun.start a)).agreed.openRounds = [] := by
  have apart : r.field ≠ old.field := by
    rintro eq
    rw [← eq, same, newer_self] at later
    cases later
  have left : (closeRound c .closed old (TakeRun.start a)).agreed.openRounds = [r] := by
    rw [closeRound_openRounds_kept few]
    simp [TakeRun.start, two, apart]
  have rounds : (closedRounds c [old, r] (TakeRun.start a)).agreed.openRounds = [] :=
    closeRound_openRounds_nil (by simp [left])
  have rest := settles_closed (c := c)
    (closedBy_self same c .closed (closeRound c .closed old (TakeRun.start a)))
    (by rw [show (closeRound c .closed r (closeRound c .closed old (TakeRun.start a))).agreed.openRounds =
      [] from rounds]; simp) (find_complete_nil rounds)
  have second := settles_sweep left (by rw [same, newer_self]) rfl (.inl (find_complete_nil rounds)) rest
  exact ⟨settles_sweep two (newer_asymm later) rfl (.inr few) second, rounds⟩

/-- An older round closes, and then the number's own is created and closed. -/
theorem course_gap {old : Round} {mid : AgreedState} (one : a.openRounds = [old])
    (later : newer n old.field = true)
    (hmid : mid = (closedRounds c [old] (TakeRun.start a)).agreed) :
    Settles c 6 [.sweep n, .missing n, .test] (TakeRun.start a)
      (closedRounds c [old, newRound mid n []] (TakeRun.start a)) ∧
      (closedRounds c [old, newRound mid n []] (TakeRun.start a)).agreed.openRounds = [] := by
  subst hmid
  have left : (closeRound c .closed old (TakeRun.start a)).agreed.openRounds = [] :=
    closeRound_openRounds_nil (by simp [TakeRun.start, one])
  have rounds : (closedRounds c [old, newRound (closedRounds c [old] (TakeRun.start a)).agreed n []]
      (TakeRun.start a)).agreed.openRounds = [] :=
    closeRound_openRounds_nil (by rw [left]; simp)
  have rest : Settles c 4 [.sweep n, .missing n, .test] (closeRound c .closed old (TakeRun.start a))
      (closedRounds c [old, newRound (closedRounds c [old] (TakeRun.start a)).agreed n []]
        (TakeRun.start a)) :=
    settles_missing (by rw [left]; simp) (by rw [closeRound_lastClosed]; exact later) rfl
      (find_complete_nil rounds)
  exact ⟨settles_sweep one (newer_asymm later) rfl (.inl (find_complete_nil left)) rest, rounds⟩

/-- A newer round that is not complete stays open. -/
theorem course_behind {later r : Round} {rounds : List Round}
    (open_ : newerThan n a.lastClosed = true) (behind : newer later.field n = true)
    (waits : roundComplete later = false) (all : a.openRounds = rounds ++ [later])
    (which : (rounds = [r] ∧ r.field = n) ∨ (rounds = [] ∧ r = newRound a n []))
    (few : goneAt r a = []) :
    Settles c 5 [.sweep n, .missing n, .test] (TakeRun.start a)
      (closedRounds c [r] (TakeRun.start a)) ∧
      (closedRounds c [r] (TakeRun.start a)).agreed.openRounds = [later] := by
  have apart : later.field ≠ n := by
    rintro eq
    rw [eq, newer_self] at behind
    cases behind
  have same : r.field = n := by
    obtain ⟨-, same⟩ | ⟨-, rfl⟩ := which
    · exact same
    · rfl
  have left : (closedRounds c [r] (TakeRun.start a)).agreed.openRounds = [later] := by
    refine (closeRound_openRounds_kept few).trans ?_
    obtain ⟨rfl, -⟩ | ⟨rfl, -⟩ := which <;> simp [TakeRun.start, all, same, apart]
  have tested : (closedRounds c [r] (TakeRun.start a)).agreed.openRounds.find? roundComplete = none := by
    simp [left, waits]
  refine ⟨?_, left⟩
  obtain ⟨rfl, -⟩ | ⟨rfl, rfl⟩ := which
  · have rest := settles_closed (c := c) (closedBy_self same c .closed (TakeRun.start a))
      (by rw [show (closeRound c .closed r (TakeRun.start a)).agreed.openRounds = [later] from left]
          simpa using behind) tested
    exact settles_sweep all (by rw [same, newer_self]) rfl (.inl tested) rest
  · have created : Settles c 4 [.sweep n, .missing n, .test] (TakeRun.start a)
        (closedRounds c [newRound a n []] (TakeRun.start a)) :=
      settles_missing (by simpa [TakeRun.start, all] using behind) open_ rfl tested
    exact fun fuel enough => created fuel (by omega)

end Courses

/-- Settles O41, course by course. -/
theorem takeCloseClosesTheRound : Obligations.TakeCloseClosesTheRound := by
  intro s sender epoch n p live_ attached applies known hp
  subst hp
  obtain ⟨a, ha⟩ : ∃ a, a = s.cu.agreed := ⟨_, rfl⟩
  have course {out : TakeRun} {k : Nat} (open_ : newerThan n a.lastClosed = true)
      (h : Settles s.cp.config k [.sweep n, .missing n, .test] (TakeRun.start a) out)
      (enough : k ≤ 12) : ∃ t, exec (.takeClose sender epoch n) s = .next t ∧ Closed s out t := by
    subst ha
    exact exists_closed live_ attached applies known open_ h enough
  have closes (r : Round) (run : TakeRun) :
      Closes s.cp.config r run.agreed (closedRounds s.cp.config [r] run).agreed :=
    closeRound_closes s.cp.config .closed r run
  have epochs (rs : List Round) :
      (closedRounds s.cp.config rs (TakeRun.start a)).agreed.epoch = a.epoch := by
    have kept : ∀ (rs : List Round) (run : TakeRun),
        (closedRounds s.cp.config rs run).agreed.epoch = run.agreed.epoch := fun rs => by
      induction rs with
      | nil => exact fun run => rfl
      | cons r rest ih => exact fun run => (ih _).trans (closeRound_epoch _ _ _ _)
    exact kept rs (TakeRun.start a)
  rw [← ha]
  refine ⟨fun closed => ?_, fun open_ none_ => ?_, fun r open_ one same => ?_,
    fun old r open_ two later same few => ?_, fun old open_ one later => ?_,
    fun later rounds r open_ behind ⟨x, hx, silent⟩ all which few => ?_⟩
  · rw [exec_takeClose live_ attached applies known]
    refine congrArg _ (applyTakeOwn_quiet ?_)
    rw [ha] at closed
    exact runTake_close_closed closed
  · obtain ⟨settles, rounds⟩ := course_empty (c := s.cp.config) none_ open_
    obtain ⟨t, next, done⟩ := course open_ settles (by omega)
    obtain ⟨roster, last, signature, cadence, loop, -, -⟩ :=
      done.closes (closes (newRound a n []) (TakeRun.start a))
    have missed : a.roster.map (missedCount (newRound a n [])) =
        a.roster.map fun e => { e with missed := e.missed + 1 } :=
      List.map_congr_left fun e he => missedCount_newRound n he
    refine ⟨t, next, last, by rw [done.fields]; exact rounds, signature,
      loop.trans (loopStep_still (.inr rfl)), cadence, roster.trans (congrArg _ missed), ?_,
      done.closes (closes _ _), done.closedRounds_counts⟩
    rw [done.epoch (p := ∀ e ∈ a.roster, e.missed + 1 < 3), epochs]
    refine (goneAt_nil_iff (newRound a n []) a).trans ?_
    exact forall₂_congr fun e he => by rw [missedCount_newRound n he]
  · obtain ⟨settles, rounds⟩ := course_one (c := s.cp.config) one same
    obtain ⟨t, next, done⟩ := course open_ settles (by omega)
    obtain ⟨-, last, signature, -⟩ := done.closes (closes r (TakeRun.start a))
    refine ⟨t, next, by rw [last, same], by rw [done.fields]; exact rounds, signature,
      done.closes (closes _ _), ?_, done.closedRounds_counts⟩
    rw [done.epoch (goneAt_nil_iff r a), epochs]
  · have gone : goneAt old a = [] := (goneAt_nil_iff old a).mpr few
    obtain ⟨settles, rounds⟩ := course_two (c := s.cp.config) two later same gone
    obtain ⟨t, next, done⟩ := course open_ settles (by omega)
    obtain ⟨mid, hmid⟩ : ∃ mid, mid = (closedRounds s.cp.config [old] (TakeRun.start a)).agreed :=
      ⟨_, rfl⟩
    refine ⟨t, mid, next, ?_, ?_, by rw [done.fields]; exact rounds, ?_, done.closedRounds_counts⟩
    · rw [hmid]
      exact closes old (TakeRun.start a)
    · rw [hmid]
      exact done.closes (closes r (closedRounds s.cp.config [old] (TakeRun.start a)))
    · rw [done.epoch (p := ∀ e ∈ mid.roster, (missedCount r e).missed < 3), epochs]
      rw [touched_two, gone, List.nil_append, ← hmid]
      exact goneAt_nil_iff r mid
  · obtain ⟨mid, hmid⟩ : ∃ mid, mid = (closedRounds s.cp.config [old] (TakeRun.start a)).agreed :=
      ⟨_, rfl⟩
    obtain ⟨settles, rounds⟩ := course_gap (c := s.cp.config) one later hmid
    obtain ⟨t, next, done⟩ := course open_ settles (by omega)
    refine ⟨t, mid, newRound mid n [], next, rfl, ?_, ?_, by rw [done.fields]; exact rounds, ?_,
      done.closedRounds_counts⟩
    · rw [hmid]
      exact closes old (TakeRun.start a)
    · refine done.closes ?_
      have second := closes (newRound mid n []) (closedRounds s.cp.config [old] (TakeRun.start a))
      rw [← hmid] at second
      exact second
    · rw [done.epoch (p := (∀ e ∈ a.roster, (missedCount old e).missed < 3) ∧
        ∀ e ∈ mid.roster, (missedCount (newRound mid n []) e).missed < 3), epochs]
      rw [touched_two, ← hmid, List.append_eq_nil_iff, goneAt_nil_iff, goneAt_nil_iff]
  · have gone : goneAt r a = [] := (goneAt_nil_iff r a).mpr few
    have waits : roundComplete later = false := by
      rw [← Bool.not_eq_true, roundComplete_iff]
      exact fun complete => by simp [complete x hx] at silent
    obtain ⟨settles, rounds⟩ := course_behind (c := s.cp.config) open_ behind waits all which gone
    obtain ⟨t, next, done⟩ := course open_ settles (by omega)
    refine ⟨t, next, done.closes (closes _ _), by rw [done.fields]; exact rounds, ?_,
      done.closedRounds_counts⟩
    rw [done.epoch (goneAt_nil_iff r a), epochs, if_pos few]

end Sys2Proof.Machine
end

section
/-! SUPPORT. The take of the REPORT that completes the one open round (R93, R97 to R102). -/

namespace Sys2Proof.Machine

/-! ## The acts of one closure (R97 to R102) -/

/-- R98 to R102: the Agreed State of a closure before its bank switch. -/
def closedState (c : ConfigItems) (r : Round) (a : AgreedState) : AgreedState :=
  setClosed r.field (removeMissed (steppedState c r a))

/-- R186: the selection that a closure switches to. -/
def dueSwitch (c : ConfigItems) (r : Round) (a : AgreedState) : Option PendingSelection :=
  (closedState c r a).bank.pending.filter (closureReaches (closedState c r a))

theorem closedState_bank (c : ConfigItems) (r : Round) (a : AgreedState) :
    (closedState c r a).bank = a.bank := rfl

theorem dueSwitch_none {c : ConfigItems} {r : Round} {a : AgreedState} (h : a.bank.pending = none) :
    dueSwitch c r a = none := by
  rw [dueSwitch, closedState_bank, h]
  rfl

theorem dueSwitch_some {c : ConfigItems} {r : Round} {a : AgreedState} {sel : PendingSelection}
    (h : a.bank.pending = some sel) :
    (¬ Reaches r.field sel.target → dueSwitch c r a = none) ∧
      (Reaches r.field sel.target → dueSwitch c r a = some sel) := by
  have last : (closedState c r a).lastClosed = some r.field := rfl
  rw [dueSwitch, closedState_bank, h, Option.filter_some]
  exact ⟨fun early => if_neg (mt (closureReaches_iff last sel).mp early),
    fun reaches => if_pos ((closureReaches_iff last sel).mpr reaches)⟩

/-- A closure's acts on the station, in order, when it removes no entry. -/
theorem closeRound_acts_kept {c : ConfigItems} {kind : ClosureKind} {r : Round} {a : AgreedState}
    (h : goneAt r a = []) :
    (closeRound c kind r (TakeRun.start a)).acts =
      .counted kind :: ((if closureEdits c r a then [.edited] else []) ++
        switchActs (dueSwitch c r a) (closedState c r a) ++
        (closureRecords c r a).map Act.decided ++ [.roundClosed r.field]) := by
  have removals : removalActs (missedStations (steppedState c r a).roster) = [] := by
    rw [show missedStations (steppedState c r a).roster = goneAt r a from rfl, h]
    rfl
  simp only [closeRound, TakeRun.start, removals, List.append_nil, List.nil_append, List.cons_append]
  rfl

/-- R117: the station raises EDIT_POINT, if the closure calls for it. -/
def editedIf (edits : Bool) (s : State) : State := if edits then s.raiseEditPoint else s

theorem foldl_edited (edits : Bool) (s : State) :
    (if edits then [Act.edited] else []).foldl doAct s = editedIf edits s := by
  cases edits <;> rfl

/-- R186: the station keeps the outgoing bank of a switch. -/
def switchedIf (due : Option PendingSelection) (a : AgreedState) (s : State) : State :=
  (switchActs due a).foldl doAct s

theorem switchedIf_none (a : AgreedState) (s : State) : switchedIf none a s = s := rfl

theorem switchedIf_some (sel : PendingSelection) (a : AgreedState) (s : State) :
    switchedIf (some sel) a s =
      s.setSc
        { s.sc with
          outgoing := some
            { bank := a.bank.active, digest := a.bank.digest, switchFrame := sel.target } } := rfl

/-- R132: the station places decision records. -/
def decidedAll (records : List DecisionRecord) (s : State) : State :=
  records.foldl (fun t d => placeDecision d t) s

theorem foldl_decided (records : List DecisionRecord) :
    ∀ s : State, (records.map Act.decided).foldl doAct s = decidedAll records s := by
  induction records with
  | nil => exact fun s => rfl
  | cons d rest ih => exact fun s => ih (placeDecision d s)

theorem decidedAll_get {γ : Type} (get : State → γ) (h : ∀ s d, get (placeDecision d s) = get s)
    (records : List DecisionRecord) (s : State) : get (decidedAll records s) = get s :=
  keeps_foldl get _ (fun t d => h t d) _ _

/-- The station after the acts of a closure that removes no entry. -/
def closedHere (c : ConfigItems) (kind : ClosureKind) (r : Round) (a : AgreedState) (s : State) : State :=
  roundClosedHere r.field
    (decidedAll (closureRecords c r a)
      (switchedIf (dueSwitch c r a) (closedState c r a)
        (editedIf (closureEdits c r a) (countClosure kind s))))

theorem foldl_closeRound {c : ConfigItems} {kind : ClosureKind} {r : Round} {a : AgreedState}
    (h : goneAt r a = []) (s : State) :
    (closeRound c kind r (TakeRun.start a)).acts.foldl doAct s = closedHere c kind r a s := by
  rw [closeRound_acts_kept h, List.foldl_cons, List.foldl_append, List.foldl_append,
    List.foldl_append, foldl_edited, foldl_decided]
  rfl

theorem applyTakeOwn_closed {c : ConfigItems} {kind : ClosureKind} {r : Round} {a : AgreedState}
    {n : Station} {content : Content} {s : State} (kept : goneAt r a = [])
    (run : runTake s.cp.config n content s.cu.agreed = closeRound c kind r (TakeRun.start a)) :
    applyTakeOwn n content s =
      closedHere c kind r a
        (s.setAgreed (closeRound c kind r (TakeRun.start a)).agreed) := by
  have untouched : (closeRound c kind r (TakeRun.start a)).touched = [] :=
    closeRound_touched_none kept
  rw [applyTakeOwn_untouched (by rw [run, untouched]), applyTake, run, applyRun, untouched,
    rosterChanged_nil, foldl_closeRound kept]

/-! ## What such a closure does here (R94, R95, R102, R107, R117) -/

theorem editedIf_frame (edits : Bool) (s : State) :
    (editedIf edits s).cu = s.cu ∧ (editedIf edits s).pli = s.pli ∧ (editedIf edits s).sc = s.sc ∧
      (editedIf edits s).lb = s.lb ∧ (editedIf edits s).cp.ownership = s.cp.ownership := by
  cases edits <;> simp [editedIf]

theorem switchedIf_frame (due : Option PendingSelection) (a : AgreedState) (s : State) :
    (switchedIf due a s).cu = s.cu ∧ (switchedIf due a s).pli = s.pli ∧
      (switchedIf due a s).cp = s.cp ∧ (switchedIf due a s).lb = s.lb := by
  cases due <;> simp [switchedIf_none, switchedIf_some]

theorem decidedAll_frame (records : List DecisionRecord) (s : State) :
    (decidedAll records s).cu = s.cu ∧ (decidedAll records s).pli = s.pli ∧
      (decidedAll records s).cp = s.cp ∧ (decidedAll records s).sc = s.sc :=
  ⟨decidedAll_get (·.cu) (by simp) records s, decidedAll_get (·.pli) (by simp) records s,
    decidedAll_get (·.cp) (by simp) records s, decidedAll_get (·.sc) (by simp) records s⟩

section Here
variable (c : ConfigItems) (kind : ClosureKind) (r : Round) (a : AgreedState) (s : State)

/-- The station just before its round-closed withdrawal. -/
theorem closedHere_cu :
    (closedHere c kind r a s).cu =
      { (countClosure kind s).cu with
        timers := (countClosure kind s).cu.timers.filter fun t => newer t.field r.field
        heldExpiries := (countClosure kind s).cu.heldExpiries.filter fun f => newer f r.field
        owedCloses := (countClosure kind s).cu.owedCloses.filter fun f => newer f r.field } := by
  simp only [closedHere, roundClosedHere, withdrawUrgent_frame, State.setCu_cu, decidedAll_frame,
    switchedIf_frame, editedIf_frame]

theorem closedHere_cp : (closedHere c kind r a s).cp =
    (editedIf (closureEdits c r a) (countClosure kind s)).cp := by
  simp only [closedHere, roundClosedHere_frame, decidedAll_frame, switchedIf_frame]

theorem closedHere_sc : (closedHere c kind r a s).sc =
    (switchedIf (dueSwitch c r a) (closedState c r a)
      (editedIf (closureEdits c r a) (countClosure kind s))).sc := by
  simp only [closedHere, roundClosedHere_frame, decidedAll_frame]

theorem closedHere_pli : (closedHere c kind r a s).pli =
    withdrawnUrgent (isRoundParcel r.field) s.pli := by
  simp only [closedHere, roundClosedHere, withdrawUrgent_pli, State.setCu_pli, decidedAll_frame,
    switchedIf_frame, editedIf_frame, countClosure_frame]

theorem closedHere_lb : (closedHere c kind r a s).lb =
    (decidedAll (closureRecords c r a)
      (switchedIf (dueSwitch c r a) (closedState c r a)
        (editedIf (closureEdits c r a) (countClosure kind s)))).lb := by
  simp only [closedHere, roundClosedHere_frame]

end Here

/-- R56: with nothing in transmission a withdrawal from the Urgent Queue is a filter. -/
theorem withdrawnUrgent_idle_eq {p : LineInterface} (h : p.tx = none) (hit : Queued → Bool) :
    withdrawnUrgent hit p =
      { p with
        urgent := p.urgent.filter fun q => !hit q
        urgentAttempts := (withdrawnUrgent hit p).urgentAttempts } := by
  have unsent : urgentOnLine p = false := by simp [urgentOnLine, h]
  rw [← withdrawnUrgent_idle h]
  unfold withdrawnUrgent
  split
  · rfl
  · simp only [unsent, Bool.false_eq_true, if_false]
    split <;> rfl

/-- R132: a decision placed in an empty table. -/
theorem placeDecision_first {d : DecisionRecord} {s : State} (full : s.cp.ownership.isFull = true)
    (begun : newerThan d.field s.lb.lastBegun = true)
    (requested : newerThan d.field s.lb.lastRequested = true) (empty : s.lb.decisions = []) :
    (placeDecision d s).lb.decisions = [d] := by
  simp [placeDecision, full, begun, requested, empty, insertByField, dropOldest]

/-- R98, R102: with no number skipped a closure decides its own frame alone. -/
theorem closureRecords_next {c : ConfigItems} {r : Round} {a : AgreedState}
    (h : closureGap a.lastClosed r.field = 0) :
    closureRecords c r a =
      [{ field := r.field, signature := classify c r.reports
         cadence := (steppedState c r a).cadence, t := (steppedState c r a).loop.t }] := by
  simp only [closureRecords, h]
  rfl

/-! ## The REPORT that completes its round (R93, R97) -/

section Complete
variable {c : ConfigItems} {n : FieldNo} {sender : Station} {figures : Option Figures} {up down : Nat}
  {a : AgreedState} {r full : Round} (open_ : newerThan n a.lastClosed = true)
  (one : a.openRounds = [r]) (same : r.field = n) (first : hasReport r sender = false)
  (others : ∀ x ∈ r.expected, x = sender ∨ hasReport r x = true)
  (hfull : full = { r with reports := r.reports ++ [{ station := sender, figures := figures }] })
include one same

theorem openRound_one : openRound a n = some r := by simp [openRound, one, same]

theorem withReport_one (full : Round) : (withReport n full a).openRounds = [full] := by
  simp [withReport, one, same]

include open_ first others hfull

/-- R93, R97: its course is the closure of the round, COMPLETE. -/
theorem runTake_report_completes (kept : goneAt full a = []) :
    runTake c sender (.report n figures up down) a =
      closeRound c .complete full (TakeRun.start (withReport n full a)) := by
  have complete : roundComplete full = true := by
    rw [hfull, roundComplete_iff]
    exact fun x hx => (hasReport_append r _ x).mpr ((others x hx).symm.imp_right Eq.symm)
  have start := reportGoals_added (mine := { station := sender, figures := figures }) open_
    (openRound_one one same) first
  rw [← hfull, complete, if_pos rfl] at start
  have field : full.field = n := by rw [hfull]; exact same
  have keptB : goneAt full (TakeRun.start (withReport n full a)).agreed = [] := kept
  have step : goalStep c (.complete n) [] (TakeRun.start (withReport n full a)) =
      (closeRound c .complete full (TakeRun.start (withReport n full a)), []) := by
    have found : openRound (TakeRun.start (withReport n full a)).agreed n = some full :=
      openRound_one (withReport_one one same full) field
    have rounds : (TakeRun.start (withReport n full a)).agreed.openRounds = [full] :=
      withReport_one one same full
    simp only [goalStep, rounds, found, Option.isNone_some, Bool.false_eq_true, if_false, field, if_true]
    rw [afterRemovals_none (closeRound_touched_none keptB)]
  rw [runTake_report start ((settles_nil c _).step step) (by omega)]
  exact advanceEpoch_untouched (closeRound_touched_none keptB)

end Complete

/-- Settles O40: the closure's acts in order, on the state that the REPORT's credit leaves. -/
theorem takeReportCompletesTheRound : Obligations.TakeReportCompletesTheRound := by
  refine ⟨signatureRule, missedCountRule, noneStepRule, roundStepRule, loopStepRule, ?_⟩
  intro s sender epoch n figures up down p r full sums sig step h attached applies known hp open_ one
    same first others hfull hsums hsig hstep few
  obtain ⟨u, hu⟩ : ∃ u, u = s.setPli (lineAfterTake s p) := ⟨_, rfl⟩
  obtain ⟨v, hv⟩ : ∃ v, v = returnCredit sender up down u := ⟨_, rfl⟩
  have taken : exec (.takeReport sender epoch n figures up down) s =
      .next (takeEffect p (isOwn s p) u) := by
    subst hp hu
    exact exec_taken (p := { sender := sender, epoch := epoch, content := .report n figures up down })
      h attached (sound_of_known known (by simp) (by simp))
  have cu : v.cu = s.cu := by simp [hv, hu]
  have cp : v.cp = s.cp := by simp [hv, hu]
  have sc : v.sc = s.sc := by simp [hv, hu]
  have lb : v.lb = s.lb := by simp [hv, hu]
  have line : v.pli = lineAfterTake s p := by simp [hv, hu]
  obtain ⟨b, hb⟩ : ∃ b, b = withReport n full s.cu.agreed := ⟨_, rfl⟩
  obtain ⟨run, hrun⟩ : ∃ run, run = closeRound s.cp.config .complete full (TakeRun.start b) := ⟨_, rfl⟩
  have kept : goneAt full b = [] := by
    rw [hb]
    exact (goneAt_nil_iff full s.cu.agreed).mpr few
  have course : runTake v.cp.config sender (.report n figures up down) v.cu.agreed = run := by
    rw [cp, cu, hrun, hb]
    exact runTake_report_completes open_ one same first others hfull
      ((goneAt_nil_iff full s.cu.agreed).mpr few)
  have effect : takeEffect p (isOwn s p) u =
      closedHere s.cp.config .complete full b (v.setAgreed run.agreed) := by
    have reported : takeEffect p (isOwn s p) u = reportTaken p up down (isOwn s p) u := by
      subst hp; rfl
    rw [reported, reportTaken_applies (by rw [hu]; exact applies), hp, ← hv, hrun]
    exact applyTakeOwn_closed kept (by rw [← hrun]; exact course)
  have field : full.field = n := by rw [hfull]; exact same
  have edits : closureEdits s.cp.config full b = step.2 := by
    rw [hstep, hsig, hsums, hb, ← field]
    rfl
  have agreed : (closedHere s.cp.config .complete full b (v.setAgreed run.agreed)).cu.agreed =
      run.agreed := by
    rw [closedHere_cu]
    rfl
  have bank := closeRound_bank s.cp.config .complete full (TakeRun.start b)
  rw [← hrun, show (TakeRun.start b).agreed.bank = s.cu.agreed.bank by rw [hb]; rfl, field] at bank
  have switch := closedHere_sc s.cp.config .complete full b (v.setAgreed run.agreed)
  refine ⟨_, taken, ?_⟩
  rw [effect, agreed]
  refine ⟨?_, ?_, fun none_ => ⟨bank.1 none_, ?_⟩, fun sel some_ => ⟨fun early => ⟨(bank.2 sel some_).1 early, ?_⟩,
    fun reaches => ⟨(bank.2 sel some_).2 reaches, ?_⟩⟩, ?_, ?_, ?_, ?_, ?_, fun idle => ?_, fun plain => ?_,
    fun edited => ?_, fun isFull begun requested next empty => ?_⟩
  · rw [closedHere_cu]
    exact (congrArg Consensus.membership cu :)
  · have rounds : run.agreed.openRounds = [] := by
      rw [hrun]
      exact closeRound_openRounds_nil (by rw [hb]; simp [TakeRun.start, withReport_one one same])
    have roster : ((s.cu.agreed.roster.map (missedCount full)).filter fun e => e.missed < 3) =
        s.cu.agreed.roster.map (missedCount full) := by
      refine List.filter_eq_self.mpr fun e he => ?_
      obtain ⟨x, hx, rfl⟩ := List.mem_map.mp he
      simpa using few x hx
    have parts := closeRound_agreed s.cp.config .complete full (TakeRun.start b)
    rw [← hrun, rounds, field] at parts
    rw [hb] at parts
    refine parts.trans ?_
    rw [hstep, hsig, hsums, ← field, ← roster]
    rfl
  · rw [switch, dueSwitch_none (by rw [hb]; exact none_), switchedIf_none]
    simpa [editedIf_frame] using sc
  · rw [switch, (dueSwitch_some (by rw [hb]; exact some_)).1 (by rwa [field]), switchedIf_none]
    simpa [editedIf_frame] using sc
  · rw [switch, (dueSwitch_some (by rw [hb]; exact some_)).2 (by rwa [field]), switchedIf_some,
      closedState_bank]
    simp only [State.setSc_sc, editedIf_frame, countClosure_frame, State.setAgreed_frame, sc, hb]
    rfl
  · rw [closedHere_cu]
    exact congrArg (·.completeCount + 1) cu
  · rw [closedHere_cu]
    exact congrArg (·.closedCount) cu
  · rw [closedHere_cu]
    exact congrArg (·.supersededCount) cu
  · rw [closedHere_cu, field]
    intro x hx
    simpa using List.of_mem_filter hx
  · rw [closedHere_cu, field]
    intro f hf
    simpa using List.of_mem_filter hf
  · rw [closedHere_pli, field, show (v.setAgreed run.agreed).pli = lineAfterTake s p from line]
    exact withdrawnUrgent_idle_eq idle _
  · rw [closedHere_cp, edits, plain]
    simpa [editedIf] using cp
  · have same_ : (countClosure .complete (v.setAgreed run.agreed)).cp = s.cp := by simpa using cp
    rw [closedHere_cp, edits, edited, ← same_]
    rfl
  · have gap : closureGap b.lastClosed full.field = 0 := by rw [hb, field]; exact next
    obtain ⟨w, hw⟩ : ∃ w, w = switchedIf (dueSwitch s.cp.config full b) (closedState s.cp.config full b)
        (editedIf (closureEdits s.cp.config full b) (countClosure .complete (v.setAgreed run.agreed))) :=
      ⟨_, rfl⟩
    have lbW : w.lb = s.lb := by simp [hw, switchedIf_frame, editedIf_frame, lb]
    have cpW : w.cp.ownership = s.cp.ownership := by simp [hw, switchedIf_frame, editedIf_frame, cp]
    rw [closedHere_lb, ← hw, closureRecords_next gap]
    refine (placeDecision_first (by rwa [cpW]) ?_ ?_ (by rwa [lbW])).trans ?_
    · rw [lbW, field]
      exact begun
    · rw [lbW, field]
      exact requested
    · rw [hstep, hsig, hsums, hb, ← field]
      rfl

end Sys2Proof.Machine
end

section
/-! SUPPORT. Output starts (R193 to R196, R201): what a start tells the Line Builder and Halo Exchange,
how the buffers settle, and the answer. -/

namespace Sys2Proof.Machine

/-! ## Releases in a row (R158, R161) -/

theorem letGo_nil (d : Direction) : LetGo [] d d := ⟨fun _ => rfl, fun h => absurd rfl h, rfl⟩

theorem LetGo.append {g1 g2 : List FieldNo} {d d1 e d2 : Direction} (first : LetGo g1 d d1)
    (release : e.release = d1.release) (letGo : e.letGo = d1.letGo) (second : LetGo g2 e d2) :
    LetGo (g1 ++ g2) d d2 := by
  obtain ⟨none1, some1, go1⟩ := first
  obtain ⟨none2, some2, go2⟩ := second
  refine ⟨fun h => ?_, fun h => ?_, ?_⟩
  · obtain ⟨h1, h2⟩ := List.append_eq_nil_iff.mp h
    rw [none2 h2, release, none1 h1]
  · by_cases h1 : g1 = []
    · have h2 : g2 ≠ [] := by
        rintro rfl
        simp [h1] at h
      rw [some2 h2, release, none1 h1, h1, List.nil_append]
    · by_cases h2 : g2 = []
      · rw [none2 h2, release, some1 h1, h2, List.append_nil]
      · rw [some2 h2, release, some1 h1, List.length_append]
        omega
  · rw [go2, letGo, go1, List.foldl_append]

theorem OnlySlots.refl (d : Direction) : OnlySlots d d := rfl

/-- What an event on the slots alone leaves. -/
theorem OnlySlots.others {d d' : Direction} (h : OnlySlots d d') :
    d'.credit = d.credit ∧ d'.pending = d.pending ∧ d'.outbound = d.outbound ∧
      d'.setsSent = d.setsSent ∧ d'.setsSuperseded = d.setsSuperseded ∧ d'.setsLost = d.setsLost := by
  rw [h]
  exact ⟨rfl, rfl, rfl, rfl, rfl, rfl⟩

theorem usedFrames_eq (d : Direction) :
    (d.slots.filterMap fun sl => sl.frame.filter fun _ => sl.state == .inUse) = usedFrames d := by
  refine List.filterMap_congr fun sl _ => ?_
  by_cases used : sl.state = .inUse <;> cases sl.frame <;> simp [used, Option.filter]

theorem passedFrames_eq (k : FieldNo) (d : Direction) :
    (d.slots.filterMap fun sl => sl.frame.filter (passedBy k sl)) = passedFrames k d := by
  refine List.filterMap_congr fun sl _ => ?_
  by_cases used : sl.state = .inUse
  · cases sl.frame <;> simp [used, passedBy, Option.filter]
  · rw [if_neg used]
    cases sl.frame <;> simp [used, passedBy, Option.filter]

theorem slotPicked_eq (pick : ReceiveSlot → FieldNo → Bool) (sl : ReceiveSlot) :
    slotPicked pick sl = sl.frame.any (pick sl) := by
  unfold slotPicked
  cases sl.frame <;> rfl

/-- R161, R162: what the end of a build does to Halo Exchange. -/
theorem endHalo_ended (s : State) : HaloEnded s (endHalo s) := by
  refine ⟨rfl, rfl, rfl, fun side => ?_⟩
  have dir : dirOf (endHalo s) side = releaseSlots (fun sl _ => sl.state == .inUse) (dirOf s side) := by
    cases side <;> rfl
  obtain ⟨only, gone, slots⟩ := releaseSlots_does (fun sl _ => sl.state == .inUse) (dirOf s side)
  rw [usedFrames_eq] at gone
  rw [dir]
  refine ⟨only, gone, slots.trans (List.map_congr_left fun sl _ => ?_)⟩
  rw [slotPicked_eq]
  cases sl.frame <;> simp

/-! ## The output start notice (R133, R153, R156, R161) -/

/-- R153, R156: what the output start notice drops on the sending side. -/
theorem staleDropped (k : FieldNo) (d : Direction) :
    (dropStalePending k (dropStaleOutbound k d)).outbound = d.outbound.filter (fun r => !newer k r.frame) ∧
      (dropStalePending k (dropStaleOutbound k d)).credit =
        min 2 (d.credit + (d.outbound.filter fun r => newer k r.frame && r.taken == 0).length) ∧
      (d.pending = none → (dropStalePending k (dropStaleOutbound k d)).pending = none ∧
        (dropStalePending k (dropStaleOutbound k d)).setsSuperseded = d.setsSuperseded) ∧
      (∀ set, d.pending = some set →
        (newer k set.frame = true →
          (dropStalePending k (dropStaleOutbound k d)).pending = none ∧
            (dropStalePending k (dropStaleOutbound k d)).setsSuperseded = d.setsSuperseded + 1) ∧
        (newer k set.frame = false →
          (dropStalePending k (dropStaleOutbound k d)).pending = some set ∧
            (dropStalePending k (dropStaleOutbound k d)).setsSuperseded = d.setsSuperseded)) ∧
      (dropStalePending k (dropStaleOutbound k d)).slots = d.slots ∧
      (dropStalePending k (dropStaleOutbound k d)).release = d.release ∧
      (dropStalePending k (dropStaleOutbound k d)).letGo = d.letGo ∧
      (dropStalePending k (dropStaleOutbound k d)).setsSent = d.setsSent ∧
      (dropStalePending k (dropStaleOutbound k d)).setsLost = d.setsLost := by
  have kept : (dropStaleOutbound k d).pending = d.pending := rfl
  cases pending : d.pending with
  | none =>
    have same : dropStalePending k (dropStaleOutbound k d) = dropStaleOutbound k d := by
      simp only [dropStalePending, kept, pending]
    rw [same]
    exact ⟨rfl, rfl, fun _ => ⟨kept.trans pending, rfl⟩, nofun, rfl, rfl, rfl, rfl, rfl⟩
  | some set =>
    cases stale : newer k set.frame with
    | true =>
      have dropped : dropStalePending k (dropStaleOutbound k d) =
          { dropStaleOutbound k d with
            pending := none, setsSuperseded := (dropStaleOutbound k d).setsSuperseded + 1 } := by
        simp [dropStalePending, kept, pending, stale, supersede]
      rw [dropped]
      refine ⟨rfl, rfl, nofun, fun other same => ?_, rfl, rfl, rfl, rfl, rfl⟩
      obtain rfl := Option.some.inj same
      exact ⟨fun _ => ⟨rfl, rfl⟩, fun fresh => by simp [stale] at fresh⟩
    | false =>
      have same : dropStalePending k (dropStaleOutbound k d) = dropStaleOutbound k d := by
        simp [dropStalePending, kept, pending, stale]
      rw [same]
      refine ⟨rfl, rfl, nofun, fun other eq => ?_, rfl, rfl, rfl, rfl, rfl⟩
      obtain rfl := Option.some.inj eq
      exact ⟨fun old => by simp [stale] at old, fun _ => ⟨kept.trans pending, rfl⟩⟩

/-- R133, R161: the notice after slots, emptied where `first` picks them, were released. -/
theorem noticed_after {k : FieldNo} {d d1 d' : Direction} {gone : List FieldNo}
    {first : ReceiveSlot → Bool} (only : OnlySlots d d1) (letGo : LetGo gone d d1)
    (slots : d1.slots = d.slots.map fun sl => if first sl = true then emptied sl else sl)
    (passed : passedFrames k d1 = passedFrames k d)
    (hd' : d' = releaseSlots (passedBy k) (dropStalePending k (dropStaleOutbound k d1))) :
    Noticed k (gone ++ passedFrames k d) (fun sl => first sl || slotPicked (passedBy k) sl) d d' := by
  obtain ⟨e, he⟩ : ∃ e, e = dropStalePending k (dropStaleOutbound k d1) := ⟨_, rfl⟩
  obtain ⟨outbound, credit, noPending, somePending, slotsE, releaseE, letGoE, sentE, lostE⟩ :=
    staleDropped k d1
  rw [← he] at outbound credit noPending somePending slotsE releaseE letGoE sentE lostE hd'
  obtain ⟨onlyE, goneE, slotsD⟩ := releaseSlots_does (passedBy k) e
  rw [← hd'] at onlyE goneE slotsD
  obtain ⟨credit1, pending1, outbound1, sent1, superseded1, lost1⟩ := only.others
  obtain ⟨credit2, pending2, outbound2, sent2, superseded2, lost2⟩ := onlyE.others
  rw [credit1, outbound1] at credit
  rw [outbound1] at outbound
  rw [pending1, superseded1] at noPending somePending
  have frames : (e.slots.filterMap fun sl => sl.frame.filter (passedBy k sl)) = passedFrames k d := by
    rw [slotsE, passedFrames_eq, passed]
  rw [frames] at goneE
  refine ⟨outbound2.trans outbound, credit2.trans credit, ?_, ?_, ?_,
    letGo.append releaseE letGoE goneE, sent2.trans (sentE.trans sent1), lost2.trans (lostE.trans lost1)⟩
  · rwa [pending2, superseded2]
  · rwa [pending2, superseded2]
  · rw [slotsD, slotsE, slots, List.map_map]
    refine List.map_congr_left fun sl _ => ?_
    cases picked : first sl with
    | true => simp [picked, emptied, slotPicked]
    | false => simp [picked]

theorem dirOf_haloOutputNotice (k : FieldNo) (s : State) (side : Side) :
    dirOf (haloOutputNotice k s) side =
      releaseSlots (passedBy k) (dropStalePending k (dropStaleOutbound k (dirOf s side))) := by
  cases side <;> rfl

/-- The notice picks no slot IN_USE. -/
theorem slotPicked_passedBy (k : FieldNo) (sl : ReceiveSlot) :
    slotPicked (passedBy k) sl = (sl.state != .inUse && sl.frame.any fun f => !newer f k) := by
  rw [slotPicked_eq]
  cases sl.frame <;> simp [passedBy]

theorem noticed (k : FieldNo) (d : Direction) :
    Noticed k (passedFrames k d) (fun sl => sl.state != .inUse && sl.frame.any fun f => !newer f k) d
      (releaseSlots (passedBy k) (dropStalePending k (dropStaleOutbound k d))) := by
  have after := noticed_after (k := k) (first := fun _ => false) (OnlySlots.refl d) (letGo_nil d)
    (by simp) rfl rfl
  simpa [slotPicked_passedBy] using after

/-- R56, R156: the stale withdrawal. -/
theorem withdrawnBulk_stale (k : FieldNo) (p : LineInterface) :
    StaleWithdrawn k p (withdrawnBulk (fun h => newer k h.frame) p) := by
  obtain ⟨-, urgent, attached, -, discards⟩ := withdrawnBulk_keeps (fun h => newer k h.frame) p
  have attempts : (withdrawnBulk (fun h => newer k h.frame) p).urgentAttempts = p.urgentAttempts := by
    simp
  refine ⟨attached, urgent, attempts, discards, fun unsent => ?_, fun x h rest tx bulk queue => ?_⟩
  · exact withdrawnBulk_unsent (bulkOnLine_of_sent unsent) _
  · have onLine : bulkOnLine p = true := by simp [bulkOnLine, tx, bulk]
    by_cases stale : newer k h.frame = true
    · simp [withdrawnBulk, queue, onLine, stale, markTx, tx]
    · simp [withdrawnBulk, queue, onLine, stale, tx]

theorem haloOutputNotice_pli (k : FieldNo) (s : State) :
    StaleWithdrawn k s.pli (haloOutputNotice k s).pli := withdrawnBulk_stale k s.pli

end Sys2Proof.Machine
end

section
/-! SUPPORT. Output starts: the buffers and the answer (R194, R197), and the start that finds no build
overtaken. -/

namespace Sys2Proof.Machine

/-! ## Buffers (R190, R194) -/

theorem bufferAt_bothBuffers (f : Option Held → Option Held) (s : State) (x : Bool) :
    bufferAt (bothBuffers f s) x = f (bufferAt s x) := by
  cases x <;> rfl

theorem bufferAt_of_op {s t : State} (fb0 : t.op.fb0 = s.op.fb0) (fb1 : t.op.fb1 = s.op.fb1) (x : Bool) :
    bufferAt t x = bufferAt s x := by
  cases x
  · exact fb0
  · exact fb1

theorem showable_iff (k : FieldNo) (b : Option Held) :
    showable k b = true ↔ ∃ h, b = some h ∧ h.state = .complete ∧ h.frame = k := by
  cases b <;> simp [showable]

theorem showsFrame_iff (k : FieldNo) (s : State) :
    showsFrame k s = true ↔ ∃ x h, bufferAt s x = some h ∧ h.state = .complete ∧ h.frame = k := by
  rw [showsFrame, Bool.or_eq_true, showable_iff, showable_iff, Bool.exists_bool]
  rfl

section Settle
variable {k : FieldNo} {shows : Bool} {h : Held}

theorem settleBuffer_building (state : h.state = .building) :
    settleBuffer k shows (some h) = some h := by simp [settleBuffer, state]

theorem settleBuffer_shown (state : h.state = .complete) (frame : h.frame = k) :
    settleBuffer k shows (some h) = some { h with state := .showing } := by
  simp [settleBuffer, state, frame]

theorem settleBuffer_complete (state : h.state = .complete) (frame : h.frame ≠ k) :
    (newer k h.frame = true → settleBuffer k shows (some h) = none) ∧
      (newer k h.frame = false → settleBuffer k shows (some h) = some h) := by
  constructor <;> intro later <;> simp [settleBuffer, state, frame, later]

theorem settleBuffer_showing (state : h.state = .showing) :
    settleBuffer k true (some h) = none ∧ settleBuffer k false (some h) = some h := by
  simp [settleBuffer, state]

/-- A settled buffer is SHOWING when it shows the frame asked, or goes on showing. -/
theorem settleBuffer_shows_iff {g : Held} (settled : settleBuffer k shows (some h) = some g) :
    g.state = .showing ↔ (h.state = .complete ∧ h.frame = k) ∨ h.state = .showing := by
  cases state : h.state with
  | building =>
    rw [settleBuffer_building state] at settled
    obtain rfl := Option.some.inj settled
    simp [state]
  | showing =>
    cases shows with
    | true => simp [(settleBuffer_showing (k := k) state).1] at settled
    | false =>
      rw [(settleBuffer_showing (k := k) state).2] at settled
      obtain rfl := Option.some.inj settled
      simp [state]
  | complete =>
    by_cases frame : h.frame = k
    · rw [settleBuffer_shown state frame] at settled
      obtain rfl := Option.some.inj settled
      simp [frame]
    · cases later : newer k h.frame with
      | true => simp [(settleBuffer_complete (shows := shows) state frame).1 later] at settled
      | false =>
        rw [(settleBuffer_complete (shows := shows) state frame).2 later] at settled
        obtain rfl := Option.some.inj settled
        simp [state, frame]

end Settle

theorem settleBuffer_none (k : FieldNo) (shows : Bool) : settleBuffer k shows none = none := rfl

theorem settleBuffer_from {k : FieldNo} {shows : Bool} {b : Option Held} {g : Held}
    (h : settleBuffer k shows b = some g) : ∃ x, b = some x := by
  cases b with
  | none => simp [settleBuffer_none] at h
  | some x => exact ⟨x, rfl⟩

/-- R194: the one buffer SHOWING. -/
theorem showingBuffer_one {s : State} {x : Bool} {h : Held} (at_ : bufferAt s x = some h)
    (shows : h.state = .showing) (other : ∀ g, bufferAt s (!x) = some g → g.state ≠ .showing) :
    showingBuffer s = some (x, h.frame) := by
  cases x with
  | false =>
    have fb0 : s.op.fb0 = some h := at_
    simp [showingBuffer, fb0, shows]
  | true =>
    have fb1 : s.op.fb1 = some h := at_
    cases fb0 : s.op.fb0 with
    | none => simp [showingBuffer, fb0, fb1, shows]
    | some g => simp [showingBuffer, fb0, fb1, shows, other g fb0]

theorem showingBuffer_none {s : State} (h : ∀ x g, bufferAt s x = some g → g.state ≠ .showing) :
    showingBuffer s = none := by
  cases fb0 : s.op.fb0 with
  | none =>
    cases fb1 : s.op.fb1 with
    | none => simp [showingBuffer, fb0, fb1]
    | some b => simp [showingBuffer, fb0, fb1, h true b fb1]
  | some a =>
    cases fb1 : s.op.fb1 with
    | none => simp [showingBuffer, fb0, fb1, h false a fb0]
    | some b => simp [showingBuffer, fb0, fb1, h false a fb0, h true b fb1]

/-! ## The answer (R194, R197) -/

/-- R194: the buffers of an output start once the build is abandoned, or stands, and they settle. -/
def settledStart (k : FieldNo) (s : State) : State :=
  settleBuffers k (abandonOvertaken k (endEmission s))

theorem fullOutputStart_op (k : FieldNo) (s : State) :
    (fullOutputStart k s).op =
      (beginEmission k (answerFor (showsFrame k s) (settledStart k s)) (settledStart k s)).op := by
  have op : (haloOutputNotice k (builderOutputNotice k (settledStart k s))).op = (settledStart k s).op := by
    simp
  have cp : (haloOutputNotice k (builderOutputNotice k (settledStart k s))).cp = (settledStart k s).cp := by
    simp
  have answer : answerFor (showsFrame k s) (haloOutputNotice k (builderOutputNotice k (settledStart k s))) =
      answerFor (showsFrame k s) (settledStart k s) := by
    simp [answerFor, showingBuffer]
  change (beginEmission k (answerFor _ (haloOutputNotice k (builderOutputNotice k (settledStart k s))))
    (haloOutputNotice k (builderOutputNotice k (settledStart k s)))).op = _
  rw [answer]
  simp only [beginEmission, State.setOp_op, op, cp]

/-- R197: the emission an output start begins, and the answer it records. -/
structure Answers (k : FieldNo) (s t : State) (kind : AnswerKind) (source : RowSource)
    (shown : Option FieldNo) (repeats : Bool) : Prop where
  emission : t.op.emission = some
    { requested := k, source := source, shown := shown, repeats := repeats
      next := s.cp.ownership.firstRow }
  kind : t.op.lastAnswer = kind

theorem settledStart_cp (k : FieldNo) (s : State) :
    (settledStart k s).cp.ownership = s.cp.ownership := by
  simp [settledStart]

theorem answers_showing {k : FieldNo} {s : State} {x : Bool} {f : FieldNo}
    (h : showingBuffer (settledStart k s) = some (x, f)) :
    (showsFrame k s = true → Answers k s (fullOutputStart k s) .shown (.buffer x) (some f) false) ∧
      (showsFrame k s = false →
        Answers k s (fullOutputStart k s) .repeated (.buffer x) (some f) true) := by
  refine ⟨fun shows => ?_, fun shows => ?_⟩ <;>
  · have answer := fullOutputStart_op k s
    simp only [answerFor, h, shows, beginEmission, State.setOp_op, settledStart_cp] at answer
    exact ⟨by rw [answer]; rfl, by rw [answer]; rfl⟩

theorem answers_black {k : FieldNo} {s : State} (h : showingBuffer (settledStart k s) = none) :
    Answers k s (fullOutputStart k s) .black .black none false := by
  have answer := fullOutputStart_op k s
  simp only [answerFor, h, beginEmission, State.setOp_op, settledStart_cp] at answer
  exact ⟨by rw [answer]; rfl, by rw [answer]⟩

theorem answers_exist (k : FieldNo) (s : State) :
    ∃ kind source shown repeats, Answers k s (fullOutputStart k s) kind source shown repeats := by
  cases h : showingBuffer (settledStart k s) with
  | none => exact ⟨_, _, _, _, answers_black h⟩
  | some pair =>
    cases shows : showsFrame k s with
    | false => exact ⟨_, _, _, _, (answers_showing h).2 shows⟩
    | true => exact ⟨_, _, _, _, (answers_showing h).1 shows⟩

/-- The buffers of an output start, given those that its abandonment leaves. -/
theorem bufferAt_fullOutputStart (k : FieldNo) (s : State) (x : Bool) :
    bufferAt (fullOutputStart k s) x =
        settleBuffer k (showsFrame k (abandonOvertaken k (endEmission s)))
          (bufferAt (abandonOvertaken k (endEmission s)) x) ∧
      bufferAt (settledStart k s) x = bufferAt (fullOutputStart k s) x := by
  have same : bufferAt (fullOutputStart k s) x = bufferAt (settledStart k s) x :=
    bufferAt_of_op (by rw [fullOutputStart_op]; rfl) (by rw [fullOutputStart_op]; rfl) x
  exact ⟨same.trans (bufferAt_bothBuffers _ _ x), same.symm⟩

/-- What an output start at a FULL owner tells the other units, given the state that its abandonment
leaves. -/
theorem fullOutputStart_units {k : FieldNo} {s w : State} (hw : w = abandonOvertaken k (endEmission s)) :
    (fullOutputStart k s).op.lastAsked = some k ∧ (fullOutputStart k s).cp = w.cp ∧
      (fullOutputStart k s).fs = w.fs ∧ (fullOutputStart k s).li = w.li ∧
      (fullOutputStart k s).fa = w.fa ∧ (fullOutputStart k s).cu = w.cu ∧
      (fullOutputStart k s).sc = w.sc ∧
      (fullOutputStart k s).lb =
        { w.lb with
          lastRequested := some k
          frames := w.lb.frames.filter fun e => newer e.frame k
          decisions := w.lb.decisions.filter fun d => newer d.field k } ∧
      (∀ side, dirOf (fullOutputStart k s) side =
        releaseSlots (passedBy k) (dropStalePending k (dropStaleOutbound k (dirOf w side)))) ∧
      (fullOutputStart k s).hx.upperSide = w.hx.upperSide ∧
      (fullOutputStart k s).hx.lowerSide = w.hx.lowerSide ∧
      (fullOutputStart k s).hx.timer = w.hx.timer ∧
      StaleWithdrawn k w.pli (fullOutputStart k s).pli := by
  subst hw
  obtain ⟨v, hv⟩ : ∃ v, v = builderOutputNotice k (settledStart k s) := ⟨_, rfl⟩
  have units : (fullOutputStart k s) =
      beginEmission k (answerFor (showsFrame k s) (haloOutputNotice k v)) (haloOutputNotice k v) := by
    rw [hv]; rfl
  have stale := haloOutputNotice_pli k v
  rw [units]
  refine ⟨rfl, by simp [hv, settledStart], by simp [hv, settledStart], by simp [hv, settledStart],
    by simp [hv, settledStart], by simp [hv, settledStart], by simp [hv, settledStart], ?_, fun side => ?_,
    by simp [hv, settledStart], by simp [hv, settledStart], by simp [hv, settledStart], ?_⟩
  · have settled : (settledStart k s).lb = (abandonOvertaken k (endEmission s)).lb := by
      simp [settledStart]
    rw [show (beginEmission k _ (haloOutputNotice k v)).lb = v.lb by simp, hv]
    simp only [builderOutputNotice, State.setLb_lb, settled]
  · rw [dirOf_of_hx (s := haloOutputNotice k v) (by simp), dirOf_haloOutputNotice,
      dirOf_of_hx (s := abandonOvertaken k (endEmission s)) (t := v) (by simp [hv, settledStart])]
  · simpa [hv, settledStart] using stale

/-! ## The start that finds no build overtaken (R194) -/

theorem buildingIn_some {b : Option Held} {f : FieldNo} (h : buildingIn b = some f) :
    ∃ g, b = some g ∧ g.state = .building ∧ g.frame = f := by
  unfold buildingIn at h
  split at h
  · cases h
  · next g =>
    split at h
    · next state => exact ⟨g, rfl, state, Option.some.inj h⟩
    · cases h

theorem buildingFrame_some {s : State} {f : FieldNo} (h : buildingFrame s = some f) :
    ∃ x g, bufferAt s x = some g ∧ g.state = .building ∧ g.frame = f := by
  obtain h | ⟨-, h⟩ := Option.or_eq_some_iff.mp h
  · exact ⟨false, buildingIn_some h⟩
  · exact ⟨true, buildingIn_some h⟩

theorem abandonOvertaken_newer {k : FieldNo} {s : State}
    (h : ∀ x g, bufferAt s x = some g → g.state = .building → newer g.frame k = true) :
    abandonOvertaken k s = s := by
  cases building : buildingFrame s with
  | none => simp [abandonOvertaken, building]
  | some f =>
    obtain ⟨x, g, at_, state, rfl⟩ := buildingFrame_some building
    have later := h x g at_ state
    have other : g.frame ≠ k := by
      rintro same
      rw [same, newer_self] at later
      cases later
    simp [abandonOvertaken, building, other, newer_asymm later]

theorem exec_outputStart {s : State} (h : Live s) (k : FieldNo) :
    exec (.outputStart k) s = .next (outputStartStep k s) :=
  live_next_of_pending h (by simp)

theorem exec_outputStart_full {s : State} {k : FieldNo} (h : Live s)
    (runs : s.cu.membership.running = true) (isFull : s.cp.ownership.isFull = true) :
    exec (.outputStart k) s = .next (fullOutputStart k s) := by
  rw [exec_outputStart h, outputStartStep, if_pos runs, if_pos isFull]

theorem Answers.unique {k : FieldNo} {s t : State} {kind kind' : AnswerKind} {source source' : RowSource}
    {shown shown' : Option FieldNo} {repeats repeats' : Bool}
    (h : Answers k s t kind source shown repeats) (h' : Answers k s t kind' source' shown' repeats') :
    t.op.lastAnswer = kind' ∧ source = source' ∧ shown = shown' ∧ repeats = repeats' := by
  have same := Option.some.inj (h.emission.symm.trans h'.emission)
  simp only [Emission.mk.injEq, true_and, and_true] at same
  exact ⟨h'.kind, same⟩

/-- Settles O53. -/
theorem outputStartAnswersTheFrame : Obligations.OutputStartAnswersTheFrame := by
  intro s k h
  refine ⟨fun stopped => ?_, fun runs fill => ?_, fun runs isFull newer_ => ?_⟩
  · rw [exec_outputStart h, outputStartStep, if_neg]
    obtain m | m := stopped <;> simp [m, Membership.running]
  · rw [exec_outputStart h, outputStartStep, if_pos runs, if_neg (by simp [fill])]
    rfl
  · have stands : abandonOvertaken k (endEmission s) = endEmission s := abandonOvertaken_newer newer_
    obtain ⟨asked, cp, fs, li, fa, cu, sc, lb, dirs, upper, lower, timer, stale⟩ :=
      fullOutputStart_units (k := k) (s := s) stands.symm
    have buffers (x : Bool) : bufferAt (fullOutputStart k s) x =
        settleBuffer k (showsFrame k s) (bufferAt s x) := by
      rw [(bufferAt_fullOutputStart k s x).1, stands]
      rfl
    have settled (x : Bool) : bufferAt (settledStart k s) x =
        settleBuffer k (showsFrame k s) (bufferAt s x) :=
      (bufferAt_fullOutputStart k s x).2.trans (buffers x)
    obtain ⟨kind, source, shown, repeats, answers⟩ := answers_exist k s
    refine ⟨_, _, exec_outputStart_full h runs isFull, answers.emission, asked, rfl, rfl, cp, fs, li, fa,
      cu, sc, lb, fun side => ?_, ?_, stale, fun x none_ => ?_, fun x g at_ => ?_, fun x g at_ state frame
        alone => ?_, fun others => ⟨fun x g at_ state alone => ?_, fun dark => ?_⟩⟩
    · rw [dirs side]
      exact noticed k (dirOf s side)
    · obtain ⟨hx, eq⟩ : ∃ hx, hx = (fullOutputStart k s).hx := ⟨_, rfl⟩
      rw [← eq] at upper lower timer ⊢
      cases hx
      obtain rfl := upper
      obtain rfl := lower
      obtain rfl := timer
      rfl
    · rw [buffers, none_]
      rfl
    · rw [buffers, at_]
      exact ⟨fun state => settleBuffer_building state, fun state frame => settleBuffer_shown state frame,
        fun state frame => (settleBuffer_complete state frame).1,
        fun state frame => (settleBuffer_complete state frame).2⟩
    · have shows : showsFrame k s = true := (showsFrame_iff k s).mpr ⟨x, g, at_, state, frame⟩
      have here : bufferAt (settledStart k s) x = some { g with state := .showing } := by
        rw [settled, at_, settleBuffer_shown state frame]
      have quiet : ∀ g', bufferAt s (!x) = some g' → g'.state = .showing →
          bufferAt (fullOutputStart k s) (!x) = none := by
        intro g' at' state'
        rw [buffers, at', shows, (settleBuffer_showing state').1]
      have one := showingBuffer_one here rfl fun g' at' state' => by
        rw [settled] at at'
        obtain ⟨source', from_⟩ := settleBuffer_from at'
        have gone := quiet source' from_
        rw [from_] at at'
        obtain ⟨complete, same⟩ | shown' := (settleBuffer_shows_iff at').mp state'
        · exact alone source' from_ complete same
        · rw [buffers, from_, at'] at gone
          exact absurd (gone shown') nofun
      obtain ⟨answer, source_, shown_, repeats_⟩ := answers.unique ((answers_showing one).1 shows)
      exact ⟨answer, source_, shown_.trans (congrArg some frame), repeats_, quiet⟩
    · have shows : showsFrame k s = false := by
        rw [← Bool.not_eq_true, showsFrame_iff]
        rintro ⟨y, g', at', complete, same⟩
        exact others y g' at' complete same
      have here : bufferAt (settledStart k s) x = some g := by
        rw [settled, at_, shows, (settleBuffer_showing state).2]
      have one := showingBuffer_one here state fun g' at' state' => by
        rw [settled] at at'
        obtain ⟨source', from_⟩ := settleBuffer_from at'
        rw [from_] at at'
        obtain ⟨complete, same⟩ | shown' := (settleBuffer_shows_iff at').mp state'
        · exact others _ source' from_ complete same
        · exact alone source' from_ shown'
      obtain ⟨answer, source_, shown_, repeats_⟩ := answers.unique ((answers_showing one).2 shows)
      exact ⟨(bufferAt_fullOutputStart k s x).2.symm.trans here, answer, source_, shown_, repeats_⟩
    · have none_ := showingBuffer_none (s := settledStart k s) fun y g' at' state' => by
        rw [settled] at at'
        obtain ⟨source', from_⟩ := settleBuffer_from at'
        rw [from_] at at'
        obtain ⟨complete, same⟩ | shown' := (settleBuffer_shows_iff at').mp state'
        · exact others y source' from_ complete same
        · exact dark y source' from_ shown'
      obtain ⟨answer, source_, shown_, repeats_⟩ := answers.unique (answers_black none_)
      exact ⟨answer, source_, shown_, repeats_⟩

end Sys2Proof.Machine
end

section
/-! SUPPORT. The end of a build (R146, R195, R196), and the output start that abandons one. -/

namespace Sys2Proof.Machine

/-! ## Holders and builds (R31, R146) -/

theorem dropHolder_mem {h : Holder} {s : State} {sl : Slot} (hs : sl ∈ (dropHolder h s).fs.slots) :
    h ∉ sl.holders := by
  obtain ⟨x, -, rfl⟩ := List.mem_map.mp hs
  simp

theorem dropHolder_occupant (h : Holder) (s : State) (j : Nat) :
    (slotAt (dropHolder h s) j).occupant = (slotAt s j).occupant := by
  simp only [slotAt, dropHolder, State.setSlots, State.setFs_fs, List.getD_eq_getElem?_getD,
    List.getElem?_map]
  cases s.fs.slots[j]? <;> rfl

/-- R146: what the Line Builder, the Frame Buffers aside, is left with when a build ends. -/
structure BuildEnded (s t : State) : Prop where
  lb : t.lb = { s.lb with build := none }
  sc : t.sc = { s.sc with scaling := none }
  released : ∀ sl ∈ t.fs.slots, Holder.build ∉ sl.holders
  occupants : ∀ j, (slotAt t j).occupant = (slotAt s j).occupant
  halo : HaloEnded s t
  blocks : t.li = s.li ∧ t.fa = s.fa ∧ t.cu = s.cu ∧ t.pli = s.pli

theorem haloEnded_of_hx {s s' t : State} (h : HaloEnded s t) (same : s'.hx = s.hx) : HaloEnded s' t := by
  obtain ⟨upper, lower, timer, sides⟩ := h
  refine ⟨upper, lower, timer, fun side => ?_⟩
  rw [dirOf_of_hx same]
  exact sides side

theorem releaseBuild_lb (s : State) : (releaseBuild s).lb = { s.lb with build := none } := rfl

theorem abandonBuild_ended (n : FieldNo) (s : State) : BuildEnded s (abandonBuild n s) := by
  obtain ⟨v, hv⟩ : ∃ v, v = dropScaling (releaseBuild (freeBuilding n s)) := ⟨_, rfl⟩
  have ends : abandonBuild n s = endHalo v := by rw [hv]; rfl
  have fs : (abandonBuild n s).fs = (releaseBuild (freeBuilding n s)).fs := by simp [ends, hv]
  refine ⟨rfl, rfl, fun sl hs => ?_, fun j => ?_, ?_, by simp⟩
  · rw [fs] at hs
    exact dropHolder_mem hs
  · have occupant := dropHolder_occupant .build
      ((freeBuilding n s).setLb { (freeBuilding n s).lb with build := none }) j
    simp only [slotAt, fs]
    exact occupant
  · rw [ends]
    exact haloEnded_of_hx (endHalo_ended v) (by simp [hv])

/-- R195: the buffers of an abandoned build. -/
theorem bufferAt_abandonBuild (n : FieldNo) (s : State) (x : Bool) :
    (∀ h, bufferAt s x = some h → h.state = .building → h.frame = n →
      bufferAt (abandonBuild n s) x = none) ∧
      ((∀ h, bufferAt s x = some h → h.state ≠ .building) →
        bufferAt (abandonBuild n s) x = bufferAt s x) := by
  have course : bufferAt (abandonBuild n s) x = onBuilding n (fun _ => none) (bufferAt s x) :=
    (bufferAt_of_op (s := freeBuilding n s) rfl rfl x).trans (bufferAt_bothBuffers _ s x)
  rw [course]
  refine ⟨fun h at_ state frame => ?_, fun other => ?_⟩
  · simp [at_, onBuilding, isBuilding, state, frame]
  · cases at_ : bufferAt s x with
    | none => rfl
    | some h => simp [onBuilding, isBuilding, other h at_]

theorem buildingFrame_one {s : State} {x : Bool} {h : Held} (at_ : bufferAt s x = some h)
    (state : h.state = .building) (other : ∀ g, bufferAt s (!x) = some g → g.state ≠ .building) :
    buildingFrame s = some h.frame := by
  cases x with
  | false =>
    have fb0 : s.op.fb0 = some h := at_
    simp [buildingFrame, buildingIn, fb0, state]
  | true =>
    have fb1 : s.op.fb1 = some h := at_
    cases fb0 : s.op.fb0 with
    | none => simp [buildingFrame, buildingIn, fb0, fb1, state]
    | some g => simp [buildingFrame, buildingIn, fb0, fb1, state, other g fb0]

theorem abandonOvertaken_building {k : FieldNo} {s : State} {f : FieldNo} (h : buildingFrame s = some f) :
    (f = k → abandonOvertaken k s = countLate (abandonBuild f s)) ∧
      (f ≠ k → newer k f = true → abandonOvertaken k s = abandonBuild f s) := by
  refine ⟨fun same => ?_, fun other older => ?_⟩
  · simp [abandonOvertaken, h, same]
  · simp [abandonOvertaken, h, other, older]

/-- Counting a late frame touches the control port alone. -/
theorem countLate_ended {s t : State} (h : BuildEnded s t) : BuildEnded s (countLate t) := by
  obtain ⟨lb, sc, released, occupants, halo, blocks⟩ := h
  exact ⟨lb, sc, released, occupants, halo, blocks⟩

/-- The state that an output start's abandonment leaves. -/
theorem abandonOvertaken_ended {k : FieldNo} {s : State} {x : Bool} {h : Held}
    (at_ : bufferAt s x = some h) (state : h.state = .building)
    (other : ∀ g, bufferAt s (!x) = some g → g.state ≠ .building)
    (overtaken : h.frame = k ∨ newer k h.frame = true) :
    BuildEnded s (abandonOvertaken k s) ∧ bufferAt (abandonOvertaken k s) x = none ∧
      bufferAt (abandonOvertaken k s) (!x) = bufferAt s (!x) ∧
      (h.frame = k →
        (abandonOvertaken k s).cp =
          { s.cp with
            events := s.cp.events ||| 1#12 <<< 4
            totals := { s.cp.totals with lateFrames := s.cp.totals.lateFrames + 1 } }) ∧
      (h.frame ≠ k → (abandonOvertaken k s).cp = s.cp) := by
  obtain ⟨late, passed⟩ := abandonOvertaken_building (k := k) (buildingFrame_one at_ state other)
  have freed : bufferAt (abandonBuild h.frame s) x = none :=
    (bufferAt_abandonBuild h.frame s x).1 h at_ state rfl
  have stands : bufferAt (abandonBuild h.frame s) (!x) = bufferAt s (!x) :=
    (bufferAt_abandonBuild h.frame s (!x)).2 other
  have ended := abandonBuild_ended h.frame s
  have cp : (abandonBuild h.frame s).cp = s.cp := by simp
  by_cases same : h.frame = k
  · have buffers (y : Bool) : bufferAt (countLate (abandonBuild h.frame s)) y =
        bufferAt (abandonBuild h.frame s) y := bufferAt_of_op rfl rfl y
    rw [late same, buffers, buffers]
    refine ⟨countLate_ended ended, freed, stands, fun _ => ?_, fun apart => absurd same apart⟩
    rw [← cp]
    rfl
  · rw [passed same (overtaken.resolve_left same)]
    exact ⟨ended, freed, stands, fun eq => absurd eq same, fun _ => cp⟩

/-! ## The output start that abandons a build (R194 to R196) -/

theorem passedFrames_ended {k : FieldNo} {d d1 : Direction}
    (slots : d1.slots = d.slots.map fun sl => if sl.state = .inUse ∧ sl.frame ≠ none then emptied sl else sl) :
    passedFrames k d1 = passedFrames k d := by
  unfold passedFrames
  rw [slots, List.filterMap_map]
  refine List.filterMap_congr fun sl _ => ?_
  by_cases both : sl.state = .inUse ∧ sl.frame ≠ none
  · simp [both, emptied]
  · simp [both]

theorem noticed_ended {k : FieldNo} {s t : State} {side : Side} {d' : Direction} (h : HaloEnded s t)
    (hd' : d' = releaseSlots (passedBy k) (dropStalePending k (dropStaleOutbound k (dirOf t side)))) :
    Noticed k (usedFrames (dirOf s side) ++ passedFrames k (dirOf s side))
      (fun sl => sl.frame.any fun f => sl.state == .inUse || !newer f k) (dirOf s side) d' := by
  obtain ⟨-, -, -, sides⟩ := h
  obtain ⟨only, gone, slots⟩ := sides side
  have after := noticed_after (k := k)
    (first := fun sl => decide (sl.state = .inUse ∧ sl.frame ≠ none)) only gone (by simpa using slots)
    (passedFrames_ended slots) hd'
  have picks : (fun sl : ReceiveSlot => decide (sl.state = .inUse ∧ sl.frame ≠ none) ||
      slotPicked (passedBy k) sl) = fun sl => sl.frame.any fun f => sl.state == .inUse || !newer f k := by
    funext sl
    rw [slotPicked_passedBy]
    by_cases used : sl.state = .inUse
    · cases sl.frame <;> simp [used]
    · have unused : (sl.state == .inUse) = false := by simpa using used
      cases sl.frame <;> simp [used, unused, bne]
  rwa [picks] at after

theorem noticed_unused {k : FieldNo} {gone : List FieldNo} {d d' : Direction}
    (h : Noticed k gone (fun sl => sl.frame.any fun f => sl.state == .inUse || !newer f k) d d') :
    ∀ sl ∈ d'.slots, sl.frame ≠ none → sl.state ≠ .inUse := by
  obtain ⟨-, -, -, -, slots, -⟩ := h
  rw [slots]
  intro sl hs holds used
  obtain ⟨x, -, rfl⟩ := List.mem_map.mp hs
  split at holds
  · exact holds rfl
  · next picked =>
    rw [if_neg picked] at used
    obtain ⟨f, hf⟩ := Option.ne_none_iff_exists'.mp holds
    simp [hf, used] at picked

/-- With one buffer freed, the frame asked is shown from the other, or not at all. -/
theorem showsFrame_other {k : FieldNo} {s : State} {x : Bool}
    (h : ∀ g, bufferAt s x = some g → g.state = .complete → g.frame ≠ k) :
    showsFrame k s = true ↔
      ∃ g, bufferAt s (!x) = some g ∧ g.state = .complete ∧ g.frame = k := by
  rw [showsFrame_iff]
  refine ⟨fun ⟨y, g, at_, state, frame⟩ => ?_, fun ⟨g, found⟩ => ⟨!x, g, found⟩⟩
  by_cases same : y = x
  · subst same
    exact absurd frame (h g at_ state)
  · rw [Bool.eq_not_of_ne same] at at_
    exact ⟨g, at_, state, frame⟩

/-- Settles O54. -/
theorem outputStartAbandonsLateAndPassedBuilds : Obligations.OutputStartAbandonsLateAndPassedBuilds := by
  intro s k x h live_ runs isFull at_ state other overtaken
  obtain ⟨w, hw⟩ : ∃ w, w = abandonOvertaken k (endEmission s) := ⟨_, rfl⟩
  obtain ⟨asked, cp, fs, li, fa, cu, sc, lb, dirs, upper, lower, timer, stale⟩ :=
    fullOutputStart_units (k := k) hw
  obtain ⟨ended, freed, stands, late, passed⟩ :=
    abandonOvertaken_ended (k := k) (s := endEmission s) at_ state other overtaken
  rw [← hw] at ended freed stands late passed
  have stands : bufferAt w (!x) = bufferAt s (!x) := stands
  obtain ⟨halo1, halo2, halo3, -⟩ := ended.halo
  obtain ⟨liE, faE, cuE, pliE⟩ := ended.blocks
  have buffers (y : Bool) : bufferAt (fullOutputStart k s) y =
      settleBuffer k (showsFrame k w) (bufferAt w y) := by
    rw [(bufferAt_fullOutputStart k s y).1, hw]
  have here : bufferAt (fullOutputStart k s) x = none := by rw [buffers, freed]; rfl
  have noticed_ (side : Side) := noticed_ended (k := k) (side := side) ended.halo (dirs side)
  refine ⟨_, exec_outputStart_full live_ runs isFull, here, ?_, ?_, ?_, fun j => ?_, asked, ?_,
    upper.trans halo1, lower.trans halo2, timer.trans halo3, fun sl hs => ?_, noticed_, ?_, ?_, ?_, ?_,
    fun same => cp.trans (late same), fun apart => cp.trans (passed apart)⟩
  · rw [lb, ended.lb]
    rfl
  · rw [sc, ended.sc]
    rfl
  · rw [fs]
    exact ended.released
  · simp only [slotAt, fs]
    exact ended.occupants j
  · have shows : showsFrame k s = showsFrame k w := by
      rw [Bool.eq_iff_iff, showsFrame_other (x := x) (fun g at' complete => ?_),
        showsFrame_other (x := x) (fun g at' => ?_), stands]
      · simp [freed] at at'
      · obtain rfl := Option.some.inj (at_.symm.trans at')
        simp [state] at complete
    have showsW : showsFrame k w = true ↔
        ∃ g, bufferAt s (!x) = some g ∧ g.state = .complete ∧ g.frame = k := by
      rw [showsFrame_other (x := x) (fun g at' => by simp [freed] at at'), stands]
    have settled (y : Bool) := (bufferAt_fullOutputStart k s y).2
    have there : bufferAt (fullOutputStart k s) (!x) =
        settleBuffer k (showsFrame k w) (bufferAt s (!x)) := by rw [buffers, stands]
    have one {g : Held} (at' : bufferAt (fullOutputStart k s) (!x) = some g) (shown : g.state = .showing) :
        showingBuffer (settledStart k s) = some (!x, g.frame) := by
      refine showingBuffer_one (by rw [settled, at']) shown fun g' at'' => ?_
      rw [Bool.not_not, settled, here] at at''
      cases at''
    obtain ⟨kind, source, shown, repeats, answers⟩ := answers_exist k s
    refine ⟨_, answers.emission, rfl, rfl, fun g at' complete frame => ?_, fun g at' showing => ?_,
      fun others => ?_⟩
    · have yes : showsFrame k w = true := showsW.mpr ⟨g, at', complete, frame⟩
      have now : bufferAt (fullOutputStart k s) (!x) = some { g with state := .showing } := by
        rw [there, at', settleBuffer_shown complete frame]
      obtain ⟨answer, source_, shown_, repeats_⟩ :=
        answers.unique ((answers_showing (one now rfl)).1 (shows.trans yes))
      exact ⟨now, answer, source_, shown_.trans (congrArg some frame), repeats_⟩
    · have no : showsFrame k w = false := by
        rw [← Bool.not_eq_true, showsW]
        rintro ⟨g', at'', complete, -⟩
        obtain rfl := Option.some.inj (at'.symm.trans at'')
        simp [showing] at complete
      have now : bufferAt (fullOutputStart k s) (!x) = some g := by
        rw [there, at', no, (settleBuffer_showing showing).2]
      obtain ⟨answer, source_, shown_, repeats_⟩ :=
        answers.unique ((answers_showing (one now showing)).2 (shows.trans no))
      exact ⟨now, answer, source_, shown_, repeats_⟩
    · have none_ : showingBuffer (settledStart k s) = none := by
        refine showingBuffer_none fun y g' at'' shown' => ?_
        rw [settled] at at''
        by_cases same : y = x
        · rw [same, here] at at''
          cases at''
        · rw [Bool.eq_not_of_ne same, there] at at''
          obtain ⟨g, from_⟩ := settleBuffer_from at''
          obtain ⟨complete, apart⟩ := others g from_
          rw [from_] at at''
          obtain ⟨-, frame⟩ | showing := (settleBuffer_shows_iff at'').mp shown'
          · exact apart frame
          · simp [complete] at showing
      obtain ⟨answer, source_, shown_, repeats_⟩ := answers.unique (answers_black none_)
      refine ⟨answer, source_, shown_, repeats_, fun empty => by rw [there, empty]; rfl, fun g at' => ?_⟩
      obtain ⟨complete, apart⟩ := others g at'
      rw [there, at']
      exact settleBuffer_complete complete apart
  · obtain hs | hs := hs
    · exact noticed_unused (noticed_ .upper) sl hs
    · exact noticed_unused (noticed_ .lower) sl hs
  · rw [pliE] at stale
    exact stale
  · exact li.trans liE
  · exact fa.trans faE
  · exact cu.trans cuE

end Sys2Proof.Machine
end

section
/-! SUPPORT. The begin of a field (R20, R27, R28, R105, R132): the slot granted, and the notices. -/

namespace Sys2Proof.Machine

/-! ## The slot granted (R27) -/

theorem slotAt_range {s : State} {i : Nat} (h : i ∈ slotIndices s) :
    s.fs.slots[i]? = some (slotAt s i) := by
  obtain lt : i < s.fs.slots.length := List.mem_range.mp h
  simp [slotAt, lt]

theorem mem_slotIndices {s : State} {i : Nat} {sl : Slot} (h : s.fs.slots[i]? = some sl) :
    i ∈ slotIndices s :=
  List.mem_range.mpr (List.getElem?_eq_some_iff.mp h).1

/-- R27: the slots without a holder. -/
def unheldSlots (s : State) : List Nat :=
  (slotIndices s).filter fun i => (slotAt s i).holders.isEmpty

theorem mem_unheldSlots {s : State} {i : Nat} {sl : Slot} (h : s.fs.slots[i]? = some sl) :
    i ∈ unheldSlots s ↔ sl.holders = [] := by
  simp [unheldSlots, mem_slotIndices h, slotAt_of_get h]

theorem unheldSlots_get {s : State} {i : Nat} (h : i ∈ unheldSlots s) :
    s.fs.slots[i]? = some (slotAt s i) ∧ (slotAt s i).holders = [] := by
  obtain ⟨range, unheld⟩ := List.mem_filter.mp h
  exact ⟨slotAt_range range, by simpa using unheld⟩

theorem unheldSlots_sorted (s : State) : (unheldSlots s).Pairwise (· < ·) :=
  List.Pairwise.filter _ List.pairwise_lt_range

theorem find_lowest {l : List Nat} {p : Nat → Bool} {i : Nat} (sorted : l.Pairwise (· < ·))
    (h : i ∈ l) (hit : p i = true) (lowest : ∀ j ∈ l, j < i → p j = false) : l.find? p = some i := by
  induction l with
  | nil => cases h
  | cons x xs ih =>
    obtain ⟨first, rest⟩ := List.pairwise_cons.mp sorted
    obtain rfl | h := List.mem_cons.mp h
    · rw [List.find?_cons_of_pos hit]
    · have miss := lowest x List.mem_cons_self (first i h)
      rw [List.find?_cons_of_neg (by simp [miss])]
      exact ih rest h fun j hj => lowest j (List.mem_cons_of_mem x hj)

theorem grantSlot_free {s : State} {i : Nat} (h : i ∈ unheldSlots s) (free : isFree (slotAt s i) = true)
    (lowest : ∀ j ∈ unheldSlots s, j < i → isFree (slotAt s j) = false) : grantSlot s = some i := by
  have found : (unheldSlots s).find? (fun i => isFree (slotAt s i)) = some i :=
    find_lowest (unheldSlots_sorted s) h free lowest
  unfold unheldSlots at found
  simp [grantSlot, found]

/-- R27: a slot claimed longer ago than every other of a list. -/
theorem oldestClaim_eq {s : State} {i : Nat} {l : List Nat} (h : i ∈ l)
    (oldest : ∀ j ∈ l, j ≠ i →
      claimAge s (slotClaim (slotAt s j)) < claimAge s (slotClaim (slotAt s i))) :
    oldestClaim s l = some i := by
  have among : ∀ l : List Nat, ∀ j, oldestClaim s l = some j → j ∈ l := by
    intro l
    induction l with
    | nil => intro j eq; simp [oldestClaim] at eq
    | cons x xs ih =>
      intro j eq
      unfold oldestClaim at eq
      split at eq
      · obtain rfl := Option.some.inj eq
        exact List.mem_cons_self
      · next y rest =>
        split at eq
        · obtain rfl := Option.some.inj eq
          exact List.mem_cons_self
        · obtain rfl := Option.some.inj eq
          exact List.mem_cons_of_mem x (ih _ rest)
  induction l with
  | nil => cases h
  | cons x xs ih =>
    unfold oldestClaim
    by_cases later : i ∈ xs
    · rw [ih later fun j hj => oldest j (List.mem_cons_of_mem x hj)]
      by_cases same : x = i
      · simp [same]
      · have less := oldest x List.mem_cons_self same
        simp [Nat.not_le.mpr less]
    · obtain rfl : x = i := ((List.mem_cons.mp h).resolve_right later).symm
      split
      · rfl
      · next j eq =>
        have inside := among xs j eq
        have other : j ≠ x := fun same => later (same ▸ inside)
        exact if_pos (oldest j (List.mem_cons_of_mem x inside) other).le

theorem grantSlot_closed {s : State} (full : ∀ j ∈ unheldSlots s, isFree (slotAt s j) = false) :
    grantSlot s = oldestClaim s ((unheldSlots s).filter fun i => isClosed (slotAt s i)) := by
  have none_ : (unheldSlots s).find? (fun i => isFree (slotAt s i)) = none := by
    rw [List.find?_eq_none]
    exact fun j hj => by simp [full j hj]
  unfold unheldSlots at none_ ⊢
  simp [grantSlot, none_]

/-! ## A fresh table (R28) -/

/-- R28: an entry before any record. -/
def absentEntry (l : Nat) : LineEntry := { line := l, state := .absent, spans := [], samples := none }

theorem find_absentEntry (ls : List Nat) (l : Nat) :
    ((ls.map absentEntry).find? fun e => e.line == l) =
      if l ∈ ls then some (absentEntry l) else none := by
  induction ls with
  | nil => rfl
  | cons x xs ih =>
    by_cases same : x = l
    · simp [absentEntry, same]
    · have other : l ≠ x := fun eq => same eq.symm
      rw [List.map_cons, List.find?_cons_of_neg (by simpa [absentEntry] using same), ih]
      simp [other]

theorem find_freshTable (o : Ownership) (p : Parity) (l : Nat) :
    ((freshTable o p).find? fun e => e.line == l) =
      if o.inWindow p l then some (absentEntry l) else none := by
  cases run : o.windowRun p with
  | none => simp [freshTable, Ownership.inWindow, run]
  | some pair =>
    obtain ⟨first, last⟩ := pair
    have fresh : freshTable o p = (List.range' first (last + 1 - first)).map absentEntry := by
      simp only [freshTable, run]
      rfl
    have inside : l ∈ List.range' first (last + 1 - first) ↔ o.inWindow p l = true := by
      simp only [List.mem_range'_1, Ownership.inWindow, run, Bool.and_eq_true, decide_eq_true_eq]
      omega
    rw [fresh, find_absentEntry]
    simp only [inside]

/-! ## The notices of a begin (R105, R132) -/

theorem markOvertaken_marks {n : FieldNo} {frames : List FrameEntry} :
    ∀ e ∈ markOvertaken n frames, e.frame = n → e.overtaken = true := by
  intro e he same
  obtain ⟨x, -, rfl⟩ := List.mem_map.mp he
  split at same
  · next hit => rw [if_pos hit]
  · next miss => exact absurd same miss

theorem markOvertaken_others {n : FieldNo} {frames : List FrameEntry} :
    ∀ e ∈ markOvertaken n frames, e.frame ≠ n → e ∈ frames := by
  intro e he other
  obtain ⟨x, hx, rfl⟩ := List.mem_map.mp he
  split at other
  · next hit => exact absurd hit other
  · next miss => rwa [if_neg miss]

theorem markOvertaken_frames (n : FieldNo) (frames : List FrameEntry) :
    (markOvertaken n frames).map (·.frame) = frames.map (·.frame) := by
  unfold markOvertaken
  rw [List.map_map]
  refine List.map_congr_left fun e _ => ?_
  simp only [Function.comp_apply]
  split <;> rfl

/-- R105: in MEMBER the round before last is still open. -/
def RoundOvertaken (f : FieldNo) (s : State) : Prop :=
  s.cu.membership = .member ∧ newerThan (f - 2) s.cu.agreed.lastClosed = true

/-- R132: the Line Builder marks the frame before last itself. -/
def SelfOvertaken (f : FieldNo) (s : State) : Prop :=
  s.cp.ownership.isFull = true ∧ Applies s ∧ decisionFor s.lb (f - 2) = none

/-- R132: the frame list marked at frame n exactly under a condition. -/
structure Marked (n : FieldNo) (p : Prop) (frames frames' : List FrameEntry) : Prop where
  numbers : frames'.map (·.frame) = frames.map (·.frame)
  others : ∀ e ∈ frames', e.frame ≠ n → e ∈ frames
  marks : p → ∀ e ∈ frames', e.frame = n → e.overtaken = true
  same : ¬ p → frames' = frames

theorem marked_yes {n : FieldNo} {p : Prop} (h : p) (frames : List FrameEntry) :
    Marked n p frames (markOvertaken n frames) :=
  ⟨markOvertaken_frames n frames, markOvertaken_others, fun _ => markOvertaken_marks, fun no => absurd h no⟩

theorem marked_no {n : FieldNo} {p : Prop} (h : ¬ p) (frames : List FrameEntry) :
    Marked n p frames frames :=
  ⟨rfl, fun _ he _ => he, fun yes => absurd yes h, fun _ => rfl⟩

theorem Marked.trans {n : FieldNo} {p q : Prop} {a b c : List FrameEntry} (first : Marked n p a b)
    (second : Marked n q b c) : Marked n (p ∨ q) a c := by
  refine ⟨second.numbers.trans first.numbers, fun e he other => ?_, fun either e he hit => ?_,
    fun neither => ?_⟩
  · exact first.others e (second.others e he other) other
  · by_cases late : q
    · exact second.marks late e he hit
    · rw [second.same late] at he
      exact first.marks (either.resolve_right late) e he hit
  · rw [second.same (mt .inr neither), first.same (mt .inl neither)]

theorem builderBegin_lb (f : FieldNo) (s : State) :
    Marked (f - 2) (SelfOvertaken f s) s.lb.frames (builderBegin f s).lb.frames ∧
      (builderBegin f s).lb =
        { s.lb with
          frames := (builderBegin f s).lb.frames
          newestBegun := if s.cp.ownership.isFull then some f else s.lb.newestBegun } := by
  unfold builderBegin
  by_cases isFull : s.cp.ownership.isFull = true
  · rw [if_pos isFull]
    obtain ⟨u, hu⟩ : ∃ u, u = s.setLb { s.lb with newestBegun := some f } := ⟨_, rfl⟩
    have self : (u.cu.membership.applies && (decisionFor u.lb (f - 2)).isNone) = true ↔
        SelfOvertaken f s := by
      rw [Bool.and_eq_true, applies_iff, Option.isNone_iff_eq_none, hu]
      exact ⟨fun both => ⟨isFull, both⟩, fun ⟨_, both⟩ => both⟩
    rw [← hu, selfOvertaken]
    split
    · next holds =>
      rw [hu]
      exact ⟨marked_yes (self.mp holds) _, by simp [overtakenNotice]⟩
    · next fails =>
      rw [hu]
      exact ⟨marked_no (mt self.mpr fails) _, by simp⟩
  · rw [if_neg isFull]
    exact ⟨marked_no (fun self => isFull self.1) _, by simp [isFull]⟩

theorem consensusBegin_lb (f : FieldNo) (s : State) :
    Marked (f - 2) (RoundOvertaken f s) s.lb.frames (consensusBegin f s).lb.frames ∧
      (consensusBegin f s).lb = { s.lb with frames := (consensusBegin f s).lb.frames } ∧
      (RoundOvertaken f s →
        (consensusBegin f s).cu = { s.cu with overtakenCount := s.cu.overtakenCount + 1 }) ∧
      (¬ RoundOvertaken f s → (consensusBegin f s).cu = s.cu) := by
  have overtaken : (s.cu.membership = .member ∧ alreadyClosed s.cu.agreed (f - 2) = false) ↔
      RoundOvertaken f s := by simp [RoundOvertaken, alreadyClosed]
  unfold consensusBegin
  split
  · next holds =>
    have yes := overtaken.mp holds
    exact ⟨marked_yes yes _, rfl, fun _ => rfl, fun no => absurd yes no⟩
  · next fails =>
    have no := mt overtaken.mpr fails
    exact ⟨marked_no no _, rfl, fun yes => absurd yes no, fun _ => rfl⟩

/-- R105, R132: what a begin tells the Line Builder and the Consensus Unit. -/
def announce (f : FieldNo) (s : State) : State := consensusBegin f (builderBegin f s)

/-- What the notices of a begin change. -/
structure Announced (f : FieldNo) (s t : State) : Prop where
  blocks : t.li = s.li ∧ t.fs = s.fs ∧ t.fa = s.fa ∧ t.pli = s.pli ∧ t.hx = s.hx ∧ t.sc = s.sc ∧
    t.op = s.op ∧ t.cp = s.cp
  counts : RoundOvertaken f s → t.cu = { s.cu with overtakenCount := s.cu.overtakenCount + 1 }
  stays : ¬ RoundOvertaken f s → t.cu = s.cu
  frames : Marked (f - 2) (SelfOvertaken f s ∨ RoundOvertaken f s) s.lb.frames t.lb.frames
  lb : t.lb =
    { s.lb with
      frames := t.lb.frames
      newestBegun := if s.cp.ownership.isFull then some f else s.lb.newestBegun }

theorem announce_announced (f : FieldNo) (s : State) : Announced f s (announce f s) := by
  obtain ⟨first, lb1⟩ := builderBegin_lb f s
  obtain ⟨second, lb2, counts, stays⟩ := consensusBegin_lb f (builderBegin f s)
  have cu : (builderBegin f s).cu = s.cu := by simp
  have overtaken : RoundOvertaken f (builderBegin f s) ↔ RoundOvertaken f s := by
    simp [RoundOvertaken]
  rw [overtaken] at second counts stays
  rw [cu] at counts stays
  refine ⟨by simp [announce], counts, stays, first.trans second, ?_⟩
  rw [lb1] at lb2
  exact lb2

theorem roundOvertaken_not {f : FieldNo} {s : State}
    (h : s.cu.membership ≠ .member ∨ newerThan (f - 2) s.cu.agreed.lastClosed = false) :
    ¬ RoundOvertaken f s := by
  rintro ⟨member, open_⟩
  obtain off | closed := h
  · exact off member
  · rw [closed] at open_
    cases open_

theorem exec_fieldBegin_first {s : State} {w f : Word16} {rest : List Word16} (h : Live s)
    (runs : s.cu.membership.running = true) (none_ : s.li.marker = none) (kind : busKind w = 2) :
    exec (.fieldBegin (w :: f :: rest)) s = .next (announce f (openField f (busParity w) s)) := by
  have first : implicitEnd s = s := by simp [implicitEnd, none_]
  rw [exec_fieldBegin h, fieldBeginEffect_run kind runs, fieldBeginStep, first]
  rfl

theorem openField_granted {s : State} {i : Nat} (h : grantSlot s = some i) (f : FieldNo) (p : Parity) :
    openField f p s =
      (claimSlot s i f p).setLi
        { (claimSlot s i f p).li with marker := some { field := f, parity := p, slot := some i } } := by
  simp [openField, h]

/-- Settles O21. -/
theorem fieldBeginClaimsTheSlotGranted : Obligations.FieldBeginClaimsTheSlotGranted := by
  intro s w f rest i sl h runs none_ kind at_ unheld which
  have unheld_ : i ∈ unheldSlots s := (mem_unheldSlots at_).mpr unheld
  have granted : grantSlot s = some i := by
    obtain ⟨free, lowest⟩ | ⟨o, occupied, closed, full, oldest⟩ := which
    · refine grantSlot_free unheld_ (by simp [isFree, slotAt_of_get at_, free]) fun j hj lt => ?_
      obtain ⟨get, noHolder⟩ := unheldSlots_get hj
      have busy := (lowest j _ lt get).resolve_left (absurd noHolder)
      simpa [isFree, Option.isNone_eq_false_iff, Option.isSome_iff_ne_none] using busy
    · rw [grantSlot_closed fun j hj => ?_]
      · refine oldestClaim_eq (List.mem_filter.mpr ⟨unheld_, ?_⟩) fun j hj other => ?_
        · simp [isClosed, slotAt_of_get at_, occupied, closed]
        · obtain ⟨hj, closedJ⟩ := List.mem_filter.mp hj
          obtain ⟨get, noHolder⟩ := unheldSlots_get hj
          obtain ⟨p, hp⟩ := Option.ne_none_iff_exists'.mp (full j _ get noHolder)
          have less := oldest j _ p other get noHolder hp (by simpa [isClosed, hp] using closedJ)
          simpa [claimAge, slotClaim, hp, slotAt_of_get at_, occupied] using less
      · obtain ⟨get, noHolder⟩ := unheldSlots_get hj
        simpa [isFree, Option.isNone_eq_false_iff, Option.isSome_iff_ne_none] using full j _ get noHolder
  have announced := announce_announced f (openField f (busParity w) s)
  rw [openField_granted granted] at announced
  obtain ⟨li, fs, fa, pli, hx, sc, op, cp⟩ := announced.blocks
  refine ⟨_, { closed := false, field := f, parity := busParity w, claim := s.fs.claimCounter
               declared := none, table := freshTable s.cp.ownership (busParity w) },
    exec_fieldBegin_first h runs none_ kind, ?_⟩
  rw [openField_granted granted]
  refine ⟨li, congrArg _ fs, congrArg _ fs, rfl, rfl, rfl, rfl, rfl, fun l => find_freshTable _ _ l, fa, pli,
    hx, sc, op, cp, fun member open_ => ⟨announced.counts ⟨member, open_⟩,
      announced.frames.marks (.inr ⟨member, open_⟩)⟩, fun quiet => announced.stays (roundOvertaken_not quiet),
    fun isFull => ?_⟩
  rw [announced.lb]
  exact if_pos isFull

theorem grantSlot_none {s : State}
    (h : ∀ sl ∈ s.fs.slots, sl.holders ≠ [] ∨ ∃ o, sl.occupant = some o ∧ o.closed = false) :
    grantSlot s = none := by
  have busy : ∀ j ∈ unheldSlots s, ∃ o, (slotAt s j).occupant = some o ∧ o.closed = false := by
    intro j hj
    obtain ⟨get, noHolder⟩ := unheldSlots_get hj
    exact (h _ (List.mem_of_getElem? get)).resolve_left (absurd noHolder)
  have noneClosed : (unheldSlots s).filter (fun i => isClosed (slotAt s i)) = [] := by
    refine List.filter_eq_nil_iff.mpr fun j hj => ?_
    obtain ⟨o, occupied, open_⟩ := busy j hj
    simp [isClosed, occupied, open_]
  rw [grantSlot_closed fun j hj => ?_, noneClosed]
  · rfl
  · obtain ⟨o, occupied, -⟩ := busy j hj
    simp [isFree, occupied]

/-- Settles O22. -/
theorem fieldBeginDiscardsWithoutASlot : Obligations.FieldBeginDiscardsWithoutASlot := by
  intro s w f rest h runs none_ kind busy
  have discards : openField f (busParity w) s = discardField f (busParity w) s := by
    simp [openField, grantSlot_none busy]
  have announced := announce_announced f (discardField f (busParity w) s)
  obtain ⟨li, fs, fa, pli, hx, sc, op, cp⟩ := announced.blocks
  refine ⟨_, exec_fieldBegin_first h runs none_ kind, ?_⟩
  rw [discards]
  refine ⟨li, fs, fa, pli, hx, sc, op, cp, fun member open_ => ⟨announced.counts ⟨member, open_⟩,
      announced.frames.marks (.inr ⟨member, open_⟩)⟩, fun quiet => announced.stays (roundOvertaken_not quiet),
    ?_, announced.frames.numbers, announced.frames.others, fun isFull => ⟨?_, fun applies undecided =>
      announced.frames.marks (.inl ⟨isFull, applies, undecided⟩)⟩, fun fill => ?_, fun quiet calm => ?_⟩
  · rw [announced.lb]
    rfl
  · rw [announced.lb]
    exact if_pos isFull
  · rw [announced.lb]
    exact if_neg (by rw [show (discardField f (busParity w) s).cp.ownership = s.cp.ownership by simp, fill]; nofun)
  · refine announced.frames.same ?_
    rintro (⟨isFull, applies, undecided⟩ | overtaken)
    · obtain fill | off | decided := calm
      · rw [show (discardField f (busParity w) s).cp.ownership = s.cp.ownership by simp, fill] at isFull
        cases isFull
      · exact off applies
      · exact decided undecided
    · exact roundOvertaken_not quiet overtaken

end Sys2Proof.Machine
end

section
/-! SUPPORT. The hand-over of an analysis (R84, R88, R90, R95). -/

namespace Sys2Proof.Machine

/-! ## The REPORT asked for (R54, R88, R90) -/

/-- R90: the REPORT for field n, with the release counts that stand now. -/
def reportFor (n : FieldNo) (figures : Option Figures) (s : State) : Queued :=
  .report n figures s.hx.up.release s.hx.down.release

theorem askReport_accepted {n : FieldNo} {figures : Option Figures} {s : State}
    (member : s.cu.membership = .member) (room : s.pli.urgent.length < 8)
    (distinct : s.pli.urgent.any (sameRound (reportFor n figures s)) = false) :
    askReport n figures s = pushUrgent (reportFor n figures s) (takeCounts s) := by
  have answer : urgentAnswer (reportFor n figures s) s = .accepted :=
    urgentAnswer_room room distinct (by rw [member]; rfl)
  unfold reportFor at answer ⊢
  simp only [askReport, answer]

theorem askReport_refused {n : FieldNo} {figures : Option Figures} {s : State}
    (h : 8 ≤ s.pli.urgent.length ∨ s.pli.urgent.any (sameRound (reportFor n figures s)) = true) :
    askReport n figures s = s := by
  have answer : urgentAnswer (reportFor n figures s) s ≠ .accepted := by
    intro accepted
    obtain ⟨room, distinct, -⟩ := urgentAnswer_accepted accepted
    obtain full | again := h
    · exact absurd full (Nat.not_le.mpr room)
    · simp [again] at distinct
  unfold reportFor at answer
  unfold askReport
  dsimp only
  split
  · next eq => exact absurd eq answer
  · rfl

/-! ## Held expiries and timers (R94, R95) -/

theorem releaseHeld_unheld {n : FieldNo} {s : State} (h : n ∉ s.cu.heldExpiries) :
    releaseHeld n s = s := by
  simp [releaseHeld, h]

/-- R95: the held expiries without field n. -/
def expiryDropped (n : FieldNo) (s : State) : State :=
  s.setCu { s.cu with heldExpiries := s.cu.heldExpiries.filter fun f => f != n }

theorem releaseHeld_held {n : FieldNo} {s : State} (h : n ∈ s.cu.heldExpiries) :
    releaseHeld n s = askClose n (expiryDropped n s) := by
  simp [releaseHeld, h, expiryDropped]

theorem markHanded_untimed {n : FieldNo} {s : State} (h : ∀ x ∈ s.cu.timers, x.field ≠ n) :
    markHanded n s = s := by
  have same : (s.cu.timers.map fun t => if t.field = n then { t with handed := true } else t) =
      s.cu.timers := by
    refine (List.map_congr_left fun x hx => ?_).trans (List.map_id _)
    exact if_neg (h x hx)
  rw [markHanded, same]
  rfl

theorem markHanded_marks {n : FieldNo} {s : State} :
    ∀ x ∈ (markHanded n s).cu.timers, x.field = n → x.handed = true := by
  intro x hx field
  obtain ⟨y, -, rfl⟩ := List.mem_map.mp hx
  by_cases same : y.field = n
  · simp [same]
  · simp [same] at field

/-! ## What is reported (R88) -/

theorem reportResult_quiet {n : FieldNo} {s : State}
    (h : s.cu.membership ≠ .member ∨ newerThan n s.cu.agreed.lastClosed = false)
    (figures : Option Figures) : reportResult n figures s = s := by
  refine if_neg fun both => ?_
  obtain ⟨member, newer_⟩ := both
  obtain other | closed := h
  · exact other member
  · simp [newer_] at closed

theorem reportResult_open {n : FieldNo} {s : State} (member : s.cu.membership = .member)
    (newer_ : newerThan n s.cu.agreed.lastClosed = true) (figures : Option Figures) :
    reportResult n figures s = releaseHeld n (askReport n figures s) :=
  if_pos ⟨member, newer_⟩

/-- R90: the counts taken from the halo exchange. -/
def takenHalo (s : State) : Halo :=
  { s.hx with up := { s.hx.up with release := 0 }, down := { s.hx.down with release := 0 } }

/-- R88, R90: a REPORT that the queue accepts. -/
theorem reportResult_accepted {n : FieldNo} {figures : Option Figures} {s : State}
    (member : s.cu.membership = .member) (newer_ : newerThan n s.cu.agreed.lastClosed = true)
    (room : s.pli.urgent.length < 8)
    (distinct : s.pli.urgent.any (sameRound (reportFor n figures s)) = false) :
    (reportResult n figures s).hx = takenHalo s ∧
      (n ∉ s.cu.heldExpiries →
        (reportResult n figures s).pli =
            { s.pli with urgent := s.pli.urgent ++ [reportFor n figures s] } ∧
          (reportResult n figures s).cu = s.cu) := by
  rw [reportResult_open member newer_, askReport_accepted member room distinct]
  refine ⟨?_, fun unheld => ?_⟩
  · have hx : (releaseHeld n (pushUrgent (reportFor n figures s) (takeCounts s))).hx =
        (takeCounts s).hx := by simp
    rw [hx]
    rfl
  · have unheld' : n ∉ (pushUrgent (reportFor n figures s) (takeCounts s)).cu.heldExpiries := unheld
    rw [releaseHeld_unheld unheld']
    exact ⟨rfl, rfl⟩

/-- R95: with room for both, the CLOSE of a held expiry follows the REPORT. -/
theorem reportResult_closes {n : FieldNo} {figures : Option Figures} {s : State}
    (member : s.cu.membership = .member) (newer_ : newerThan n s.cu.agreed.lastClosed = true)
    (room : s.pli.urgent.length < 7)
    (distinct : s.pli.urgent.any (sameRound (reportFor n figures s)) = false)
    (held : n ∈ s.cu.heldExpiries) (new : Queued.close n ∉ s.pli.urgent) :
    (reportResult n figures s).pli =
        { s.pli with urgent := s.pli.urgent ++ [reportFor n figures s, .close n] } ∧
      n ∉ (reportResult n figures s).cu.heldExpiries := by
  obtain ⟨u, hu⟩ : ∃ u, u = pushUrgent (reportFor n figures s) (takeCounts s) := ⟨_, rfl⟩
  have cu : u.cu = s.cu := by rw [hu]; rfl
  have pli : u.pli = { s.pli with urgent := s.pli.urgent ++ [reportFor n figures s] } := by
    rw [hu]; rfl
  have closes : askClose n (expiryDropped n u) = pushUrgent (.close n) (expiryDropped n u) := by
    apply askClose_room
    · simpa [expiryDropped, cu] using newer_
    · simpa [expiryDropped, cu] using member
    · simp only [expiryDropped, State.setCu_pli, pli, List.length_append, List.length_singleton]
      omega
    · simpa [expiryDropped, pli, reportFor] using new
  have accepted := askReport_accepted member (Nat.lt_of_lt_of_le room (by decide)) distinct
  rw [reportResult_open member newer_, accepted, ← hu, releaseHeld_held (cu ▸ held), closes]
  refine ⟨?_, ?_⟩
  · simp [pushUrgent, expiryDropped, pli]
  · simp [pushUrgent, expiryDropped]

/-- R54, R90: a REPORT that the queue refuses. -/
theorem reportResult_refused {n : FieldNo} {figures : Option Figures} {s : State}
    (member : s.cu.membership = .member) (newer_ : newerThan n s.cu.agreed.lastClosed = true)
    (h : 8 ≤ s.pli.urgent.length ∨ s.pli.urgent.any (sameRound (reportFor n figures s)) = true) :
    (reportResult n figures s).hx = s.hx ∧
      (n ∉ s.cu.heldExpiries → (reportResult n figures s).pli = s.pli) := by
  rw [reportResult_open member newer_, askReport_refused h]
  refine ⟨by simp, fun unheld => ?_⟩
  rw [releaseHeld_unheld unheld]

/-! ## The hand-over -/

/-- R84, R88: what a hand-over leaves of the hand-over's parts. -/
theorem handOver_parts (n : FieldNo) (figures : Option Figures) (claim : Option Word16) (s : State) :
    (handOver n figures claim s).pli = (reportResult n figures s).pli ∧
      (handOver n figures claim s).hx = (reportResult n figures s).hx ∧
      (handOver n figures claim s).cu = (markHanded n (reportResult n figures s)).cu ∧
      (handOver n figures claim s).fa =
        { s.fa with lastResult := some { field := n, figures := figures } } ∧
      (handOver n figures claim s).fs = (dropAnalysis claim s).fs := by
  unfold handOver
  refine ⟨by simp, by simp, by simp, by simp, ?_⟩
  cases claim with
  | none => simp [dropAnalysis]
  | some c => simp [dropAnalysis, dropHolder, State.setSlots]

end Sys2Proof.Machine
end

section
/-! SUPPORT. The field end (R23, R24, R31, R66, R74, R83, R84, R94, R131). -/

namespace Sys2Proof.Machine

/-! ## The notice to the Consensus Unit (R66, R74, R83, R94) -/

/-- R66, R74, R83, R94: what the end of field f changes in the Consensus Unit. -/
structure EndCounted (f : FieldNo) (queued handed : Bool) (cu cu' : Consensus) : Prop where
  listening : cu.membership = .listening → cu' = { cu with listenCount := min 2 (cu.listenCount + 1) }
  joining : cu.membership = .joining → queued = false →
    cu' = { cu with snapshotWait := min 4 (cu.snapshotWait + 1) }
  asked : cu.membership = .joining → queued = true → cu' = cu
  isolated : cu.membership = .isolated →
    cu' = { cu with isolationWait := min 4 (cu.isolationWait + 1) }
  leaving : cu.membership = .leaving → cu' = cu
  starts : cu.membership = .member → newerThan f cu.agreed.lastClosed = true →
    (∀ x ∈ cu.timers, x.field ≠ f) →
    cu' = { cu with timers := cu.timers ++ [{ field := f, handed := handed }] }
  runs : cu.membership = .member →
    (newerThan f cu.agreed.lastClosed = false ∨ ∃ x ∈ cu.timers, x.field = f) → cu' = cu

/-- R94: an analysis of field f is on the list. -/
def analysing (f : FieldNo) (pending : List Analysis) : Bool := pending.any fun a => a.field == f

theorem startTimer_starts {f : FieldNo} {s : State} (newer_ : newerThan f s.cu.agreed.lastClosed = true)
    (fresh : ∀ x ∈ s.cu.timers, x.field ≠ f) :
    (startTimer f s).cu =
      { s.cu with timers := s.cu.timers ++ [{ field := f, handed := !analysing f s.fa.pending }] } := by
  have none_ : (s.cu.timers.any fun t => t.field == f) = false := by simpa using fresh
  simp [startTimer, newer_, none_, analysing]

theorem startTimer_runs {f : FieldNo} {s : State}
    (h : newerThan f s.cu.agreed.lastClosed = false ∨ ∃ x ∈ s.cu.timers, x.field = f) :
    startTimer f s = s := by
  obtain closed | running := h
  · simp [startTimer, closed]
  · have some_ : (s.cu.timers.any fun t => t.field == f) = true := by simpa using running
    simp [startTimer, some_]

theorem consensusEnd_counted (f : FieldNo) (s : State) :
    EndCounted f (joinQueued s) (!analysing f s.fa.pending) s.cu (consensusEnd f s).cu where
  listening h := by simp [consensusEnd, h]
  joining h none_ := by simp [consensusEnd, h, none_]
  asked h queued := by simp [consensusEnd, h, queued]
  isolated h := by simp [consensusEnd, h]
  leaving h := by simp [consensusEnd, h]
  starts h newer_ fresh := by
    rw [← startTimer_starts newer_ fresh]
    simp [consensusEnd, h]
  runs h either := by
    have same := startTimer_runs either
    simp [consensusEnd, h, same]

/-! ## The notice to the Line Builder (R131) -/

theorem builderEnd_reduced {s : State} (h : s.cp.ownership.isFull = false) (f : FieldNo)
    (slot : Option Nat) : builderEnd f slot s = s := by
  simp [builderEnd, h]

theorem builderEnd_discarded {s : State} (h : s.cp.ownership.isFull = true) (f : FieldNo) :
    builderEnd f none s = s.setLb { s.lb with lastEnded := some f } := by
  simp [builderEnd, h, joinsList]

theorem builderEnd_lastEnded {s : State} (h : s.cp.ownership.isFull = true) (f : FieldNo)
    (slot : Option Nat) : (builderEnd f slot s).lb.lastEnded = some f := by
  unfold builderEnd
  rw [if_pos h]
  split <;> rfl

/-! ## The list of analyses (R31, R84) -/

theorem beginHead_pending (s : State) :
    (beginHead s).fa.pending.map (fun a => (a.field, a.claim, a.held)) =
        s.fa.pending.map (fun a => (a.field, a.claim, a.held)) ∧
      (beginHead s).fa.lastResult = s.fa.lastResult := by
  unfold beginHead
  split
  · exact ⟨rfl, rfl⟩
  · next a rest eq =>
    cases start : a.start <;> simp [eq]

/-- R31, R84: the analysis that joins at the end of field f. -/
def joiningAnalysis (f : FieldNo) (claim : Option Word16) (s : State) : Analysis :=
  { field := f, claim := claim, held := analysisSlots f claim s, start := none }

/-- What tells an analysis from another: its field, its claim and its slots. -/
def analysisKey (a : Analysis) : FieldNo × Option Word16 × AnalysisSlots := (a.field, a.claim, a.held)

theorem joinAnalyses_keys (f : FieldNo) (claim : Option Word16) (s : State) :
    (joinAnalyses f claim s).fa.pending.map analysisKey =
        s.fa.pending.map analysisKey ++ [analysisKey (joiningAnalysis f claim s)] ∧
      (joinAnalyses f claim s).fa.lastResult = s.fa.lastResult := by
  obtain ⟨keys, result⟩ := beginHead_pending
    (s.setFa { s.fa with pending := s.fa.pending ++ [joiningAnalysis f claim s] })
  refine ⟨keys.trans ?_, result⟩
  simp [analysisKey]

theorem names_of_keys {l l' : List Analysis} (h : l.map analysisKey = l'.map analysisKey) :
    l.map (fun a => (a.field, a.claim)) = l'.map fun a => (a.field, a.claim) := by
  have names := congrArg (List.map fun k => (k.1, k.2.1)) h
  simpa [analysisKey, Function.comp_def] using names

theorem analysing_of_names {f : FieldNo} {l l' : List Analysis}
    (h : l.map (fun a => (a.field, a.claim)) = l'.map fun a => (a.field, a.claim)) :
    analysing f l = analysing f l' := by
  have fields := congrArg (fun ks => ks.any fun k => k.1 == f) h
  simpa [analysing, Function.comp_def] using fields

end Sys2Proof.Machine
end

section
/-! SUPPORT. The end of a discarded field (R23, R24, R31, R84, R88). -/

namespace Sys2Proof.Machine

/-! ## The three hand-ons of a field end (R24) -/

/-- The counts of a field end depend on the queue only while a JOIN may be in it. -/
theorem EndCounted.requeued {f : FieldNo} {q q' handed : Bool} {cu cu' : Consensus}
    (h : EndCounted f q handed cu cu') (same : cu.membership = .joining → q' = q) :
    EndCounted f q' handed cu cu' where
  listening := h.listening
  joining m none_ := h.joining m (same m ▸ none_)
  asked m queued := h.asked m (same m ▸ queued)
  isolated := h.isolated
  leaving := h.leaving
  starts := h.starts
  runs := h.runs

theorem joinQueued_of_pli {s t : State} (h : t.pli = s.pli) : joinQueued t = joinQueued s := by
  simp [joinQueued, h]

theorem handOnEnd_parts (f : FieldNo) (slot : Option Nat) (s : State) :
    (handOnEnd f slot s).fs = (analyseField f slot s).fs ∧
      (handOnEnd f slot s).fa = (analyseField f slot s).fa ∧
      (handOnEnd f slot s).pli = (analyseField f slot s).pli ∧
      (handOnEnd f slot s).hx = (analyseField f slot s).hx ∧
      (handOnEnd f slot s).cu = (consensusEnd f (analyseField f slot s)).cu := by
  unfold handOnEnd
  simp

theorem exec_fieldEnd_marker {s : State} {m : OpenField} {w : Word16} {rest : List Word16} (h : Live s)
    (runs : s.cu.membership.running = true) (marker : s.li.marker = some m) (kind : busKind w = 3) :
    exec (.fieldEnd (w :: m.field :: rest)) s = .next (endField m (some (busLow9 w)) s) := by
  rw [exec_fieldEnd h, fieldEndEffect_run kind runs]
  simp [fieldEndStep, marker]

/-! ## The analysis of a discarded field (R31, R84) -/

theorem analyseField_discarded_joins {s : State} (h : s.fa.pending.length < 16) (f : FieldNo) :
    analyseField f none s = joinAnalyses f none s :=
  if_neg (Nat.not_le.mpr h)

theorem analyseField_discarded_full {s : State} (h : 16 ≤ s.fa.pending.length) (f : FieldNo) :
    analyseField f none s = handOver f none none s :=
  if_pos h

/-- R84, R94: with room, the analysis of a discarded field joins the list. -/
theorem analyseField_discarded_room {s : State} (h : s.fa.pending.length < 16) (f : FieldNo) :
    (analyseField f none s).fs = s.fs ∧ (analyseField f none s).pli = s.pli ∧
      (analyseField f none s).hx = s.hx ∧ (analyseField f none s).cu = s.cu ∧
      (analyseField f none s).fa.pending.map (fun a => (a.field, a.claim)) =
        s.fa.pending.map (fun a => (a.field, a.claim)) ++ [(f, none)] ∧
      (analyseField f none s).fa.lastResult = s.fa.lastResult ∧
      analysing f (analyseField f none s).fa.pending = true := by
  obtain ⟨keys, result⟩ := joinAnalyses_keys f none s
  have names : (joinAnalyses f none s).fa.pending.map (fun a => (a.field, a.claim)) =
      (s.fa.pending ++ [joiningAnalysis f none s]).map fun a => (a.field, a.claim) :=
    names_of_keys (by rw [keys, List.map_append]; rfl)
  rw [analyseField_discarded_joins h]
  refine ⟨by simp, by simp, by simp, by simp, ?_, result, ?_⟩
  · rw [names, List.map_append]
    rfl
  · rw [analysing_of_names names]
    simp [analysing, joiningAnalysis]

/-- R84, R88: without room, the NODATA of a discarded field is handed over. -/
theorem analyseField_discarded_refused {s : State} (h : 16 ≤ s.fa.pending.length) (f : FieldNo) :
    (analyseField f none s).fs = s.fs ∧
      (analyseField f none s).fa = { s.fa with lastResult := some { field := f, figures := none } } ∧
      (analyseField f none s).pli = (reportResult f none s).pli ∧
      (analyseField f none s).hx = (reportResult f none s).hx ∧
      (analyseField f none s).cu = (markHanded f (reportResult f none s)).cu := by
  obtain ⟨pli, hx, cu, fa, fs⟩ := handOver_parts f none none s
  rw [analyseField_discarded_full h]
  exact ⟨fs, fa, pli, hx, cu⟩

/-- The Consensus Unit after a NODATA handed over, when no timer or held expiry of the field waits. -/
theorem handedOver_cu {f : FieldNo} {s : State} (fresh : ∀ x ∈ s.cu.timers, x.field ≠ f)
    (h : (s.cu.membership ≠ .member ∨ newerThan f s.cu.agreed.lastClosed = false) ∨
      f ∉ s.cu.heldExpiries) :
    (markHanded f (reportResult f none s)).cu = s.cu := by
  have cu : (reportResult f none s).cu = s.cu := by
    by_cases quiet : s.cu.membership ≠ .member ∨ newerThan f s.cu.agreed.lastClosed = false
    · rw [reportResult_quiet quiet]
    · have unheld := h.resolve_left quiet
      simp only [not_or, not_not, Bool.not_eq_false] at quiet
      obtain ⟨member, newer_⟩ := quiet
      have asked : (askReport f none s).cu = s.cu := by simp
      rw [reportResult_open member newer_, releaseHeld_unheld (asked ▸ unheld), asked]
  have timers : ∀ x ∈ (reportResult f none s).cu.timers, x.field ≠ f := cu ▸ fresh
  rw [markHanded_untimed timers, cu]

/-- R66, R74, R83, R94: what the end of a discarded field counts. -/
theorem discarded_counted {f : FieldNo} {s : State}
    (h : s.fa.pending.length < 16 ∨
      (∀ x ∈ s.cu.timers, x.field ≠ f) ∧
        ((s.cu.membership ≠ .member ∨ newerThan f s.cu.agreed.lastClosed = false) ∨
          f ∉ s.cu.heldExpiries)) :
    EndCounted f (joinQueued s)
      (!(decide (s.fa.pending.length < 16) || analysing f s.fa.pending)) s.cu
      (handOnEnd f none s).cu := by
  obtain ⟨-, -, -, -, cu⟩ := handOnEnd_parts f none s
  have counted := consensusEnd_counted f (analyseField f none s)
  rw [← cu] at counted
  by_cases room : s.fa.pending.length < 16
  · obtain ⟨-, pli, -, cu', -, -, listed⟩ := analyseField_discarded_room room f
    rw [cu', listed, joinQueued_of_pli pli] at counted
    simpa [room] using counted
  · obtain ⟨fresh, quiet⟩ := h.resolve_left room
    obtain ⟨-, fa, pli, -, cu'⟩ := analyseField_discarded_refused (Nat.not_lt.mp room) f
    rw [cu', handedOver_cu fresh quiet, fa] at counted
    have same : EndCounted f (joinQueued s) (!analysing f s.fa.pending) s.cu (handOnEnd f none s).cu := by
      refine counted.requeued fun joining => ?_
      have silent : s.cu.membership ≠ .member := by rw [joining]; nofun
      rw [joinQueued_of_pli (pli.trans (by rw [reportResult_quiet (.inl silent)]))]
    simpa [room] using same

/-! ## The obligation -/

theorem report_distinct {f : FieldNo} {figures : Option Figures} {s : State}
    (h : ∀ g fs u d, Queued.report g fs u d ∈ s.pli.urgent → g ≠ f) :
    s.pli.urgent.any (sameRound (reportFor f figures s)) = false := by
  rw [List.any_eq_false]
  intro x hx
  cases x with
  | report g fs u d => simpa [reportFor, sameRound] using (h g fs u d hx).symm
  | _ => simp [reportFor, sameRound]

/-- Settles O24. -/
theorem discardedFieldEndsWithoutASlot : Obligations.DiscardedFieldEndsWithoutASlot := by
  intro s m w rest h runs marker slot kind
  obtain ⟨u, hu⟩ : ∃ u, u = s.setLi { s.li with marker := none } := ⟨_, rfl⟩
  have ends : endField m (some (busLow9 w)) s = handOnEnd m.field none u := by
    rw [hu]
    simp [endField, slot]
  obtain ⟨fs, fa, pli, hx, cu⟩ := handOnEnd_parts m.field none u
  have lb : (handOnEnd m.field none u).lb =
      (builderEnd m.field none (consensusEnd m.field (analyseField m.field none u))).lb := rfl
  have inner : (consensusEnd m.field (analyseField m.field none u)).lb = s.lb := by simp [hu]
  have owns : (consensusEnd m.field (analyseField m.field none u)).cp = s.cp := by simp [hu]
  have fs' : (analyseField m.field none u).fs = s.fs := by
    obtain room | full := Nat.lt_or_ge u.fa.pending.length 16
    · exact (analyseField_discarded_room room _).1.trans (by rw [hu]; rfl)
    · exact (analyseField_discarded_refused full _).1.trans (by rw [hu]; rfl)
  refine ⟨_, exec_fieldEnd_marker h runs marker kind, ?_⟩
  rw [ends]
  refine ⟨by simp [hu], fs.trans fs', by simp [hu], by simp [hu], by simp [hu], fun room => ?_,
    fun full => ?_, fun joins joins_ either => ?_, fun isFull => ?_, fun reduced => ?_⟩
  · obtain ⟨-, pli', hx', -, names, result, -⟩ :=
      analyseField_discarded_room (s := u) (by rw [hu]; exact room) m.field
    rw [pli, hx, fa, pli', hx', names, result, hu]
    exact ⟨rfl, rfl, rfl, rfl⟩
  · obtain ⟨-, fa', pli', hx', -⟩ :=
      analyseField_discarded_refused (s := u) (by rw [hu]; exact full) m.field
    rw [fa, pli, hx, fa', pli', hx']
    refine ⟨by rw [hu]; rfl, fun quiet => ?_, fun member newer_ unheld room distinct => ?_⟩
    · rw [reportResult_quiet (by rw [hu]; exact quiet), hu]
      exact ⟨rfl, rfl⟩
    · subst hu
      obtain ⟨taken, accepted⟩ := reportResult_accepted (n := m.field) (figures := none)
        (s := s.setLi { s.li with marker := none }) member newer_ room (report_distinct distinct)
      exact ⟨(accepted unheld).1, taken⟩
  · have base : u.cu = s.cu ∧ u.fa = s.fa ∧ u.pli = s.pli := by rw [hu]; exact ⟨rfl, rfl, rfl⟩
    obtain ⟨cu_, fa_, pli_⟩ := base
    have count (quiet : joins = true ∨ (s.cu.membership ≠ .member ∨
        newerThan m.field s.cu.agreed.lastClosed = false) ∨ m.field ∉ s.cu.heldExpiries) :
        EndCounted m.field (joinQueued s) (!(joins || analysing m.field s.fa.pending)) s.cu
          (handOnEnd m.field none u).cu := by
      have counted := discarded_counted (f := m.field) (s := u) (by
        rw [cu_, fa_]
        by_cases room : s.fa.pending.length < 16
        · exact .inl room
        · have stays : joins ≠ true := by simp [joins_, room]
          exact .inr ⟨either.resolve_right stays, quiet.resolve_left stays⟩)
      rw [cu_, fa_, joinQueued_of_pli pli_, ← joins_] at counted
      exact counted
    have away {x : Membership} (at_ : s.cu.membership = x) (other : x ≠ .member) :=
      count (.inr (.inl (.inl (at_ ▸ other))))
    refine ⟨fun at_ => (away at_ nofun).listening at_, fun at_ => (away at_ nofun).joining at_,
      fun at_ => (away at_ nofun).asked at_, fun at_ => (away at_ nofun).isolated at_,
      fun at_ => (away at_ nofun).leaving at_,
      fun at_ closed => (count (.inr (.inl (.inr closed)))).runs at_ (.inl closed),
      fun at_ newer_ which fresh => (count (which.imp id .inr)).starts at_ newer_ fresh,
      fun at_ running => ?_⟩
    have joined : joins = true := by
      refine either.resolve_left fun fresh => ?_
      obtain ⟨x, hx, field⟩ := running
      exact fresh x hx field
    exact (count (.inl joined)).runs at_ (.inr running)
  · rw [lb, builderEnd_discarded (owns ▸ isFull), ← inner]
    rfl
  · rw [lb, builderEnd_reduced (owns ▸ reduced), inner]

end Sys2Proof.Machine
end

section
/-! SUPPORT. What an analysis reads and the figures it gives (R31, R85 to R87). -/

namespace Sys2Proof.Machine

/-! ## The start (R31, R85) -/

theorem isFill_false_iff (o : Ownership) : o.isFill = false ↔ ∀ r, o.rule ≠ some (r, .fill) := by
  unfold Ownership.isFill
  split
  · next r eq => simp [eq]
  · next other => simpa using other

/-- R85: what lets an analysis read at all. -/
def analysisReads (s : State) (a : Analysis) : Bool :=
  a.claim.isSome && newerThan a.field s.cu.agreed.lastClosed && !s.cp.ownership.isFill

theorem settleStart_unread {s : State} {a : Analysis} (h : analysisReads s a = false) :
    settleStart s a = .nodata := by
  refine if_pos ?_
  have refused : (!analysisReads s a) = true := by simp [h]
  rw [← refused]
  simp [analysisReads, notNewerThan]

theorem settleStart_reads {s : State} {a : Analysis} {i j k : Nat} (h : analysisReads s a = true)
    (held : a.held = { current := some i, previous := some j, beforePrevious := some k }) :
    settleStart s a =
      if slotParity s j = slotParity s i ∨ slotParity s k ≠ slotParity s i then .nodata
      else .reading i j k := by
  simp only [analysisReads, Bool.and_eq_true, Bool.not_eq_true', Option.isSome_iff_ne_none] at h
  obtain ⟨⟨claim, newer_⟩, fills⟩ := h
  simp [settleStart, claim, notNewerThan, newer_, fills, held]

theorem settleStart_missing {s : State} {a : Analysis}
    (h : ∀ i j k, a.held ≠ { current := some i, previous := some j, beforePrevious := some k }) :
    settleStart s a = .nodata := by
  obtain ⟨field, claim, ⟨current, previous, beforePrevious⟩, start⟩ := a
  unfold settleStart
  split
  · rfl
  · split
    · next i j k hi hj hk => exact absurd (by simp_all) (h i j k)
    · rfl

theorem settleStart_iff (s : State) (a : Analysis) (i j k : Nat) :
    settleStart s a = .reading i j k ↔
      analysisReads s a = true ∧
        a.held = { current := some i, previous := some j, beforePrevious := some k } ∧
        slotParity s j ≠ slotParity s i ∧ slotParity s k = slotParity s i := by
  constructor
  · intro h
    have reads : analysisReads s a = true := by
      by_contra unread
      rw [settleStart_unread (Bool.not_eq_true _ ▸ unread)] at h
      cases h
    obtain ⟨i', j', k', held⟩ : ∃ i' j' k',
        a.held = { current := some i', previous := some j', beforePrevious := some k' } := by
      by_contra missing
      rw [settleStart_missing fun i' j' k' eq => missing ⟨i', j', k', eq⟩] at h
      cases h
    rw [settleStart_reads reads held] at h
    split at h
    · cases h
    · next parities =>
      obtain ⟨rfl, rfl, rfl⟩ := AnalysisStart.reading.inj h
      rw [not_or, not_not] at parities
      exact ⟨reads, held, parities⟩
  · rintro ⟨reads, held, other, same⟩
    rw [settleStart_reads reads held, if_neg]
    rintro (eq | ne)
    · exact other eq
    · exact ne same

/-! ## One position (R86, R87) -/

/-- R86: what a position adds. -/
def positionAdds (q : PositionRead) : Figures :=
  match q.n, q.g with
  | some a, some b => positionFigures a b q.u q.d
  | _, _ => Figures.zero

theorem distance_eq_gap (a b : Nat) : distance a b = gapOf a b := by
  unfold distance gapOf
  split <;> omega

theorem average_eq_mean {u d : Option Nat} (h : (u.isSome || d.isSome) = true) :
    average u d = some (meanOf u d) := by
  cases u with
  | some u => cases d <;> rfl
  | none =>
    cases d with
    | some d => rfl
    | none => simp at h

theorem positionAdds_uncounted {q : PositionRead} (h : q.counted = false) :
    positionAdds q = Figures.zero := by
  obtain ⟨n, g, u, d⟩ := q
  cases n with
  | none => rfl
  | some n =>
    cases g with
    | none => rfl
    | some g =>
      cases u with
      | some u => simp [PositionRead.counted] at h
      | none =>
        cases d with
        | some d => simp [PositionRead.counted] at h
        | none => rfl

theorem still_iff (q : PositionRead) : q.still = true ↔ q.addD2 ≤ 32 :=
  decide_eq_true_iff

theorem positionAdds_counted {q : PositionRead} (h : q.counted = true) :
    positionAdds q =
      { d1 := q.addD1, d2 := q.addD2, comb := if q.tooth then 1 else 0
        stillTotal := if q.still then q.addD2 else 0, stillCount := if q.still then 1 else 0
        samples := 1 } := by
  obtain ⟨n, g, u, d⟩ := q
  simp only [PositionRead.counted, Bool.and_eq_true, Option.isSome_iff_exists] at h
  obtain ⟨⟨⟨n, rfl⟩, g, rfl⟩, one⟩ := h
  have mean := average_eq_mean one
  simp only [positionAdds, positionFigures, mean, PositionRead.addD1, PositionRead.addD2,
    PositionRead.tooth, still_iff, Option.getD_some, distance_eq_gap]
  cases u <;> cases d <;> rfl

/-! ## All positions (R86, R87) -/

theorem sumFigures_cons (f : Figures) (fs : List Figures) :
    sumFigures (f :: fs) = addFigures f (sumFigures fs) := rfl

theorem addFigures_zero_left (f : Figures) : addFigures Figures.zero f = f := by
  simp [addFigures, Figures.zero]

theorem foldl_zero (fs : List Figures) : fs.foldl addFigures Figures.zero = sumFigures fs := by
  rw [foldl_addFigures, addFigures_zero_left]

theorem sumFigures_append (fs gs : List Figures) :
    sumFigures (fs ++ gs) = addFigures (sumFigures fs) (sumFigures gs) := by
  simp [sumFigures, addFigures]

theorem sumFigures_flatMap {α : Type} (f : α → List Figures) (xs : List α) :
    sumFigures (xs.flatMap f) = sumFigures (xs.map fun x => sumFigures (f x)) := by
  induction xs with
  | nil => rfl
  | cons x xs ih => rw [List.flatMap_cons, sumFigures_append, ih, List.map_cons, sumFigures_cons]

/-- R86: what counted positions add up to. -/
def countedFigures (qs : List PositionRead) : Figures :=
  { d1 := (qs.map PositionRead.addD1).sum, d2 := (qs.map PositionRead.addD2).sum
    comb := (qs.filter PositionRead.tooth).length
    stillTotal := ((qs.filter PositionRead.still).map PositionRead.addD2).sum
    stillCount := (qs.filter PositionRead.still).length
    samples := qs.length }

theorem countedFigures_cons {q : PositionRead} (h : q.counted = true) (qs : List PositionRead) :
    countedFigures (q :: qs) = addFigures (positionAdds q) (countedFigures qs) := by
  rw [positionAdds_counted h]
  cases tooth : q.tooth <;> cases still : q.still <;>
    simp [countedFigures, addFigures, tooth, still, Nat.add_comm]

theorem sumFigures_positions (qs : List PositionRead) :
    sumFigures (qs.map positionAdds) = countedFigures (qs.filter PositionRead.counted) := by
  induction qs with
  | nil => rfl
  | cons q qs ih =>
    rw [List.map_cons, sumFigures_cons, ih]
    cases counted : q.counted with
    | true => rw [List.filter_cons_of_pos counted, countedFigures_cons counted]
    | false =>
      rw [List.filter_cons_of_neg (by rw [counted]; nofun), positionAdds_uncounted counted,
        addFigures_zero_left]

/-- R86: the positions of one frame line. -/
def linePositions (n g u d : List (Option Nat)) : List PositionRead :=
  (List.range 720).map fun x =>
    { n := n.getD x none, g := g.getD x none, u := u.getD x none, d := d.getD x none }

theorem lineFigures_eq {n : List (Option Nat)} (h : n.length = 720) (g u d : List (Option Nat)) :
    lineFigures n g u d = sumFigures ((linePositions n g u d).map positionAdds) := by
  rw [← foldl_zero, linePositions, List.foldl_map, List.foldl_map]
  unfold lineFigures
  rw [h]
  congr 1
  funext acc x
  cases hn : n.getD x none with
  | none => simp [positionAdds, addFigures, Figures.zero]
  | some a =>
    cases hg : g.getD x none with
    | none => simp [positionAdds, addFigures, Figures.zero]
    | some b => simp [positionAdds]

theorem analysisFigures_eq {s : State} {i j k : Nat} {p : Parity} (parity : slotParity s i = some p)
    (whole : ∀ y, (viewFrameLine s (asFound s i) y).y.length = 720) :
    analysisFigures s i j k = countedFigures ((positionsOf s p i j k).filter PositionRead.counted) := by
  rw [← sumFigures_positions]
  simp only [analysisFigures, parity, positionsOf, coreLinesOf]
  rw [List.map_flatMap, sumFigures_flatMap, ← foldl_zero, List.foldl_map]
  refine List.foldl_ext _ _ _ fun acc y _ => ?_
  rw [lineFigures_eq (whole y)]
  simp only [linePositions]

/-! ## The rule (R85 to R87) -/

theorem analysisResult_reading {s : State} {a : Analysis} {i j k : Nat}
    (h : a.start = some (.reading i j k)) :
    analysisResult s a =
      if (analysisFigures s i j k).samples = 0 then none else some (analysisFigures s i j k) := by
  simp [analysisResult, h]

theorem figuresRule : FiguresRule := by
  refine ⟨fun s a i j k => ?_, fun s a start => ?_, fun s a i j k p qs start parity whole positions => ?_⟩
  · rw [settleStart_iff, analysisReads, Bool.and_eq_true, Bool.and_eq_true, Bool.not_eq_true',
      isFill_false_iff, Option.isSome_iff_ne_none, and_assoc, and_assoc]
  · obtain none_ | nodata := start
    · simp [analysisResult, none_]
    · simp [analysisResult, nodata]
  · have figures : analysisFigures s i j k = countedFigures qs := by
      rw [positions]
      exact analysisFigures_eq parity whole
    rw [analysisResult_reading start, figures]
    refine ⟨fun empty => ?_, fun some_ => ?_⟩
    · rw [empty]
      rfl
    · have samples : (countedFigures qs).samples ≠ 0 := by simpa [countedFigures] using some_
      rw [if_neg samples]
      rfl

end Sys2Proof.Machine
end

section
/-! SUPPORT. The hand-over of the analysis at the head of the list (R31, R84, R88, R90, R95). -/

namespace Sys2Proof.Machine

theorem exec_analysisHandover {s : State} (h : Live s) :
    exec .analysisHandover s = .next (handOverHead s) :=
  live_next_of_pending h (by simp)

/-- R84: the state whose head analysis has left the list. -/
def headRemoved (a : Analysis) (rest : List Analysis) (s : State) : State :=
  s.setFa
    { s.fa with pending := rest, accumulators := (analysisResult s a).getD Figures.zero }

theorem handOverHead_cons {s : State} {a : Analysis} {rest : List Analysis}
    (h : s.fa.pending = a :: rest) :
    handOverHead s =
      beginHead (handOver a.field (analysisResult s a) a.claim (headRemoved a rest s)) := by
  simp [handOverHead, h, headRemoved]

/-- R84: the next analysis is begun on the slots held for it. -/
theorem beginHead_begins {s : State} {b : Analysis} {more : List Analysis}
    (h : s.fa.pending = b :: more) (new : b.start = none) :
    (beginHead s).fa =
      { s.fa with
        pending := { b with start := some (settleStart (beginHead s) b) } :: more
        accumulators := Figures.zero } := by
  have begins : beginHead s =
      s.setFa
        { s.fa with
          pending := { b with start := some (settleStart s b) } :: more
          accumulators := Figures.zero } := by
    simp [beginHead, h, new]
  rw [begins]
  rfl

theorem slotAt_of_fs {s t : State} (h : t.fs = s.fs) (j : Nat) : slotAt t j = slotAt s j := by
  simp [slotAt, h]

theorem dropAnalysis_occupant (claim : Option Word16) (s : State) (j : Nat) :
    (slotAt (dropAnalysis claim s) j).occupant = (slotAt s j).occupant := by
  cases claim with
  | none => rfl
  | some c => exact dropHolder_occupant (.analysis c) s j

/-- Settles O28. -/
theorem analysisHandoverReportsAndReleases : Obligations.AnalysisHandoverReportsAndReleases := by
  refine ⟨figuresRule, fun s h none_ => ?_, fun s a rest q h head queued => ?_⟩
  · rw [exec_analysisHandover h]
    simp [handOverHead, none_]
  obtain ⟨u, hu⟩ : ∃ u, u = headRemoved a rest s := ⟨_, rfl⟩
  obtain ⟨v, hv⟩ : ∃ v, v = handOver a.field (analysisResult s a) a.claim u := ⟨_, rfl⟩
  have next : handOverHead s = beginHead v := by rw [handOverHead_cons head, hv, hu]
  have parts := handOver_parts a.field (analysisResult s a) a.claim u
  rw [← hv] at parts
  obtain ⟨pli, hx, cu, fa, fs⟩ := parts
  have report : reportFor a.field (analysisResult s a) u = q := by rw [queued, hu]; rfl
  have base : u.pli = s.pli ∧ u.hx = s.hx ∧ u.cu = s.cu ∧ u.fs = s.fs := by
    rw [hu]; exact ⟨rfl, rfl, rfl, rfl⟩
  obtain ⟨pli_, hx_, cu_, fs_⟩ := base
  have pending : v.fa.pending = rest := by rw [fa, hu]; rfl
  obtain ⟨keys, result⟩ := beginHead_pending v
  have t_fs : (beginHead v).fs = v.fs := by simp
  have t_cu : (beginHead v).cu = (markHanded a.field (reportResult a.field (analysisResult s a) u)).cu := by
    simpa using cu
  have t_pli : (beginHead v).pli = (reportResult a.field (analysisResult s a) u).pli := by simpa using pli
  have t_hx : (beginHead v).hx = (reportResult a.field (analysisResult s a) u).hx := by simpa using hx
  refine ⟨_, exec_analysisHandover h, ?_⟩
  rw [next, t_pli, t_hx]
  refine ⟨by rw [result, fa], ?_, fun b more eq new => ?_, fun c claim sl hs => ?_, fun j => ?_, ?_,
    by simp [hv, hu, headRemoved], by simp [hv, hu, headRemoved], by simp [hv, hu, headRemoved],
    by simp [hv, hu, headRemoved], by simp [hv, hu, headRemoved], by simp [hv, hu, headRemoved],
    by simp [hv, hu, headRemoved], fun quiet => ?_, fun member newer_ => ⟨fun room distinct => ?_,
      fun refused => ?_⟩⟩
  · rw [names_of_keys keys, pending]
  · have begun := beginHead_begins (pending.trans eq) new
    rw [begun]
    exact ⟨rfl, rfl⟩
  · rw [t_fs, fs, claim] at hs
    exact dropHolder_mem hs
  · rw [slotAt_of_fs (t_fs.trans fs), dropAnalysis_occupant, slotAt_of_fs fs_]
  · rw [t_cu]
    exact markHanded_marks
  · rw [reportResult_quiet (by rw [cu_]; exact quiet)]
    exact ⟨pli_, hx_⟩
  · have new : u.pli.urgent.any (sameRound (reportFor a.field (analysisResult s a) u)) = false := by
      rw [pli_, report, List.any_eq_false]
      intro x hx
      rw [distinct x hx]
      nofun
    obtain ⟨taken, unheld⟩ := reportResult_accepted (n := a.field) (cu_ ▸ member) (cu_ ▸ newer_)
      (pli_ ▸ room) new
    refine ⟨?_, fun free => ?_, fun held fits absent => ?_⟩
    · rw [taken, takenHalo, hx_]
    · obtain ⟨line, -⟩ := unheld (cu_ ▸ free)
      rw [line, report, pli_]
    · obtain ⟨line, gone⟩ := reportResult_closes (n := a.field) (cu_ ▸ member) (cu_ ▸ newer_)
        (pli_ ▸ fits) new (cu_ ▸ held) (pli_ ▸ absent)
      refine ⟨by rw [line, report, pli_], ?_⟩
      rw [t_cu]
      exact gone
  · have again : 8 ≤ u.pli.urgent.length ∨
        u.pli.urgent.any (sameRound (reportFor a.field (analysisResult s a) u)) = true := by
      rw [pli_, report, List.any_eq_true]
      exact refused
    obtain ⟨stands, unheld⟩ := reportResult_refused (n := a.field) (cu_ ▸ member) (cu_ ▸ newer_) again
    refine ⟨stands.trans hx_, fun free => (unheld (cu_ ▸ free)).trans pli_⟩

end Sys2Proof.Machine
end

section
/-! SUPPORT. The Field Store's holders and look-ups (R26, R30, R31). -/

namespace Sys2Proof.Machine

/-! ## Slots by index -/

theorem slotAt_set {s : State} {i : Nat} (h : i < s.fs.slots.length) (v : Slot) (j : Nat) :
    slotAt (s.setSlot i v) j = if j = i then v else slotAt s j := by
  simp only [slotAt, setSlot_slots, List.getD_eq_getElem?_getD, List.getElem?_set]
  by_cases same : i = j
  · simp [same, same ▸ h]
  · simp [same, Ne.symm same]

theorem slotAt_outside {s : State} {i : Nat} (h : ¬ i < s.fs.slots.length) (v : Slot) (j : Nat) :
    slotAt (s.setSlot i v) j = slotAt s j := by
  simp only [slotAt, setSlot_slots, List.set_eq_of_length_le (Nat.not_lt.mp h)]

/-- A slot written keeps what it had, when the new value has it too. -/
theorem slotAt_set_same {α : Type} (part : Slot → α) {s : State} {i : Nat} {v : Slot}
    (h : part v = part (slotAt s i)) (j : Nat) : part (slotAt (s.setSlot i v) j) = part (slotAt s j) := by
  by_cases inside : i < s.fs.slots.length
  · rw [slotAt_set inside]
    by_cases same : j = i
    · rw [if_pos same, h, same]
    · rw [if_neg same]
  · rw [slotAt_outside inside]

/-! ## Adding a holder (R31) -/

theorem addHolder_occupant (h : Holder) (s : State) (i j : Nat) :
    (slotAt (addHolder h s i) j).occupant = (slotAt s j).occupant := by
  unfold addHolder
  split
  · rfl
  · refine slotAt_set_same Slot.occupant ?_ j
    rfl

theorem addHolder_claimCounter (h : Holder) (s : State) (i : Nat) :
    (addHolder h s i).fs.claimCounter = s.fs.claimCounter := by
  unfold addHolder
  split <;> rfl

theorem addHolder_keeps_holder {h g : Holder} {s : State} {i j : Nat} (held : g ∈ (slotAt s j).holders) :
    g ∈ (slotAt (addHolder h s i) j).holders := by
  unfold addHolder
  split
  · exact held
  · by_cases inside : i < s.fs.slots.length
    · rw [slotAt_set inside]
      by_cases same : j = i
      · rw [if_pos same]
        exact List.mem_append_left _ (same ▸ held)
      · rwa [if_neg same]
    · rwa [slotAt_outside inside]

theorem addHolder_holds {h : Holder} {s : State} {i : Nat} (inside : i < s.fs.slots.length) :
    h ∈ (slotAt (addHolder h s i) i).holders := by
  unfold addHolder
  split
  · next held => simpa using held
  · simp [slotAt_set inside]

/-! ## The slot of a field (R30) -/

theorem newestClaim_mem {s : State} {l : List Nat} {j : Nat} (h : newestClaim s l = some j) : j ∈ l := by
  induction l with
  | nil => cases h
  | cons i rest ih =>
    unfold newestClaim at h
    split at h
    · cases h
      exact List.mem_cons_self
    · next k eq =>
      split at h
      · cases h
        exact List.mem_cons_self
      · exact List.mem_cons_of_mem i (ih (eq.trans h))

theorem lookupField_inside {s : State} {f : FieldNo} {j : Nat} (h : lookupField s f = some j) :
    j < s.fs.slots.length :=
  List.mem_range.mp (List.mem_of_mem_filter (newestClaim_mem h))

/-- Two states whose slots hold the same fields, whoever holds the slots. -/
structure SameFields (s t : State) : Prop where
  length : t.fs.slots.length = s.fs.slots.length
  counter : t.fs.claimCounter = s.fs.claimCounter
  occupant : ∀ j, (slotAt t j).occupant = (slotAt s j).occupant

theorem SameFields.refl (s : State) : SameFields s s := ⟨rfl, rfl, fun _ => rfl⟩

theorem SameFields.trans {s t u : State} (h : SameFields s t) (k : SameFields t u) : SameFields s u :=
  ⟨k.length.trans h.length, k.counter.trans h.counter, fun j => (k.occupant j).trans (h.occupant j)⟩

theorem sameFields_of_fs {s t : State} (h : t.fs = s.fs) : SameFields s t :=
  ⟨by rw [h], by rw [h], fun j => by rw [slotAt_of_fs h]⟩

theorem SameFields.newestClaim {s t : State} (h : SameFields s t) (l : List Nat) :
    newestClaim t l = newestClaim s l := by
  have age (j : Nat) : claimAge t (slotClaim (slotAt t j)) = claimAge s (slotClaim (slotAt s j)) := by
    simp only [claimAge, slotClaim, h.counter, h.occupant]
  induction l with
  | nil => rfl
  | cons i rest ih => simp only [Machine.newestClaim, ih, age]

theorem SameFields.lookup {s t : State} (h : SameFields s t) (f : FieldNo) :
    lookupField t f = lookupField s f := by
  have carries (j : Nat) : slotCarries f (slotAt t j) = slotCarries f (slotAt s j) := by
    simp only [slotCarries, h.occupant]
  simp only [lookupField, slotIndices, h.length, carries, h.newestClaim]

theorem addHolder_sameFields (h : Holder) (s : State) (i : Nat) : SameFields s (addHolder h s i) :=
  ⟨by simp, addHolder_claimCounter h s i, addHolder_occupant h s i⟩

/-! ## Holding the slots of fields (R31) -/

theorem addHolders_sameFields (h : Holder) (is : List Nat) :
    ∀ s, SameFields s (is.foldl (addHolder h) s) := by
  induction is with
  | nil => exact SameFields.refl
  | cons i rest ih => exact fun s => (addHolder_sameFields h s i).trans (ih _)

theorem addHolders_keep_holder {h g : Holder} {j : Nat} (is : List Nat) :
    ∀ s, g ∈ (slotAt s j).holders → g ∈ (slotAt (is.foldl (addHolder h) s) j).holders := by
  induction is with
  | nil => exact fun _ held => held
  | cons i rest ih => exact fun s held => ih _ (addHolder_keeps_holder held)

theorem addHolders_hold {h : Holder} {j : Nat} (is : List Nat) :
    ∀ s, j < s.fs.slots.length → j ∈ is → h ∈ (slotAt (is.foldl (addHolder h) s) j).holders := by
  induction is with
  | nil => exact fun _ _ none_ => absurd none_ List.not_mem_nil
  | cons i rest ih =>
    intro s inside mem
    obtain rfl | later := List.mem_cons.mp mem
    · exact addHolders_keep_holder rest _ (addHolder_holds inside)
    · exact ih _ (by simpa using inside) later

theorem holdFields_sameFields (h : Holder) (s : State) (fields : List FieldNo) :
    SameFields s (holdFields h s fields) := addHolders_sameFields h _ s

theorem holdFields_keeps_holder {h g : Holder} {s : State} {j : Nat} (held : g ∈ (slotAt s j).holders)
    (fields : List FieldNo) : g ∈ (slotAt (holdFields h s fields) j).holders :=
  addHolders_keep_holder _ s held

theorem holdFields_holds {h : Holder} {s : State} {fields : List FieldNo} {f : FieldNo} {j : Nat}
    (mem : f ∈ fields) (found : lookupField s f = some j) :
    h ∈ (slotAt (holdFields h s fields) j).holders :=
  addHolders_hold _ s (lookupField_inside found) (List.mem_filterMap.mpr ⟨f, mem, found⟩)

end Sys2Proof.Machine
end

section
/-! SUPPORT. The end of an open field with a slot (R20, R23, R24, R31, R131). -/

namespace Sys2Proof.Machine

/-! ## The slot closes (R23) -/

/-- R23: the occupant of a slot whose field has ended. -/
def closedOccupant (declared : Option Nat) (o : Occupant) : Occupant :=
  { o with closed := true, declared := declared, table := o.table.map loseEntry }

/-- What slot i holds. -/
def Occupies (s : State) (i : Nat) (o : Occupant) : Prop :=
  i < s.fs.slots.length ∧ (slotAt s i).occupant = some o

theorem occupies_of_bind {s : State} {i : Nat} {o : Occupant}
    (h : ((s.fs.slots[i]?).bind (·.occupant)) = some o) : Occupies s i o := by
  obtain ⟨sl, at_, occupied⟩ := Option.bind_eq_some_iff.mp h
  exact ⟨(List.getElem?_eq_some_iff.mp at_).1, by rw [slotAt_of_get at_, occupied]⟩

theorem slotAt_closeSlot {s : State} {i : Nat} {o : Occupant} (h : Occupies s i o)
    (declared : Option Nat) (j : Nat) :
    slotAt (closeSlot i declared s) j =
      if j = i then { slotAt s i with occupant := some (closedOccupant declared o) }
      else slotAt s j := by
  obtain ⟨inside, occupied⟩ := h
  have closed := slotAt_set inside
    { slotAt s i with occupant := (slotAt s i).occupant.map (closedOccupant declared) } j
  rw [occupied] at closed
  refine Eq.trans ?_ closed
  simp only [closeSlot, State.updateOccupant, occupied]
  rfl

theorem closeSlot_cp {s : State} {i : Nat} {o : Occupant} (h : Occupies s i o) (declared : Option Nat) :
    (closeSlot i declared s).cp =
      { s.cp with totals := countLost (countState .absent o.table) s.cp.totals } := by
  obtain ⟨-, occupied⟩ := h
  unfold closeSlot
  rw [occupied]
  rfl

theorem closeSlot_holders {s : State} {i : Nat} {o : Occupant} (h : Occupies s i o)
    (declared : Option Nat) (j : Nat) :
    (slotAt (closeSlot i declared s) j).holders = (slotAt s j).holders := by
  rw [slotAt_closeSlot h]
  split
  · next same => rw [same]
  · rfl

/-! ## Its analysis joins the list (R31, R84) -/

/-- R31: the state in which the analysis of field f holds its slots. -/
def heldForAnalysis (f : FieldNo) (claim : Word16) (s : State) : State :=
  holdFields (.analysis claim) s [f, f - 1, f - 2]

theorem analyseField_joins {s : State} {i : Nat} {claim : Word16} (f : FieldNo)
    (claimed : slotClaim (slotAt s i) = claim) (room : s.fa.pending.length < 16) :
    analyseField f (some i) s = joinAnalyses f (some claim) (heldForAnalysis f claim s) := by
  have held : analysisClaim s (some i) = some claim := by simp [analysisClaim, claimed]
  have fits : ¬ Config.analysisCapacity ≤ (heldForAnalysis f claim s).fa.pending.length := by
    simpa [heldForAnalysis, Config.analysisCapacity] using room
  unfold analyseField
  rw [held]
  exact if_neg fits

/-- R31, R84: what the analysis of a field with a slot adds. -/
structure AnalysisJoined (f : FieldNo) (claim : Word16) (s t : State) : Prop where
  fields : SameFields s t
  kept : ∀ j h, h ∈ (slotAt s j).holders → h ∈ (slotAt t j).holders
  holds : ∀ g j, (g = f ∨ g = f - 1 ∨ g = f - 2) → lookupField t g = some j →
    Holder.analysis claim ∈ (slotAt t j).holders
  keys : t.fa.pending.map analysisKey =
    s.fa.pending.map analysisKey ++
      [(f, some claim,
        { current := lookupField t f, previous := lookupField t (f - 1)
          beforePrevious := lookupField t (f - 2) })]
  result : t.fa.lastResult = s.fa.lastResult
  cu : t.cu = s.cu
  pli : t.pli = s.pli

theorem heldForAnalysis_joined (f : FieldNo) (claim : Word16) (s : State) :
    AnalysisJoined f claim s (joinAnalyses f (some claim) (heldForAnalysis f claim s)) := by
  obtain ⟨u, hu⟩ : ∃ u, u = heldForAnalysis f claim s := ⟨_, rfl⟩
  have held : SameFields s u := by
    rw [hu]
    exact holdFields_sameFields _ _ _
  obtain ⟨keys, result⟩ := joinAnalyses_keys f (some claim) u
  have fs : (joinAnalyses f (some claim) u).fs = u.fs := by simp
  have same : SameFields u (joinAnalyses f (some claim) u) := sameFields_of_fs fs
  have fa : u.fa = s.fa := by simp [hu, heldForAnalysis]
  have slots (j : Nat) : slotAt (joinAnalyses f (some claim) u) j = slotAt u j := slotAt_of_fs fs j
  rw [← hu]
  refine ⟨held.trans same, fun j h mem => ?_, fun g j which found => ?_, ?_, by rw [result, fa],
    by simp [hu, heldForAnalysis], by simp [hu, heldForAnalysis]⟩
  · rw [slots, hu]
    exact holdFields_keeps_holder mem _
  · rw [(held.trans same).lookup] at found
    rw [slots, hu]
    exact holdFields_holds (by simpa using which) found
  · rw [keys, fa, same.lookup, same.lookup, same.lookup]
    rfl

/-! ## The frame joins the list (R131) -/

theorem dropOldest_short {α : Type} {n : Nat} {xs : List α} (h : xs.length ≤ n) :
    dropOldest n xs = xs := by
  simp [dropOldest, Nat.sub_eq_zero_of_le h]

theorem insertByField_length {α : Type} (key : α → FieldNo) (a : α) (l : List α) :
    (insertByField key a l).length = l.length + 1 := by
  induction l with
  | nil => rfl
  | cons x xs ih =>
    unfold insertByField
    split
    · rfl
    · rw [List.length_cons, ih, List.length_cons]

theorem builderEnd_listed {s : State} {f : FieldNo} {i : Nat} (isFull : s.cp.ownership.isFull = true)
    (held : fieldHeld s f = true) (unbegun : newerThan f s.lb.lastBegun = true)
    (unasked : newerThan f s.lb.lastRequested = true) (room : s.lb.frames.length < 3) :
    ∃ e ∈ (builderEnd f (some i) s).lb.frames, e.frame = f := by
  cases listed : s.lb.frames.any fun e => e.frame == f with
  | true =>
    obtain ⟨e, mem, same⟩ := List.any_eq_true.mp listed
    refine ⟨e, ?_, by simpa using same⟩
    have stays : joinsList s f (some i) = false := by simp [joinsList, listed]
    simpa [builderEnd, isFull, stays] using mem
  | false =>
    have joins : joinsList s f (some i) = true := by
      simp [joinsList, held, unbegun, unasked, listed]
    have short : (insertByField FrameEntry.frame { frame := f, overtaken := false } s.lb.frames).length ≤ 3 := by
      rw [insertByField_length]
      exact room
    refine ⟨{ frame := f, overtaken := false }, ?_, rfl⟩
    simp [builderEnd, isFull, joins, dropOldest_short short, mem_insertByField]

/-! ## The obligation -/

theorem fieldBegin_ends_first {s : State} {m : OpenField} {w f : Word16} {rest : List Word16}
    (h : Live s) (runs : s.cu.membership.running = true) (marker : s.li.marker = some m)
    (kind : busKind w = 2) (closed : (endField m none s).li.marker = none) :
    exec (.fieldBegin (w :: f :: rest)) s = exec (.fieldBegin (w :: f :: rest)) (endField m none s) := by
  have live_ : Live (endField m none s) := by simpa [Live] using h
  have runs' : (endField m none s).cu.membership.running = true := by simpa using runs
  rw [exec_fieldBegin h, exec_fieldBegin live_, fieldBeginEffect_run kind runs,
    fieldBeginEffect_run kind runs']
  simp [fieldBeginStep, implicitEnd, marker, closed]

theorem lookup_of_sameFs {s t : State} (h : t.fs = s.fs) (f : FieldNo) :
    lookupField t f = lookupField s f := (sameFields_of_fs h).lookup f

/-- Settles O23. -/
theorem fieldEndClosesTheOpenField : Obligations.FieldEndClosesTheOpenField := by
  intro s t m i o d w h runs marker slot occupied room ht
  have occupies := occupies_of_bind occupied
  obtain ⟨c, hc⟩ : ∃ c, c = closeSlot i d s := ⟨_, rfl⟩
  obtain ⟨u, hu⟩ : ∃ u, u = c.setLi { c.li with marker := none } := ⟨_, rfl⟩
  obtain ⟨v, hv⟩ : ∃ v, v = analyseField m.field (some i) u := ⟨_, rfl⟩
  have ends : t = handOnEnd m.field (some i) u := by
    rw [ht, hu, hc]
    simp only [endField, slot]
  have slots (j : Nat) : slotAt u j = slotAt (closeSlot i d s) j := by rw [hu, hc]; rfl
  have claim : slotClaim (slotAt u i) = o.claim := by
    rw [slots, slotAt_closeSlot occupies, if_pos rfl]
    rfl
  have fits : u.fa.pending.length < 16 := by simpa [hu, hc] using room
  have joined : AnalysisJoined m.field o.claim u v := by
    rw [hv, analyseField_joins m.field claim fits]
    exact heldForAnalysis_joined m.field o.claim u
  have parts := handOnEnd_parts m.field (some i) u
  rw [← ends, ← hv] at parts
  obtain ⟨fs, fa, pli, hx, cu⟩ := parts
  have same := sameFields_of_fs fs
  have ucu : u.cu = s.cu := by simp [hu, hc]
  have ufa : u.fa = s.fa := by simp [hu, hc]
  have upli : u.pli = s.pli := by simp [hu, hc]
  have ulb : (consensusEnd m.field v).lb = s.lb := by simp [hv, hu, hc]
  have uown : (consensusEnd m.field v).cp.ownership = s.cp.ownership := by simp [hv, hu, hc]
  have lb : t.lb = (builderEnd m.field (some i) (consensusEnd m.field v)).lb := by rw [ends, hv]; rfl
  have li : t.li = { s.li with marker := none } := by
    rw [ends]
    simp [hu, hc]
  have names : t.fa.pending.map (fun a => (a.field, a.claim)) =
      s.fa.pending.map (fun a => (a.field, a.claim)) ++ [(m.field, some o.claim)] := by
    have keys := congrArg (List.map fun k => (k.1, k.2.1)) joined.keys
    rw [fa, ← ufa]
    simpa [analysisKey, Function.comp_def] using keys
  have listed : analysing m.field v.fa.pending = true := by
    have any := congrArg (fun ks => ks.any fun k => k.1 == m.field) (fa ▸ names)
    simpa [analysing, Function.comp_def] using any
  have counted := consensusEnd_counted m.field v
  rw [listed, joined.cu, ucu, joinQueued_of_pli (joined.pli.trans upli), ← cu] at counted
  refine ⟨fun rest kind declared => ?_, fun f rest kind undeclared => ?_, li, ?_, fun j other => ?_,
    fun j g mem => ?_, fun g j which found => ?_, ?_, names, ?_, ?_, counted.listening,
    counted.joining, counted.asked, counted.isolated, counted.leaving, counted.starts, counted.runs,
    fun isFull => ⟨?_, fun held unbegun unasked short => ?_⟩, fun reduced => ?_, ?_, ?_, ?_, ?_⟩
  · rw [exec_fieldEnd_marker h runs marker kind, ht, declared]
    rfl
  · have closed : (endField m none s).li.marker = none := by rw [← undeclared, ← ht, li]
    rw [ht, undeclared]
    exact fieldBegin_ends_first h runs marker kind closed
  · rw [same.occupant, joined.fields.occupant, slots, slotAt_closeSlot occupies, if_pos rfl]
    rfl
  · rw [same.occupant, joined.fields.occupant, slots, slotAt_closeSlot occupies, if_neg other]
  · rw [slotAt_of_fs fs]
    refine joined.kept j g ?_
    rwa [slots, closeSlot_holders occupies]
  · rw [slotAt_of_fs fs]
    exact joined.holds g j which (by rwa [lookup_of_sameFs fs] at found)
  · rw [fa, joined.result, ufa]
  · have last := congrArg (fun ks => ks.getLast?.map fun k => k.2.2) joined.keys
    rw [fa, lookup_of_sameFs fs, lookup_of_sameFs fs, lookup_of_sameFs fs]
    simpa [analysisKey, Function.comp_def] using last
  · have cp : t.cp = (closeSlot i d s).cp := by simp [ends, hu, hc]
    rw [cp, closeSlot_cp occupies]
    rfl
  · rw [lb]
    exact builderEnd_lastEnded (uown ▸ isFull) _ _
  · rw [lb]
    have held' : fieldHeld (consensusEnd m.field v) m.field = true := by
      rw [fieldHeld, lookup_of_sameFs (by simp : (consensusEnd m.field v).fs = v.fs),
        ← lookup_of_sameFs fs]
      exact held
    exact builderEnd_listed (uown ▸ isFull) held' (ulb ▸ unbegun) (ulb ▸ unasked) (ulb ▸ short)
  · rw [lb, builderEnd_reduced (uown ▸ reduced), ulb]
  · rw [pli, joined.pli, upli]
  · rw [hx, hv, analyseField_joins m.field claim fits]
    simp [heldForAnalysis, hu, hc]
  · simp [ends, hu, hc]
  · simp [ends, hu, hc]

end Sys2Proof.Machine
end

section
/-! SUPPORT. The start of a build: the rules of its pairing and bank, its record of the Scaler and
its sides (R121, R122, R158, R161, R162, R168, R169). -/

namespace Sys2Proof.Machine

/-! ## Pairings (R121, R122) -/

theorem pairingRule : PairingRule := by
  refine ⟨rfl, fun _ _ _ => rfl, rfl, rfl, fun r k p film => ?_⟩
  have pairs : pairingOf r = filmPairing k p := by
    obtain rfl | rfl := film <;> rfl
  rw [pairs]
  refine ⟨?_, ?_, ?_, ?_⟩
  · rintro rfl rfl
    rfl
  · rintro rfl rfl
    rfl
  · rintro rfl (rfl | rfl | rfl) <;> rfl
  · rintro rfl (rfl | rfl) <;> rfl

theorem provisionalPairing_near {a : AgreedState} {n l : FieldNo} (h : a.lastClosed = some l)
    (near : 1 ≤ (n - l).toNat ∧ (n - l).toNat ≤ 4) :
    provisionalPairing a n = pairingOf (Nat.iterate noneStep (n - l).toNat a.cadence) := by
  rw [← noneSteps_eq_iterate]
  unfold provisionalPairing
  rw [h]
  exact if_pos near

theorem provisionalPairing_far {a : AgreedState} {n l : FieldNo} (h : a.lastClosed = some l)
    (far : ¬ (1 ≤ (n - l).toNat ∧ (n - l).toNat ≤ 4)) : provisionalPairing a n = .ma := by
  unfold provisionalPairing
  rw [h]
  exact if_neg far

theorem provisionalRule : ProvisionalRule := by
  refine fun a n => ⟨fun none_ => by simp [provisionalPairing, none_], fun l some_ => ⟨fun either => ?_,
    fun after near => ?_⟩⟩
  · refine provisionalPairing_far some_ fun both => ?_
    obtain ⟨low, high⟩ := both
    obtain before | beyond := either
    · have after : newer n l = true := by
        simp only [newer, Bool.and_eq_true, decide_eq_true_eq]
        exact ⟨low, by omega⟩
      simp [after] at before
    · omega
  · simp only [newer, Bool.and_eq_true, decide_eq_true_eq] at after
    exact provisionalPairing_near some_ ⟨after.1, near⟩

/-! ## Banks (R169) -/

theorem reaches_iff (n target : FieldNo) : (n = target || newer n target) = true ↔ Reaches n target := by
  simp [Reaches]

theorem chosenBankRule : ChosenBankRule := by
  refine fun s n => ⟨fun p pending reached => ?_, fun unreached => ⟨fun o outgoing newer_ => ?_,
    fun passed => ?_⟩⟩
  · have hit := (reaches_iff n p.target).mpr reached
    simp only [chosenBank, pending, hit, if_true]
  all_goals
    have waits : ∀ p, s.cu.agreed.bank.pending = some p → ¬ (n = p.target || newer n p.target) = true :=
      fun p pending hit => unreached p pending ((reaches_iff n p.target).mp hit)
    cases pending : s.cu.agreed.bank.pending
  · simp [chosenBank, pending, outgoing, newer_]
  · next p => simp only [chosenBank, pending, if_neg (waits p pending), outgoing, newer_, if_true]
  · cases outgoing : s.sc.outgoing with
    | none => simp [chosenBank, pending, outgoing]
    | some o => simp [chosenBank, pending, outgoing, passed o outgoing]
  · next p =>
    cases outgoing : s.sc.outgoing with
    | none => simp only [chosenBank, pending, if_neg (waits p pending), outgoing]
    | some o =>
      simp only [chosenBank, pending, if_neg (waits p pending), outgoing, passed o outgoing]
      rfl

/-! ## The Scaler's record (R168, R169) -/

/-- R169: the scaling record of the build of frame n. -/
structure ScalingBegun (s : State) (n : FieldNo) (agreed : Bool) (r : ScalingRecord) : Prop where
  frame : r.frame = n
  agreed_ : r.agreed = agreed
  phase : r.phase = .lines
  rows : r.rows = 0
  ready : (bankOf s (chosenBank s n)).state = .ready →
    r.bank = some (chosenBank s n) ∧ r.digest = some (bankOf s (chosenBank s n)).digest
  unready : (bankOf s (chosenBank s n)).state ≠ .ready → r.bank = none ∧ r.digest = none
  edges : ∀ side, edgeOf r side =
    if s.cp.ownership.seam side = .pictureEdge ∨ edgeRows s.cp.config s.cp.ownership side = [] then
      .none
    else .waiting

theorem startEdge_eq (s : State) (side : Side) :
    startEdge s side =
      if s.cp.ownership.seam side = .pictureEdge ∨ edgeRows s.cp.config s.cp.ownership side = [] then
        .none
      else .waiting := by
  simp [startEdge]

theorem startScaling_begun (n : FieldNo) (agreed : Bool) (s : State) :
    ∃ r, (startScaling n agreed s).sc = { s.sc with scaling := some r, outgoing := outgoingAfter s n } ∧
      ScalingBegun s n agreed r := by
  refine ⟨_, rfl, rfl, rfl, rfl, rfl, fun ready => ?_, fun unready => ?_, fun side => ?_⟩
  · simp [bankReady, ready]
  · simp [bankReady, unready]
  · rw [← startEdge_eq]
    cases side <;> rfl

/-- The start of the scaling reads the Scaler, the Consensus Unit and the configuration alone. -/
theorem startScaling_sc_of {s u : State} (sc : u.sc = s.sc) (cu : u.cu = s.cu) (cp : u.cp = s.cp)
    (n : FieldNo) (agreed : Bool) : (startScaling n agreed u).sc = (startScaling n agreed s).sc := by
  have bank (b : BankName) : bankOf u b = bankOf s b := by cases b <;> simp [bankOf, sc]
  have chosen : chosenBank u n = chosenBank s n := by simp only [chosenBank, sc, cu]
  have ready (b : BankName) : bankReady u b = bankReady s b := by simp only [bankReady, bank]
  have edge (side : Side) : startEdge u side = startEdge s side := by simp only [startEdge, cp]
  have outgoing : outgoingAfter u n = outgoingAfter s n := by simp only [outgoingAfter, sc]
  simp only [startScaling, State.setSc, ready, bank, chosen, edge, outgoing, sc]

theorem outgoingAfter_none {s : State} (h : s.sc.outgoing = none) (n : FieldNo) :
    outgoingAfter s n = none := by
  simp [outgoingAfter, h]

theorem outgoingAfter_some {s : State} {o : Outgoing} (h : s.sc.outgoing = some o) (n : FieldNo) :
    (Reaches n o.switchFrame → outgoingAfter s n = none) ∧
      (¬ Reaches n o.switchFrame → outgoingAfter s n = some o) := by
  rw [← reaches_iff]
  simp only [outgoingAfter, h]
  exact ⟨fun reached => if_pos reached, fun unreached => if_neg unreached⟩

/-! ## Halo Exchange (R158, R161, R162) -/

theorem markInUse_slots (n : FieldNo) (d : Direction) :
    (markInUse n (releaseSlots (fun _ f => newer n f) d)).slots =
      d.slots.map fun sl =>
        if sl.frame.any (fun f => newer n f) = true then emptied sl
        else if sl.frame = some n then { sl with state := .inUse } else sl := by
  obtain ⟨-, -, slots⟩ := releaseSlots_does (fun _ f => newer n f) d
  simp only [markInUse, slots, List.map_map]
  refine List.map_congr_left fun sl _ => ?_
  rw [Function.comp_apply, slotPicked_eq]
  by_cases older : sl.frame.any (fun f => newer n f) = true
  · rw [if_pos older, if_pos older]
    exact if_neg nofun
  · rw [if_neg older, if_neg older]

theorem slotsBegun (n : FieldNo) (d : Direction) :
    SlotsBegun n d (markInUse n (releaseSlots (fun _ f => newer n f) d)) := by
  obtain ⟨only, letGo, -⟩ := releaseSlots_does (fun _ f => newer n f) d
  refine ⟨?_, letGo, markInUse_slots n d⟩
  rw [OnlySlots] at only ⊢
  simp only [markInUse]
  rw [only]

theorem dirOf_startHalo (n : FieldNo) (agreed : Bool) (s : State) (side : Side) :
    dirOf (startHalo n agreed s) side = markInUse n (releaseSlots (fun _ f => newer n f) (dirOf s side)) := by
  cases side <;> rfl

theorem sideRecord_startHalo (n : FieldNo) (agreed : Bool) (s : State) (side : Side) :
    sideRecord (startHalo n agreed s) side = startSide s n agreed side := by
  cases side <;> rfl

theorem startSide_begun {s t : State} {n : FieldNo} {agreed : Bool} {side : Side}
    (h : sideRecord t side = startSide s n agreed side) : SideBegun s t n agreed side := by
  refine ⟨fun edge => by simp [h, startSide, edge], fun fill => by simp [h, startSide, fill],
    fun m peer => ⟨fun quiet => ?_, fun agreed_ counts => ⟨fun sl holding => ⟨fun full => ?_,
      fun lacks => ?_⟩, fun none_ => ?_⟩⟩⟩
  · have off : (agreed && neighbourCounts s side) = false := by
      obtain no | no := quiet <;> simp [no]
    simp [h, startSide, peer, off, clampedLines]
  · have all := (slotFull_iff sl).mpr full
    simp [h, startSide, peer, agreed_, counts, holding, all, linesFrom_full full]
  · have some_ : slotFull sl = false := by
      rw [← Bool.not_eq_true, slotFull_iff]
      rintro full
      obtain ⟨x, mem, empty⟩ := lacks
      exact full x mem empty
    simp [h, startSide, peer, agreed_, counts, holding, some_]
  · simp [h, startSide, peer, agreed_, counts, none_]

/-- The start of the sides reads Halo Exchange, the Consensus Unit and the configuration alone. -/
theorem startHalo_hx_of {s u : State} (hx : u.hx = s.hx) (cu : u.cu = s.cu) (cp : u.cp = s.cp)
    (n : FieldNo) (agreed : Bool) : (startHalo n agreed u).hx = (startHalo n agreed s).hx := by
  have counts (side : Side) : neighbourCounts u side = neighbourCounts s side := by
    simp only [neighbourCounts, neighbourOf, cu, cp]
  have dir (side : Side) : dirOf u side = dirOf s side := dirOf_of_hx hx side
  have side (x : Side) : startSide u n agreed x = startSide s n agreed x := by
    simp only [startSide, counts, dir, cp]
  simp only [startHalo, side, bothDirections, State.setHx, hx]

end Sys2Proof.Machine
end

section
/-! SUPPORT. The head of the frame list and the start of its build (R131, R134 to R137, R191). -/

namespace Sys2Proof.Machine

theorem exec_buildStart {s : State} (h : Live s) : exec .buildStart s = .next (testHead s) :=
  live_next_of_pending h (by simp)

/-! ## The tests of the head (R131, R134, R135) -/

/-- R134: the state whose heads that are not held have left the list. -/
def prunedHeads (s : State) : State := s.setLb { s.lb with frames := pruneHeads s s.lb.frames }

/-- R134, R136: the tests of a head whose field is held. -/
def testHeld (s : State) : State :=
  match s.lb.frames with
  | [] => s
  | e :: rest =>
    match headReady s e with
    | none => s
    | some agreed => startBuild e.frame agreed rest s

theorem testHead_eq (s : State) : testHead s = testHeld (prunedHeads s) := rfl

theorem prunedHeads_of {s : State} (h : pruneHeads s s.lb.frames = s.lb.frames) : prunedHeads s = s := by
  rw [prunedHeads, h]
  rfl

theorem testHead_empty {s : State} (h : s.lb.frames = []) : testHead s = s := by
  have pruned : prunedHeads s = s := prunedHeads_of (by rw [h, pruneHeads])
  rw [testHead_eq, pruned, testHeld, h]

theorem fieldHeld_of_sameFs {s t : State} (h : t.fs = s.fs) (f : FieldNo) :
    fieldHeld t f = fieldHeld s f := by
  rw [fieldHeld, lookup_of_sameFs h, fieldHeld]

/-- R134 test 1: the list that is left does not depend on the list there was. -/
theorem pruneHeads_setLb (s : State) (v : Builder) (frames : List FrameEntry) :
    pruneHeads (s.setLb v) frames = pruneHeads s frames := by
  induction frames with
  | nil => rfl
  | cons e rest ih =>
    have held : fieldHeld (s.setLb v) e.frame = fieldHeld s e.frame :=
      fieldHeld_of_sameFs (by simp) _
    simp only [pruneHeads, held, ih]

theorem testHead_unheld {s : State} {e : FrameEntry} {rest : List FrameEntry}
    (h : s.lb.frames = e :: rest) (unheld : fieldHeld s e.frame = false) :
    testHead s = testHead (s.setLb { s.lb with frames := rest }) := by
  have pruned : pruneHeads s s.lb.frames = pruneHeads s rest := by
    simp [h, pruneHeads, unheld]
  have pruned' : pruneHeads (s.setLb { s.lb with frames := rest }) rest = pruneHeads s rest :=
    pruneHeads_setLb s _ rest
  have same : prunedHeads (s.setLb { s.lb with frames := rest }) = prunedHeads s := by
    rw [prunedHeads, State.setLb_lb, pruned', prunedHeads, pruned]
    rfl
  rw [testHead_eq, testHead_eq, same]

section held

variable {s : State} {e : FrameEntry} {rest : List FrameEntry}

theorem testHead_held (h : s.lb.frames = e :: rest) (held : fieldHeld s e.frame = true) :
    testHead s = testHeld s := by
  rw [testHead_eq, prunedHeads_of (by rw [h, pruneHeads, if_pos held])]

theorem testHead_waits (h : s.lb.frames = e :: rest) (held : fieldHeld s e.frame = true)
    (waits : headReady s e = none) : testHead s = s := by
  rw [testHead_held h held]
  simp only [testHeld, h, waits]

theorem testHead_starts {agreed : Bool} (h : s.lb.frames = e :: rest)
    (held : fieldHeld s e.frame = true) (ready : headReady s e = some agreed) :
    testHead s = startBuild e.frame agreed rest s := by
  rw [testHead_held h held]
  simp only [testHeld, h, ready]

end held

theorem settled_iff (s : State) (n : FieldNo) :
    settled s n = true ↔
      (∃ l, s.lb.lastEnded = some l ∧ (l = n + 1 ∨ newer l (n + 1) = true)) ∨
        ∃ g, s.lb.newestBegun = some g ∧ newer g (n + 1) = true := by
  unfold settled
  cases s.lb.lastEnded <;> cases s.lb.newestBegun <;> simp

theorem roundCondition_waits {s : State} {e : FrameEntry} (unmarked : e.overtaken = false)
    (none_ : decisionFor s.lb e.frame = none) (applies : Applies s) : roundCondition s e = none := by
  obtain m | m := applies <;> simp [roundCondition, unmarked, none_, m]

theorem roundCondition_agreed {s : State} {e : FrameEntry} (unmarked : e.overtaken = false)
    (decided : decisionFor s.lb e.frame ≠ none) : roundCondition s e = some true := by
  simp [roundCondition, unmarked, Option.isSome_iff_ne_none, decided]

theorem roundCondition_provisional {s : State} {e : FrameEntry}
    (h : e.overtaken = true ∨ (decisionFor s.lb e.frame = none ∧
      (s.cu.membership = .listening ∨ s.cu.membership = .joining ∨ s.cu.membership = .isolated))) :
    roundCondition s e = some false := by
  obtain marked | ⟨none_, m⟩ := h
  · simp [roundCondition, marked]
  · obtain m | m | m := m <;> simp [roundCondition, none_, m]

theorem headReady_of {s : State} {e : FrameEntry} (idle : s.lb.build = none)
    (settled_ : settled s e.frame = true) (free : s.op.fb0 = none ∨ s.op.fb1 = none) :
    headReady s e = roundCondition s e := by
  have free_ : bufferFree s = true := by obtain f | f := free <;> simp [bufferFree, f]
  simp [headReady, idle, settled_, free_]

/-- R134: what keeps the head waiting. -/
theorem headReady_waits {s : State} {e : FrameEntry}
    (h : s.lb.build ≠ none ∨ (s.op.fb0 ≠ none ∧ s.op.fb1 ≠ none) ∨ settled s e.frame = false ∨
      roundCondition s e = none) : headReady s e = none := by
  unfold headReady
  split
  · next tests =>
    simp only [Bool.and_eq_true, Option.isNone_iff_eq_none, bufferFree, Bool.or_eq_true] at tests
    obtain ⟨⟨idle, settled_⟩, free⟩ := tests
    obtain busy | ⟨first, second⟩ | unsettled | waits := h
    · exact absurd idle busy
    · exact absurd free (not_or.mpr ⟨first, second⟩)
    · simp [settled_] at unsettled
    · exact waits
  · rfl

/-! ## What the start of a build changes (R136, R137, R191) -/

/-- R136: the blocks after the start of the build of frame n. -/
structure BuildBegun (s : State) (n : FieldNo) (agreed : Bool) (rest : List FrameEntry) (t : State) :
    Prop where
  lb : t.lb = builderStarted s n agreed rest
  fs : t.fs =
    (holdFields .build (s.setLb (builderStarted s n agreed rest)) [n - 2, n - 1, n, n + 1]).fs
  op : t.op = (grantBuffer n s).op
  sc : t.sc = (startScaling n agreed s).sc
  hx : t.hx = (startHalo n agreed s).hx
  blocks : t.li = s.li ∧ t.fa = s.fa ∧ t.cu = s.cu ∧ t.pli = s.pli
  counted : agreed = true → t.cp = s.cp
  raised : agreed = false →
    t.cp =
      { s.cp with
        events := s.cp.events ||| 1#12 <<< 6
        totals := { s.cp.totals with unagreedFrames := s.cp.totals.unagreedFrames + 1 } }

theorem grantBuffer_op_of {s u : State} (op : u.op = s.op) (n : FieldNo) :
    (grantBuffer n u).op = (grantBuffer n s).op := by
  unfold grantBuffer
  rw [op]
  dsimp only
  split
  · rfl
  · split
    · rfl
    · exact op

theorem startBuild_begun (n : FieldNo) (agreed : Bool) (rest : List FrameEntry) (s : State) :
    BuildBegun s n agreed rest (startBuild n agreed rest s) := by
  obtain ⟨held, hheld⟩ : ∃ u, u =
    holdFields .build (s.setLb (builderStarted s n agreed rest)) [n - 2, n - 1, n, n + 1] := ⟨_, rfl⟩
  obtain ⟨granted, hgranted⟩ : ∃ u, u = grantBuffer n held := ⟨_, rfl⟩
  obtain ⟨told, htold⟩ : ∃ u, u = startHalo n agreed (startScaling n agreed granted) := ⟨_, rfl⟩
  have start : startBuild n agreed rest s = if agreed then told else countUnagreed told := by
    rw [htold, hgranted, hheld]
    rfl
  have op : granted.op = (grantBuffer n s).op := by
    rw [hgranted]
    exact grantBuffer_op_of (by simp [hheld]) n
  have sc : (startScaling n agreed granted).sc = (startScaling n agreed s).sc :=
    startScaling_sc_of (by simp [hgranted, hheld]) (by simp [hgranted, hheld]) (by simp [hgranted, hheld])
      n agreed
  have hx : told.hx = (startHalo n agreed s).hx := by
    rw [htold]
    exact startHalo_hx_of (by simp [hgranted, hheld]) (by simp [hgranted, hheld])
      (by simp [hgranted, hheld]) n agreed
  have lb : told.lb = builderStarted s n agreed rest := by simp [htold, hgranted, hheld]
  have fs : told.fs = held.fs := by simp [htold, hgranted]
  have cp : told.cp = s.cp := by simp [htold, hgranted, hheld]
  have blocks : told.li = s.li ∧ told.fa = s.fa ∧ told.cu = s.cu ∧ told.pli = s.pli := by
    simp [htold, hgranted, hheld]
  have told_op : told.op = granted.op := by simp [htold]
  have told_sc : told.sc = (startScaling n agreed granted).sc := by simp [htold]
  rw [start]
  cases agreed with
  | true =>
    exact ⟨lb, fs.trans (by rw [hheld]), told_op.trans op, told_sc.trans sc, hx, blocks, fun _ => cp,
      fun no => absurd no nofun⟩
  | false =>
    refine ⟨lb, fs.trans (by rw [hheld]), told_op.trans op, told_sc.trans sc, hx, blocks,
      fun no => absurd no nofun, fun _ => ?_⟩
    rw [← cp]
    rfl

/-! ## The build record (R121, R122, R136, R137) -/

/-- R136: what the build record of frame n holds. -/
structure RecordBegun (s : State) (n : FieldNo) (agreed : Bool) (b : BuildRecord) : Prop where
  phase : b.phase = .lines
  frame : b.frame = n
  agreed_ : b.agreed = agreed
  built : b.built = 0
  repairs : b.repairs = []
  current : b.current = findField s n
  previous : b.previous = findField s (n - 1)
  following : b.following = findField s (n + 1)
  beforePrevious : b.beforePrevious = findField s (n - 2)
  decided : ∀ d, agreed = true → decisionFor s.lb n = some d →
    b.pairing = pairingOf d.cadence ∧ b.t = d.t ∧ b.signature = d.signature
  provisional : agreed = false →
    b.pairing = provisionalPairing s.cu.agreed n ∧ b.t = s.cu.agreed.loop.t ∧ b.signature = .none
  effective : ∀ f, b.current = some f →
    b.effective = effectivePairing b.pairing f.parity b.previous b.following

theorem buildRecord_begun (s : State) (n : FieldNo) (agreed : Bool) :
    RecordBegun s n agreed (buildRecord s n agreed) where
  phase := rfl
  frame := rfl
  agreed_ := rfl
  built := rfl
  repairs := rfl
  current := rfl
  previous := rfl
  following := rfl
  beforePrevious := rfl
  decided d agreed_ some_ := by simp [buildRecord, buildDecision, agreed_, some_]
  provisional no := by simp [buildRecord, buildDecision, no]
  effective f current := by
    have found : findField s n = some f := current
    simp [buildRecord, found]

section effective

variable (own : Parity) (previous following : Option FoundField)

theorem effectivePairing_bob : effectivePairing .bob own previous following = .bob := rfl

theorem effectivePairing_weavePrev :
    effectivePairing .weavePrev own previous following =
      if (serving (otherParity own) previous).isSome then .weavePrev else .bob := rfl

theorem effectivePairing_weaveNext :
    effectivePairing .weaveNext own previous following =
      if (serving (otherParity own) following).isSome then .weaveNext else .bob := rfl

theorem effectivePairing_ma :
    effectivePairing .ma own previous following =
      if (serving (otherParity own) previous).isSome ∧ (serving (otherParity own) following).isSome then
        .ma
      else .bob := by
  simp [effectivePairing, serves]

end effective

/-! ## The buffer (R191) -/

theorem grantBuffer_first {s : State} (h : s.op.fb0 = none) (n : FieldNo) :
    (grantBuffer n s).op = { s.op with fb0 := some { state := .building, frame := n, rows := [] } } := by
  simp [grantBuffer, h]

theorem grantBuffer_second {s : State} (busy : s.op.fb0 ≠ none) (h : s.op.fb1 = none) (n : FieldNo) :
    (grantBuffer n s).op = { s.op with fb1 := some { state := .building, frame := n, rows := [] } } := by
  simp [grantBuffer, h, busy]

/-! ## The obligation -/

/-- Settles O49. -/
theorem buildStartBeginsTheBuild : Obligations.BuildStartBeginsTheBuild := by
  refine ⟨pairingRule, provisionalRule, chosenBankRule, fun s h empty => ?_,
    fun s e rest h frames unheld => ?_, fun s e rest h frames held => ⟨fun waits => ?_,
      fun agreed idle free settled_ round => ?_⟩⟩
  · rw [exec_buildStart h, testHead_empty empty]
  · have live_ : Live (s.setLb { s.lb with frames := rest }) := by simpa [Live] using h
    rw [exec_buildStart h, exec_buildStart live_, testHead_unheld frames unheld]
  · have notReady : headReady s e = none := by
      refine headReady_waits (waits.imp_right (Or.imp_right (Or.imp (fun early => ?_) fun both => ?_)))
      · obtain ⟨ended, begun⟩ := early
        rw [← Bool.not_eq_true, settled_iff]
        rintro (⟨l, last, reached⟩ | ⟨g, newest, passed⟩)
        · obtain ⟨other, older⟩ := ended l last
          obtain same | later := reached
          · exact other same
          · rw [later] at older
            cases older
        · have before := begun g newest
          rw [passed] at before
          cases before
      · obtain ⟨unmarked, none_, applies⟩ := both
        exact roundCondition_waits unmarked none_ applies
    rw [exec_buildStart h, testHead_waits frames held notReady]
  · have condition : roundCondition s e = some agreed := by
      obtain ⟨rfl, unmarked, decided⟩ | ⟨rfl, which⟩ := round
      · exact roundCondition_agreed unmarked decided
      · exact roundCondition_provisional which
    have ready : headReady s e = some agreed := by
      rw [headReady_of idle ((settled_iff s e.frame).mpr settled_) free, condition]
    have begun := startBuild_begun e.frame agreed rest s
    obtain ⟨t, ht⟩ : ∃ t, t = startBuild e.frame agreed rest s := ⟨_, rfl⟩
    rw [← ht] at begun
    obtain ⟨lb, fs, op, sc, hx, ⟨li, fa, cu, pli⟩, counted, raised⟩ := begun
    obtain ⟨r, scaling, begins⟩ := startScaling_begun e.frame agreed s
    have record := buildRecord_begun s e.frame agreed
    rw [scaling] at sc
    refine ⟨t, buildRecord s e.frame agreed, r, ?_, ?_, ?_, record.phase, record.frame,
      record.agreed_, record.built, record.repairs, record.current, record.previous, record.following,
      record.beforePrevious, record.decided, record.provisional, fun f current => ?_, ?_, ?_, ?_, ?_,
      ?_, fun l mem => ?_, fun first => ?_, fun busy => ?_, fun g j which found => ?_, begins.frame,
      begins.agreed_, begins.phase, begins.rows, begins.ready, begins.unready, begins.edges, ?_,
      fun none_ => ?_, fun o some_ => ?_, fun side => ⟨?_, ?_⟩, ?_, li, fa, cu, pli, counted, raised⟩
    · rw [exec_buildStart h, testHead_starts frames held ready, ht]
    · rw [lb]
      rfl
    · rw [sc]
    · have effective := record.effective f current
      refine ⟨fun p => ?_, fun p => ?_, fun p => ?_, fun p => ?_⟩ <;> rw [effective, p]
      · exact effectivePairing_bob ..
      · exact effectivePairing_weavePrev ..
      · exact effectivePairing_weaveNext ..
      · exact effectivePairing_ma ..
    · rw [lb]; rfl
    · rw [lb]; rfl
    · rw [lb]; rfl
    · rw [lb]; rfl
    · rw [lb]
      exact List.length_replicate
    · rw [lb] at mem
      rw [List.eq_of_mem_replicate mem]
      exact ⟨rfl, rfl⟩
    · rw [op, grantBuffer_first first]
    · rw [op, grantBuffer_second busy (free.resolve_left busy)]
    · rw [slotAt_of_fs fs]
      refine holdFields_holds (f := g) (by simpa using which) ?_
      rw [lookup_of_sameFs (by simp : (s.setLb (builderStarted s e.frame agreed rest)).fs = s.fs)]
      exact found
    · rw [sc]
    · rw [sc]
      exact outgoingAfter_none none_ _
    · rw [sc]
      exact outgoingAfter_some some_ _
    · rw [dirOf_of_hx hx, dirOf_startHalo]
      exact slotsBegun e.frame (dirOf s side)
    · refine startSide_begun ?_
      rw [sideRecord_of_hx hx, sideRecord_startHalo]
    · rw [hx]
      rfl

end Sys2Proof.Machine
end

section
/-! SUPPORT. The samples, the places and the flags of scaled rows (R8, R9, R12, R162, R164, R171 to
R174). -/

namespace Sys2Proof.Machine

/-! ## Tap lines (R162, R171) -/

section places

variable {o : Ownership} {y : Nat}

theorem haloPlace_core (low : o.coreLow ≤ y) (high : y < o.coreHigh) : haloPlace o y = none := by
  simp [haloPlace, Nat.not_lt.mpr low, Nat.not_le.mpr high]

theorem haloPlace_upper {i : Nat} (above : y < o.coreLow) (place : o.coreLow + i = y + 3) :
    haloPlace o y = some (.upper, i) := by
  have i_ : y + 3 - o.coreLow = i := by omega
  simp [haloPlace, above, i_]

theorem haloPlace_lower {i : Nat} (core : o.coreLow < o.coreHigh) (place : y = o.coreHigh + i) :
    haloPlace o y = some (.lower, i) := by
  have below : ¬ y < o.coreLow := by omega
  have i_ : y - o.coreHigh = i := by omega
  have high : o.coreHigh ≤ y := by omega
  simp [haloPlace, below, i_, high]

theorem haloPlace_none_iff :
    haloPlace o y = none ↔ o.coreLow ≤ y ∧ y < o.coreHigh := by
  refine ⟨fun none_ => ?_, fun ⟨low, high⟩ => haloPlace_core low high⟩
  unfold haloPlace at none_
  split at none_
  · cases none_
  · split at none_
    · cases none_
    · omega

end places

theorem haloPlace_tap {s : State} (core : s.cp.ownership.coreLow < s.cp.ownership.coreHigh) {y i : Nat}
    {side : Side} (h : HaloTap s y side i) : haloPlace s.cp.ownership y = some (side, i) := by
  obtain ⟨rfl, above, place⟩ | ⟨rfl, place⟩ := h
  · exact haloPlace_upper above place
  · exact haloPlace_lower core place

theorem haloLineAt_of {s : State} {side : Side} {ls : List HaloLine} {i : Nat} {h : HaloLine}
    (record : sideRecord s side = some { lines := some ls }) (at_ : ls[i]? = some h) :
    haloLineAt s side i = h := by
  simp [haloLineAt, record, List.getD_eq_getElem?_getD, at_]

theorem tapSamples_core {s : State} {y : Nat} (h : haloPlace s.cp.ownership y = none) :
    tapSamples s y = coreSamples s y := by
  simp [tapSamples, h]

theorem tapSamples_halo {s : State} {y i : Nat} {side : Side}
    (h : haloPlace s.cp.ownership y = some (side, i)) :
    tapSamples s y = haloSamples s side (haloLineAt s side i) := by
  simp [tapSamples, h]

theorem tapLineRule : TapLineRule := by
  refine fun s y core => ⟨fun line v low high at_ built => ?_, fun side ls i h edge place record at_ => ?_⟩
  · rw [tapSamples_core (haloPlace_core low high)]
    simp [coreSamples, coreLine, List.getD_eq_getElem?_getD, at_, built]
  · have tap : HaloTap s y side i := by
      obtain ⟨side_, above, at', -⟩ | ⟨side_, below, -⟩ := place
      · exact .inl ⟨side_, above, at'⟩
      · exact .inr ⟨side_, below⟩
    have outer : edge = outermost s.cp.ownership side := by
      obtain ⟨rfl, -, -, edge_⟩ | ⟨rfl, -, edge_⟩ := place <;> exact edge_
    have inside : haloPlace s.cp.ownership edge = none := by
      obtain ⟨-, -, -, edge_⟩ | ⟨-, -, edge_⟩ := place <;> exact haloPlace_core (by omega) (by omega)
    rw [tapSamples_halo (haloPlace_tap core tap), haloLineAt_of record at_, tapSamples_core inside, outer]
    refine ⟨?_, ?_, ?_⟩
    · rintro v rfl
      rfl
    · rintro rfl
      rfl
    · rintro rfl
      rfl

/-! ## Flags (R164, R174) -/

theorem mem_tapLines {c : ConfigItems} {r y : Nat} :
    y ∈ tapLines c r ↔ ∃ k, k < 8 ∧ min (rowPosition c r + k - 3) (sourceLines c - 1) = y := by
  simp [tapLines]

theorem tapRepaired_iff (s : State) (y : Nat) :
    tapRepaired s y = true ↔
      s.cp.ownership.coreLow ≤ y ∧ y < s.cp.ownership.coreHigh ∧
        ∃ line, s.lb.lines[y - s.cp.ownership.coreLow]? = some line ∧ line.repaired = true := by
  rw [← and_assoc, ← haloPlace_none_iff]
  unfold tapRepaired
  cases place : haloPlace s.cp.ownership y with
  | none =>
    cases at_ : s.lb.lines[y - s.cp.ownership.coreLow]? <;>
      simp [coreLine, List.getD_eq_getElem?_getD, at_]
  | some p => simp

theorem tapClamped_of_read {s : State} (core : s.cp.ownership.coreLow < s.cp.ownership.coreHigh) {y : Nat}
    {h : HaloLine} (read : HaloRead s y h) : tapClamped s y = true ↔ h = .clamped := by
  obtain ⟨side, i, ls, tap, record, at_⟩ := read
  simp only [tapClamped, haloPlace_tap core tap, haloLineAt_of record at_]
  cases h <;> simp

theorem tapClamped_core {s : State} {y : Nat} (low : s.cp.ownership.coreLow ≤ y)
    (high : y < s.cp.ownership.coreHigh) : tapClamped s y = false := by
  simp [tapClamped, haloPlace_core low high]

theorem scaledRow_flags {s : State} {rec : ScalingRecord} {n : BankName} (h : rec.bank = some n) (row : Nat) :
    (scaledRow s rec row).flags.repaired = (tapLines s.cp.config row).any (tapRepaired s) ∧
      (scaledRow s rec row).flags.seamClamped = (tapLines s.cp.config row).any (tapClamped s) := by
  unfold scaledRow
  rw [h]
  exact ⟨rfl, rfl⟩

theorem rowFlagsRule : RowFlagsRule := by
  intro s rec n row rows lines tap bank core rows_ lines_ taps
  obtain ⟨repaired, clamped⟩ := scaledRow_flags (s := s) bank row
  have mem (y : Nat) : y ∈ tapLines s.cp.config row ↔ ∃ k, k < 8 ∧ tap k = y := by
    rw [mem_tapLines]
    simp only [taps, rows_, lines_]
    rfl
  rw [repaired, clamped]
  refine ⟨?_, fun ⟨k, small, read⟩ => ?_, fun whole => ?_⟩
  · rw [List.any_eq_true]
    constructor
    · rintro ⟨y, hy, hit⟩
      obtain ⟨k, small, rfl⟩ := (mem y).mp hy
      obtain ⟨low, high, line, at_, marked⟩ := (tapRepaired_iff s _).mp hit
      exact ⟨k, line, small, low, high, at_, marked⟩
    · rintro ⟨k, line, small, low, high, at_, marked⟩
      exact ⟨tap k, (mem _).mpr ⟨k, small, rfl⟩, (tapRepaired_iff s _).mpr ⟨low, high, line, at_, marked⟩⟩
  · exact List.any_eq_true.mpr ⟨tap k, (mem _).mpr ⟨k, small, rfl⟩, (tapClamped_of_read core read).mpr rfl⟩
  · rw [List.any_eq_false]
    intro y hy
    obtain ⟨k, small, rfl⟩ := (mem y).mp hy
    obtain ⟨low, high⟩ | ⟨h, other, read⟩ := whole k small
    · rw [tapClamped_core low high]
      nofun
    · exact fun hit => other ((tapClamped_of_read core read).mp hit)

/-! ## Edge rows (R8, R12) -/

theorem rowPosition_eq (c : ConfigItems) (r : Nat) :
    rowPosition c r =
      r * (if c.mode525 = true then 480 else 576) / (if c.large = true then 2160 else 1080) := rfl

theorem edgeRowsRule : EdgeRowsRule := by
  intro c o rows lines r rows_ lines_
  have position : r * lines / rows = rowPosition c r := by rw [rows_, lines_, rowPosition_eq]
  have owned : r ∈ ownedRows o ↔ o.firstRow ≤ r ∧ r < o.firstRow + o.rowCount := List.mem_range'_1
  have sorted : (ownedRows o).Pairwise (· < ·) := List.pairwise_lt_range'
  have upper : r ∈ edgeRows c o .upper ↔ r ∈ ownedRows o ∧ isUpperEdge c o r = true := List.mem_filter
  have lower : r ∈ edgeRows c o .lower ↔ r ∈ ownedRows o ∧ isLowerEdge c o r = true := List.mem_filter
  rw [position]
  refine ⟨?_, ?_, ?_, sorted.filter _, fun side => ?_⟩
  · rw [upper, owned, and_assoc]
    simp [isUpperEdge]
  · rw [lower, owned, and_assoc]
    simp [isLowerEdge]
  · rw [upper, lower, interiorRows, List.mem_filter, ← and_assoc, ← owned]
    cases isUpperEdge c o r <;> cases isLowerEdge c o r <;> simp
  · cases side <;> exact sorted.filter _

end Sys2Proof.Machine
end

section
/-! SUPPORT. The samples of a scaled row (R8, R9, R171 to R173). -/

namespace Sys2Proof.Machine

/-! ## Weighted sums -/

theorem weigh_eq_sum (cs : List Int) : ∀ vs, weigh cs vs = (List.zipWith (· * ·) cs vs).sum := by
  induction cs with
  | nil => exact fun vs => by cases vs <;> rfl
  | cons c cs ih =>
    intro vs
    cases vs with
    | nil => rfl
    | cons v vs => simp [weigh, ih]

/-- A weighted sum of two runs of the same length. -/
theorem weigh_range (n : Nat) (c v : Nat → Int) :
    weigh ((List.range n).map c) ((List.range n).map v) = ∑ k ∈ Finset.range n, c k * v k := by
  rw [weigh_eq_sum, List.zipWith_map, List.zipWith_self]
  rfl

theorem phaseSet_eq {table : List Coeff} {phase : Nat} (h : 8 * phase + 8 ≤ table.length) :
    phaseSet table phase = (List.range 8).map fun k => (table.getD (8 * phase + k) 0).toInt := by
  refine List.ext_getElem ?_ fun k hk hk' => ?_
  · simp [phaseSet]
    omega
  · have small : k < 8 := by simpa using hk'
    have inside : 8 * phase + k < table.length := by omega
    simp [phaseSet, Nat.mul_comm phase 8, List.getD_eq_getElem?_getD, inside]

theorem descale_eq (n : Int) : descale n = (n + 512) / 1024 :=
  Int.fdiv_eq_ediv_of_nonneg _ (by decide)

theorem clampSample_toNat (v : Int) : ((clampSample v).toNat : Int) = max 0 (min 1023 v) := by
  unfold clampSample
  rw [BitVec.toNat_ofInt]
  omega

/-! ## The two passes (R172, R173) -/

theorem phase_fits (n : Nat) {d : Nat} (h : 0 < d) : 8 * (n % d * 64 / d) + 8 ≤ 512 := by
  have small : n % d * 64 < 64 * d := by
    have := Nat.mod_lt n h
    omega
  have phase : n % d * 64 / d < 64 := (Nat.div_lt_iff_lt_mul h).mpr small
  omega

theorem outputRows_pos (c : ConfigItems) : 0 < outputRows c := by
  unfold outputRows
  split <;> decide

theorem outputColumns_pos (c : ConfigItems) : 0 < outputColumns c := by
  unfold outputColumns
  split <;> decide

/-- R172: the vertical value of one component at a position, from the lines its taps read. -/
theorem verticalPass_getD {table : List Coeff} (whole : table.length = 512) (c : ConfigItems) (r : Nat)
    (lines : Nat → List Sample) {width x : Nat} (h : x < width) :
    (verticalPass (phaseSet table (rowPhase c r)) ((List.range 8).map lines) width).getD x 0 =
      ((∑ k ∈ Finset.range 8, (table.getD (8 * rowPhase c r + k) 0).toInt *
          (((lines k).getD x 0).toNat : Int)) + 512) / 1024 := by
  have fits : 8 * rowPhase c r + 8 ≤ table.length := by
    rw [whole]
    exact phase_fits _ (outputRows_pos c)
  rw [phaseSet_eq fits, ← descale_eq, ← weigh_range]
  simp [verticalPass, List.getD_eq_getElem?_getD, h, Function.comp_def]

/-- R173: the eight values that the taps of a column read. -/
theorem columnTaps_eq {values : List Int} {width : Nat} (whole : values.length = width)
    (position : Nat) :
    columnTaps values position =
      (List.range 8).map fun k => values.getD (min (position + k - 3) (width - 1)) 0 := by
  rw [columnTaps, whole]

/-- R173: one output sample. -/
theorem horizontalPass_get {table : List Coeff} (whole : table.length = 512) (c : ConfigItems)
    {values : List Int} {width columns col : Nat} (length : values.length = width) (h : col < columns) :
    ((horizontalPass c table values columns)[col]?).map (fun v => (v.toNat : Int)) =
      some (max 0 (min 1023
        (((∑ k ∈ Finset.range 8, (table.getD (8 * columnPhase c col + k) 0).toInt *
            values.getD (min (columnPosition c col + k - 3) (width - 1)) 0) + 512) / 1024))) := by
  have fits : 8 * columnPhase c col + 8 ≤ table.length := by
    rw [whole]
    exact phase_fits _ (outputColumns_pos c)
  simp only [horizontalPass, List.getElem?_map, List.getElem?_range h, Option.map_some,
    clampSample_toNat, phaseSet_eq fits, columnTaps_eq length, weigh_range, descale_eq]

/-! ## One component of a row -/

/-- R171: the run of one component that tap k of row r reads. -/
def tapRun (s : State) (pick : LineSamples → List Sample) (r k : Nat) : List Sample :=
  pick (tapSamples s (min (rowPosition s.cp.config r + k - 3) (sourceLines s.cp.config - 1)))

theorem scaleRow_component (s : State) (b : Bank) (r : Nat) {pick : LineSamples → List Sample}
    {width columns : Nat} (h : Component pick width)
    (hc : columns = if width = 720 then outputColumns s.cp.config else outputColumns s.cp.config / 2) :
    pick (scaleRow s b r) =
      scaleComponent s.cp.config b r ((List.range 8).map (tapRun s pick r)) width columns := by
  have runs (p : LineSamples → List Sample) :
      ((tapLines s.cp.config r).map (tapSamples s)).map p = (List.range 8).map (tapRun s p r) := by
    rw [tapLines, List.map_map, List.map_map]
    rfl
  rw [hc, ← runs]
  obtain ⟨rfl, rfl⟩ | ⟨rfl, rfl⟩ | ⟨rfl, rfl⟩ := h <;> rfl

theorem rowRule : RowRule := by
  intro s b r rows lines columns pick width count vertical vLength hLength rows_ lines_ columns_
    component count_ vertical_
  have columns' : columns = outputColumns s.cp.config := columns_
  have rows' : rows = outputRows s.cp.config := rows_
  have lines' : lines = sourceLines s.cp.config := lines_
  subst columns' rows' lines'
  have row := scaleRow_component s b r component count_
  obtain ⟨values, hvalues⟩ : ∃ values, values =
    verticalPass (phaseSet b.vertical (rowPhase s.cp.config r)) ((List.range 8).map (tapRun s pick r))
      width := ⟨_, rfl⟩
  have component_ : pick (scaleRow s b r) = horizontalPass s.cp.config b.horizontal values count := by
    rw [row, hvalues]
    rfl
  have value (x : Nat) (h : x < width) : values.getD x 0 = vertical x := by
    rw [hvalues, verticalPass_getD vLength s.cp.config r _ h, vertical_]
    rfl
  have positive : 0 < width := by
    obtain ⟨-, rfl⟩ | ⟨-, rfl⟩ | ⟨-, rfl⟩ := component <;> decide
  rw [component_]
  refine ⟨by simp [horizontalPass], fun c inside => ?_⟩
  rw [horizontalPass_get hLength s.cp.config (width := width) (by simp [hvalues, verticalPass]) inside]
  have tap (k : Nat) : values.getD (min (columnPosition s.cp.config c + k - 3) (width - 1)) 0 =
      vertical (min (c * 720 / outputColumns s.cp.config + k - 3) (width - 1)) :=
    value _ (by omega)
  simp only [tap]
  rfl

end Sys2Proof.Machine
end

section
/-! SUPPORT. The order of a build's rows (R170, R174, R175). -/

namespace Sys2Proof.Machine

/-! ## Entry to EDGES (R170, R175) -/

section edges

variable {s : State} {r : ScalingRecord}

/-- R175: the edge rows of a side can begin. -/
def readyNow (s : State) (r : ScalingRecord) (side : Side) : Bool :=
  sideResolved s side && edgeOf r side == .waiting

theorem ready_iff (s : State) (r : ScalingRecord) (side : Side) :
    readyNow s r side = true ↔ Ready s r side := by
  simp [readyNow, Ready]

/-- R175: the sides whose edge rows can begin. -/
def readySides (s : State) (r : ScalingRecord) : List Side :=
  [Side.upper, Side.lower].filter (readyNow s r)

theorem enterEdges_eq (s : State) (r : ScalingRecord) :
    enterEdges s r =
      beginSide s.cp.config s.cp.ownership { r with phase := .edges, queue := readySides s r } := rfl

theorem readySides_both (upper : Ready s r .upper) (lower : Ready s r .lower) :
    readySides s r = [.upper, .lower] := by
  rw [← ready_iff] at upper lower
  rw [readySides, List.filter_cons_of_pos upper, List.filter_cons_of_pos lower]
  rfl

theorem readySides_upper (upper : Ready s r .upper) (lower : ¬ Ready s r .lower) :
    readySides s r = [.upper] := by
  rw [← ready_iff] at upper lower
  rw [readySides, List.filter_cons_of_pos upper, List.filter_cons_of_neg lower]
  rfl

theorem readySides_lower (upper : ¬ Ready s r .upper) (lower : Ready s r .lower) :
    readySides s r = [.lower] := by
  rw [← ready_iff] at upper lower
  rw [readySides, List.filter_cons_of_neg upper, List.filter_cons_of_pos lower]
  rfl

theorem readySides_none (upper : ¬ Ready s r .upper) (lower : ¬ Ready s r .lower) :
    readySides s r = [] := by
  rw [← ready_iff] at upper lower
  rw [readySides, List.filter_cons_of_neg upper, List.filter_cons_of_neg lower]
  rfl

theorem enterEdges_begins {side : Side} {later : List Side} (h : readySides s r = side :: later) :
    enterEdges s r = beginning s side later r := by
  rw [enterEdges_eq, h]
  rfl

theorem enterEdges_awaits (h : readySides s r = []) : enterEdges s r = awaiting r := by
  rw [enterEdges_eq, h]
  rfl

theorem edgeOf_beginning (s : State) (r : ScalingRecord) (x side : Side) (later : List Side) :
    edgeOf (beginning s x later r) side = edgeOf r side := by
  cases side <;> rfl

theorem edgeOf_awaiting (r : ScalingRecord) (side : Side) : edgeOf (awaiting r) side = edgeOf r side := by
  cases side <;> rfl

theorem sidesDone_iff (r : ScalingRecord) : sidesDone r = true ↔ ∀ side, edgeOf r side ≠ .waiting := by
  simp only [sidesDone, Bool.and_eq_true, bne_iff_ne]
  exact ⟨fun ⟨upper, lower⟩ side => by cases side <;> assumption, fun all => ⟨all .upper, all .lower⟩⟩

theorem allWritten_waits {side : Side} (h : edgeOf r side = .waiting) : allWritten r = false := by
  have waits : sidesDone r = false := by
    rw [← Bool.not_eq_true, sidesDone_iff]
    exact fun all => all side h
  simp [allWritten, waits]

theorem allWritten_awaiting (h : ∀ side, edgeOf r side ≠ .waiting) : allWritten (awaiting r) = true := by
  have done : sidesDone (awaiting r) = true := by
    rw [sidesDone_iff]
    exact fun side => by rw [edgeOf_awaiting]; exact h side
  rw [allWritten, done]
  rfl

/-- R170, R175: what follows the last interior row, for what the build does next. -/
theorem entersEdges_of {goesOn : ScalingRecord → Prop} {ends : Prop}
    (go : allWritten (enterEdges s r) = false → goesOn (enterEdges s r))
    (done : allWritten (enterEdges s r) = true → ends) : EntersEdges s r goesOn ends := by
  have begins {side : Side} {later : List Side} (ready : Ready s r side)
      (first : readySides s r = side :: later) : goesOn (beginning s side later r) := by
    rw [← enterEdges_begins first]
    refine go (allWritten_waits (side := side) ?_)
    rw [enterEdges_begins first, edgeOf_beginning]
    exact ready.2
  refine ⟨fun upper lower => begins upper (readySides_both upper lower),
    fun upper lower => begins upper (readySides_upper upper lower),
    fun upper lower => begins lower (readySides_lower upper lower), fun upper lower ⟨side, waits⟩ => ?_,
    fun all => ?_⟩
  · have rests := enterEdges_awaits (readySides_none upper lower)
    rw [← rests]
    refine go (allWritten_waits (side := side) ?_)
    rw [rests, edgeOf_awaiting]
    exact waits
  · have unready (side : Side) : ¬ Ready s r side := fun ready => all side ready.2
    have rests := enterEdges_awaits (readySides_none (unready .upper) (unready .lower))
    refine done ?_
    rw [rests]
    exact allWritten_awaiting all

theorem readySides_none_of (h : ∀ side, edgeOf r side ≠ .waiting) : readySides s r = [] :=
  readySides_none (fun ready => h .upper ready.2) fun ready => h .lower ready.2

end edges

/-- Entry to EDGES reads the sides and the configuration alone. -/
theorem enterEdges_of_sides {s u : State} (sides : ∀ side, sideRecord u side = sideRecord s side)
    (config : u.cp.config = s.cp.config) (ownership : u.cp.ownership = s.cp.ownership)
    (r : ScalingRecord) : enterEdges u r = enterEdges s r := by
  have resolved (side : Side) : sideResolved u side = sideResolved s side := by
    simp only [sideResolved, sides]
  simp only [enterEdges, resolved, config, ownership]

theorem enterEdges_of {s u : State} (hx : u.hx = s.hx) (config : u.cp.config = s.cp.config)
    (ownership : u.cp.ownership = s.cp.ownership) (r : ScalingRecord) :
    enterEdges u r = enterEdges s r :=
  enterEdges_of_sides (fun side => sideRecord_of_hx hx side) config ownership r

/-! ## After a row (R170, R174, R175) -/

section after

variable {s : State} {r counted : ScalingRecord} {row : Nat} {more : List Nat}

theorem afterRow_more (todo : r.todo = row :: more) (left : more ≠ [])
    (counted_ : counted = { r with rows := r.rows + 1, todo := more }) :
    afterRow s r = counted ∧ allWritten counted = false := by
  subst counted_
  refine ⟨?_, ?_⟩
  · simp [afterRow, todo, left]
  · simp [allWritten, left]

theorem afterRow_interior (todo : r.todo = [row]) (phase : r.phase = .interior)
    (counted_ : counted = { r with rows := r.rows + 1, todo := [] }) :
    afterRow s r = enterEdges s (if r.bank.isNone then blackSides counted else counted) := by
  subst counted_
  simp [afterRow, todo, phase]

theorem blackSides_done (r : ScalingRecord) (side : Side) : edgeOf (blackSides r) side ≠ .waiting := by
  cases side with
  | upper => cases h : r.upper <;> simp [blackSides, edgeOf, h]
  | lower => cases h : r.lower <;> simp [blackSides, edgeOf, h]

theorem afterRow_black (todo : r.todo = [row]) (phase : r.phase = .interior) (black : r.bank = none) :
    allWritten (afterRow s r) = true := by
  rw [afterRow_interior todo phase rfl, if_pos (by rw [black]; rfl), enterEdges_awaits (readySides_none_of (blackSides_done _))]
  exact allWritten_awaiting (blackSides_done _)

theorem afterRow_edges {side : Side} (todo : r.todo = [row]) (phase : r.phase = .edges)
    (current : r.current = some side)
    (counted_ : counted = { r with rows := r.rows + 1, todo := [] }) :
    afterRow s r = beginSide s.cp.config s.cp.ownership (edgeWritten side counted) := by
  subst counted_
  simp [afterRow, todo, phase, current]

/-- R175: the record once a side's edge rows are written. -/
theorem edgeWritten_eq (side : Side) (r : ScalingRecord) :
    edgeWritten side r =
      { r with
        upper := if side = .upper then .written else r.upper
        lower := if side = .lower then .written else r.lower } := by
  cases side <;> rfl

theorem edgeOf_edgeWritten_other {side other : Side} (apart : side ≠ other) (r : ScalingRecord) :
    edgeOf (edgeWritten side r) other = edgeOf r other := by
  cases side with
  | upper =>
    cases other with
    | upper => exact absurd rfl apart
    | lower => rfl
  | lower =>
    cases other with
    | upper => rfl
    | lower => exact absurd rfl apart

theorem edgeOf_edgeWritten (side : Side) (r : ScalingRecord) : edgeOf (edgeWritten side r) side = .written := by
  cases side <;> rfl

theorem beginSide_next {other : Side} (phase : r.phase = .edges) (queue : r.queue = [other]) :
    beginSide s.cp.config s.cp.ownership r = beginning s other [] r := by
  simp [beginSide, queue, beginning, phase]

theorem beginSide_awaits (c : ConfigItems) (o : Ownership) (phase : r.phase = .edges)
    (queue : r.queue = []) : beginSide c o r = awaiting r := by
  simp [beginSide, queue, awaiting, phase]

end after

end Sys2Proof.Machine
end

section
/-! SUPPORT. The next row of a build (R146, R161, R164, R170, R174, R175, R192). -/

namespace Sys2Proof.Machine

theorem exec_rowWrite {s : State} (h : Live s) : exec .rowWrite s = .next (rowWriteStep s) :=
  live_next_of_pending h (by simp)

theorem rowWriteStep_idle {s : State} (h : ∀ r, s.sc.scaling = some r → r.todo = [] ∨ r.phase = .lines) :
    rowWriteStep s = s := by
  unfold rowWriteStep
  split
  · rfl
  · next r scaling =>
    split
    · rfl
    · next row more todo =>
      obtain none_ | lines := h r scaling
      · simp [none_] at todo
      · exact if_pos lines

theorem rowWriteStep_writes {s : State} {r : ScalingRecord} {row : Nat} {more : List Nat}
    (scaling : s.sc.scaling = some r) (todo : r.todo = row :: more) (phase : r.phase ≠ .lines) :
    rowWriteStep s = writeRow r row s := by
  simp [rowWriteStep, scaling, todo, phase]

/-! ## The row stored (R164, R174, R192) -/

/-- R174, R192: the state in which the row has been stored and counted. -/
def rowStored (r : ScalingRecord) (row : Nat) (s : State) : State :=
  countClamped (scaledRow s r row) (storeRow r.frame (scaledRow s r row) s)

/-- R175: the state in which the Scaler has gone on to a record. -/
def scalerAdvanced (next : ScalingRecord) (s : State) : State :=
  followScaler (s.setSc { s.sc with scaling := some next })

theorem writeRow_eq (r : ScalingRecord) (row : Nat) (s : State) :
    writeRow r row s =
      if allWritten (afterRow (rowStored r row s) r) then
        finishBuild r.frame (scalerAdvanced (afterRow (rowStored r row s) r) (rowStored r row s))
      else scalerAdvanced (afterRow (rowStored r row s) r) (rowStored r row s) := rfl

theorem scalerAdvanced_lb (next : ScalingRecord) (s : State) :
    (scalerAdvanced next s).lb =
      { s.lb with build := s.lb.build.map fun b => { b with phase := next.phase } } := rfl

theorem countClamped_cp (st : StoredRow) (s : State) :
    (st.flags.seamClamped = false → (countClamped st s).cp = s.cp) ∧
      (st.flags.seamClamped = true →
        (countClamped st s).cp =
          { s.cp with
            events := s.cp.events ||| 1#12 <<< 5
            totals := { s.cp.totals with clampedRows := s.cp.totals.clampedRows + 1 } }) := by
  refine ⟨fun whole => ?_, fun clamped => ?_⟩
  · rw [countClamped, whole]
    rfl
  · rw [countClamped, if_pos clamped]
    rfl

theorem scaledRow_tags (s : State) (r : ScalingRecord) (row : Nat) :
    (scaledRow s r row).row = row ∧ (scaledRow s r row).flags.unagreed = !r.agreed ∧
      (scaledRow s r row).flags.black = r.bank.isNone := by
  unfold scaledRow
  cases r.bank <;> exact ⟨rfl, rfl, rfl⟩

/-- Buffer x is BUILDING frame n with contents h, and the other buffer is not BUILDING. -/
structure BuildingIn (s : State) (x : Bool) (n : FieldNo) (h : Held) : Prop where
  at_ : bufferAt s x = some h
  state : h.state = .building
  frame : h.frame = n
  other : ∀ g, bufferAt s (!x) = some g → g.state ≠ .building

theorem onBuilding_hit {n : FieldNo} {h : Held} (state : h.state = .building) (frame : h.frame = n)
    (f : Held → Option Held) : onBuilding n f (some h) = f h := by
  simp [onBuilding, isBuilding, state, frame]

theorem onBuilding_miss {n : FieldNo} {b : Option Held} (h : ∀ g, b = some g → g.state ≠ .building)
    (f : Held → Option Held) : onBuilding n f b = b := by
  cases b with
  | none => rfl
  | some g => simp [onBuilding, isBuilding, h g rfl]

section stored

variable {s : State} {r : ScalingRecord} {row : Nat} {x : Bool} {h : Held}

theorem bufferAt_rowStored (building : BuildingIn s x r.frame h) :
    bufferAt (rowStored r row s) x = some { h with rows := h.rows ++ [scaledRow s r row] } ∧
      bufferAt (rowStored r row s) (!x) = bufferAt s (!x) := by
  obtain ⟨at_, state, frame, other⟩ := building
  have same (y : Bool) : bufferAt (rowStored r row s) y =
      bufferAt (storeRow r.frame (scaledRow s r row) s) y :=
    bufferAt_of_op (by simp [rowStored]) (by simp [rowStored]) y
  rw [same, same, storeRow, bufferAt_bothBuffers, bufferAt_bothBuffers, at_, onBuilding_miss other,
    onBuilding_hit state frame]
  exact ⟨rfl, rfl⟩

theorem bufferAt_advanced (next : ScalingRecord) (u : State) (y : Bool) :
    bufferAt (scalerAdvanced next u) y = bufferAt u y :=
  bufferAt_of_op (by simp [scalerAdvanced]) (by simp [scalerAdvanced]) y

/-- R174, R192: the row is stored and the build goes on. -/
theorem advanced_goesOn (building : BuildingIn s x r.frame h) (next : ScalingRecord) :
    GoesOn s (scalerAdvanced next (rowStored r row s)) x h (scaledRow s r row) next := by
  obtain ⟨at_, -⟩ := bufferAt_rowStored (row := row) building
  have lb : (rowStored r row s).lb = s.lb := by simp [rowStored]
  have sc : (rowStored r row s).sc = s.sc := by simp [rowStored]
  refine ⟨by rw [bufferAt_advanced, at_], ?_, by rw [scalerAdvanced_lb, lb],
    by simp [scalerAdvanced, rowStored], by simp [scalerAdvanced, rowStored]⟩
  simp [scalerAdvanced, sc]

/-- R146, R175: what the end of a build DONE leaves. -/
theorem finishBuild_ended (n : FieldNo) (u : State) : BuildEnded u (finishBuild n u) := by
  obtain ⟨v, hv⟩ : ∃ v, v = completeBuffer n (releaseBuild u) := ⟨_, rfl⟩
  have ends : finishBuild n u = dropScaling (endHalo v) := by rw [hv]; rfl
  have fs : (finishBuild n u).fs = (releaseBuild u).fs := by simp [ends, hv]
  refine ⟨by simp [ends, hv, releaseBuild_lb], ?_, fun sl hs => ?_, fun j => ?_, ?_, by simp⟩
  · simp [ends, hv, dropScaling]
  · rw [fs] at hs
    exact dropHolder_mem hs
  · rw [slotAt_of_fs fs]
    exact dropHolder_occupant .build (u.setLb { u.lb with build := none }) j
  · have ended := haloEnded_of_hx (s' := u) (endHalo_ended v) (by simp [hv])
    rw [ends]
    exact ended

theorem bufferAt_finishBuild (n : FieldNo) (u : State) (y : Bool) :
    bufferAt (finishBuild n u) y =
      onBuilding n (fun h => some { h with state := .complete }) (bufferAt u y) := by
  have same : bufferAt (finishBuild n u) y = bufferAt (completeBuffer n (releaseBuild u)) y :=
    bufferAt_of_op rfl rfl y
  rw [same, completeBuffer, bufferAt_bothBuffers]
  exact congrArg _ (bufferAt_of_op rfl rfl y)

/-- R146, R175, R192: the row is stored and the build ends DONE. -/
theorem finished_endsDone (building : BuildingIn s x r.frame h) (next : ScalingRecord) :
    EndsDone s (finishBuild r.frame (scalerAdvanced next (rowStored r row s))) x h (scaledRow s r row) ∧
      bufferAt (finishBuild r.frame (scalerAdvanced next (rowStored r row s))) (!x) = bufferAt s (!x) := by
  obtain ⟨at_, others⟩ := bufferAt_rowStored (row := row) building
  obtain ⟨-, state, frame, other⟩ := building
  obtain ⟨u, hu⟩ : ∃ u, u = scalerAdvanced next (rowStored r row s) := ⟨_, rfl⟩
  have buffers (y : Bool) : bufferAt u y = bufferAt (rowStored r row s) y := by
    rw [hu, bufferAt_advanced]
  have fs : u.fs = s.fs := by simp [hu, scalerAdvanced, rowStored]
  have sc : u.sc = { s.sc with scaling := some next } := by
    have stored : (rowStored r row s).sc = s.sc := by simp [rowStored]
    simp [hu, scalerAdvanced, stored]
  have lb : u.lb = { s.lb with build := s.lb.build.map fun b => { b with phase := next.phase } } := by
    have stored : (rowStored r row s).lb = s.lb := by simp [rowStored]
    rw [hu, scalerAdvanced_lb, stored]
  obtain ⟨lb_, sc_, released, occupants, halo, -⟩ := finishBuild_ended r.frame u
  rw [← hu]
  refine ⟨⟨?_, by rw [sc_, sc], by rw [lb_, lb], released, fun j => ?_, ?_⟩, ?_⟩
  · rw [bufferAt_finishBuild, buffers, at_]
    exact onBuilding_hit (h := { h with rows := h.rows ++ [scaledRow s r row] }) state frame _
  · rw [occupants, slotAt_of_fs fs]
  · exact haloEnded_of_hx halo (by simp [hu, scalerAdvanced, rowStored])
  · rw [bufferAt_finishBuild, buffers, others, onBuilding_miss other]

/-! ## The write (R174, R175) -/

theorem writeRow_goesOn (building : BuildingIn s x r.frame h) {next : ScalingRecord}
    (after : afterRow (rowStored r row s) r = next) (left : allWritten next = false) :
    GoesOn s (writeRow r row s) x h (scaledRow s r row) next := by
  rw [writeRow_eq, after, left]
  exact advanced_goesOn building next

theorem writeRow_endsDone (building : BuildingIn s x r.frame h) {next : ScalingRecord}
    (after : afterRow (rowStored r row s) r = next) (all : allWritten next = true) :
    EndsDone s (writeRow r row s) x h (scaledRow s r row) := by
  rw [writeRow_eq, after, if_pos all]
  exact (finished_endsDone building next).1

theorem bufferAt_writeRow_other (building : BuildingIn s x r.frame h) :
    bufferAt (writeRow r row s) (!x) = bufferAt s (!x) := by
  rw [writeRow_eq]
  split
  · exact (finished_endsDone building _).2
  · rw [bufferAt_advanced]
    exact (bufferAt_rowStored building).2

theorem writeRow_cp (r : ScalingRecord) (row : Nat) (s : State) :
    (writeRow r row s).cp = (countClamped (scaledRow s r row) s).cp := by
  have stored : (rowStored r row s).cp = (countClamped (scaledRow s r row) s).cp := by
    unfold rowStored countClamped
    split <;> rfl
  rw [writeRow_eq, ← stored]
  split <;> simp [scalerAdvanced]

end stored

/-! ## The obligation -/

theorem enterEdges_rowStored (r : ScalingRecord) (row : Nat) (s : State) (c : ScalingRecord) :
    enterEdges (rowStored r row s) c = enterEdges s c :=
  enterEdges_of (by simp [rowStored]) (by simp [rowStored]) (by simp [rowStored]) c

theorem op_of_buffers {p q : OutputPort} (emission : q.emission = p.emission)
    (answer : q.lastAnswer = p.lastAnswer) (asked : q.lastAsked = p.lastAsked)
    (last : q.lastRow = p.lastRow) : q = { p with fb0 := q.fb0, fb1 := q.fb1 } := by
  cases q
  simp_all

/-- What follows a written side. -/
theorem afterRow_side {s : State} {r counted written : ScalingRecord} {row : Nat} {side other : Side}
    (todo : r.todo = [row]) (phase : r.phase = .edges) (current : r.current = some side)
    (apart : side ≠ other) (counted_ : counted = { r with rows := r.rows + 1, todo := [] })
    (written_ : written = edgeWritten side counted) :
    (r.queue = [other] → edgeOf r other = .waiting →
      afterRow s r = beginning s other [] written ∧ allWritten (beginning s other [] written) = false) ∧
    (r.queue = [] →
      afterRow s r = awaiting written ∧
        (edgeOf r other = .waiting → allWritten (awaiting written) = false) ∧
        (edgeOf r other ≠ .waiting → allWritten (awaiting written) = true)) := by
  have after := afterRow_edges (s := s) todo phase current counted_
  rw [← written_] at after
  have record : edgeWritten side counted = written := written_.symm
  have phase' : written.phase = .edges := by
    rw [written_, counted_]
    cases side <;> exact phase
  have queue' : written.queue = r.queue := by
    rw [written_, counted_]
    cases side <;> rfl
  have edge_other : edgeOf written other = edgeOf r other := by
    rw [written_, edgeOf_edgeWritten_other apart, counted_]
    cases other <;> rfl
  have edge_side : edgeOf written side = .written := by rw [written_, edgeOf_edgeWritten]
  refine ⟨fun queue waits => ⟨?_, ?_⟩, fun queue => ⟨?_, fun waits => ?_, fun rests => ?_⟩⟩
  · rw [after, beginSide_next phase' (queue'.trans queue)]
  · exact allWritten_waits (side := other) (by rw [edgeOf_beginning, edge_other, waits])
  · rw [after, beginSide_awaits _ _ phase' (queue'.trans queue)]
  · exact allWritten_waits (side := other) (by rw [edgeOf_awaiting, edge_other, waits])
  · refine allWritten_awaiting fun x => ?_
    obtain rfl | rfl := side_eq_or apart x
    · rw [edge_side]
      nofun
    · rw [edge_other]
      exact rests

/-- Settles O52. -/
theorem rowWriteStoresTheRow : Obligations.RowWriteStoresTheRow := by
  refine ⟨tapLineRule, rowRule, edgeRowsRule, rowFlagsRule, fun s h idle => ?_,
    fun s r counted row more x h live_ scaling todo phase at_ state frame other counted_ => ?_⟩
  · rw [exec_rowWrite h, rowWriteStep_idle idle]
  have building : BuildingIn s x r.frame h := ⟨at_, state, frame, other⟩
  obtain ⟨row_, unagreed, black⟩ := scaledRow_tags s r row
  obtain ⟨whole, clamped⟩ := countClamped_cp (scaledRow s r row) s
  refine ⟨writeRow r row s, scaledRow s r row, ?_, rfl, row_, unagreed, black, fun none_ => ?_,
    fun n some_ => ?_, fun no => ?_, fun yes => ?_, bufferAt_writeRow_other building, ?_,
    fun left => ?_, fun last interior none_ => ?_, fun last interior bank => ?_,
    fun side other written last edges current apart written_ => ?_, by simp, by simp, by simp, by simp⟩
  · rw [exec_rowWrite live_, rowWriteStep_writes scaling todo phase]
  · simp [scaledRow, none_]
  · simp [scaledRow, some_]
  · rw [writeRow_cp, whole no]
  · rw [writeRow_cp, clamped yes]
  · exact op_of_buffers (by simp) (by simp) (by simp) (by simp)
  · obtain ⟨after, unfinished⟩ := afterRow_more (s := rowStored r row s) todo left counted_
    exact writeRow_goesOn building after unfinished
  · rw [last] at todo
    exact writeRow_endsDone building rfl (afterRow_black todo interior none_)
  · rw [last] at todo counted_
    have after := afterRow_interior (s := rowStored r row s) todo interior counted_
    rw [if_neg (by simpa using bank), enterEdges_rowStored] at after
    exact entersEdges_of (writeRow_goesOn building after) (writeRow_endsDone building after)
  · rw [last] at todo counted_
    have written' : written = edgeWritten side counted := by
      rw [written_, edgeWritten_eq, counted_]
    obtain ⟨next, rests⟩ := afterRow_side (s := rowStored r row s) todo edges current apart counted_ written'
    have begins : beginning (rowStored r row s) other [] written = beginning s other [] written := by
      simp [beginning, rowStored]
    rw [begins] at next
    refine ⟨fun queue waits => ?_, fun queue waits => ?_, fun queue done => ?_⟩
    · obtain ⟨after, unfinished⟩ := next queue waits
      exact writeRow_goesOn building after unfinished
    · obtain ⟨after, unfinished, -⟩ := rests queue
      exact writeRow_goesOn building after (unfinished waits)
    · obtain ⟨after, -, finished⟩ := rests queue
      exact writeRow_endsDone building after (finished done)

end Sys2Proof.Machine
end

section
/-! SUPPORT. What a build's lines read (R29, R138 to R140, R144). -/

namespace Sys2Proof.Machine

/-! ## Parities of frame lines -/

theorem lineParity_ne {y : Nat} {p : Parity} (h : lineParity y ≠ p) :
    lineParity (y + 1) = p ∧ (1 ≤ y → lineParity (y - 1) = p) := by
  unfold lineParity at h ⊢
  cases p with
  | top =>
    have odd : y % 2 = 1 := by
      by_contra even
      exact h (if_pos (by omega))
    exact ⟨if_pos (by omega), fun _ => if_pos (by omega)⟩
  | bottom =>
    have even : y % 2 = 0 := by
      by_contra odd
      exact h (if_neg odd)
    exact ⟨if_neg (by omega), fun _ => if_neg (by omega)⟩

/-! ## Views (R29) -/

/-- R29: what a reader sees of a line whose samples are all usable. -/
def fullView (v : LineSamples) : LineView :=
  { y := v.y.map fun x => some x.toNat
    cb := v.cb.map fun x => some x.toNat
    cr := v.cr.map fun x => some x.toNat }

theorem viewEntry_usable {e : LineEntry} {v : LineSamples} (state : e.state = .valid ∨ e.state = .repaired)
    (samples : e.samples = some v) : viewEntry e = fullView v := by
  unfold viewEntry
  rw [samples]
  obtain h | h := state <;> simp [h, fullView]

theorem viewEntry_lost {e : LineEntry} (h : e.state = .lost) : viewEntry e = LineView.blank := by
  unfold viewEntry
  rw [h]
  split <;> rfl

theorem viewFrameLine_off {s : State} {found : Option FoundField} {y : Nat}
    (h : ∀ f, found = some f → lineParity y ≠ f.parity) : viewFrameLine s found y = LineView.blank := by
  cases found with
  | none => rfl
  | some f => exact if_neg (h f rfl)

theorem viewFrameLine_entry {s : State} {f : FoundField} {y : Nat} {e : LineEntry}
    (parity : lineParity y = f.parity) (at_ : entryAt s f.slot (y / 2) = some e) :
    viewFrameLine s (some f) y = viewEntry e := by
  simp [viewFrameLine, parity, viewLine, at_]

theorem viewFrameLine_lost {s : State} {found : Option FoundField} {y : Nat}
    (h : IsLost s found (y / 2)) : viewFrameLine s found y = LineView.blank := by
  obtain ⟨g, e, rfl, at_, lost⟩ := h
  by_cases parity : lineParity y = g.parity
  · rw [viewFrameLine_entry parity at_, viewEntry_lost lost]
  · exact viewFrameLine_off fun f eq => by cases eq; exact parity

theorem viewFrameLine_usable {s : State} {f : FoundField} {y : Nat} {v : LineSamples}
    (parity : lineParity y = f.parity) (usable : Usable s f.slot (y / 2) v) :
    viewFrameLine s (some f) y = fullView v := by
  obtain ⟨-, -, -, e, at_, state, samples⟩ := usable
  rw [viewFrameLine_entry parity at_, viewEntry_usable state samples]

theorem viewAbove_pos {s : State} {found : Option FoundField} {y : Nat} (h : 1 ≤ y) :
    viewAbove s found y = viewFrameLine s found (y - 1) := by
  obtain ⟨z, rfl⟩ : ∃ z, y = z + 1 := ⟨y - 1, by omega⟩
  rfl

theorem ofNat_toNat (x : Sample) : BitVec.ofNat 10 x.toNat = x := by simp

theorem viewSamples_fullView (v : LineSamples) : viewSamples (fullView v) = v := by
  simp [viewSamples, fullView, Function.comp_def]

theorem wholeView_fullView (v : LineSamples) : wholeView (fullView v) = true := by
  simp [wholeView, fullView]

/-! ## Lines that call for no repair (R144) -/

theorem repairAt_usable {s : State} {b : BuildRecord} {f : FoundField} (build : s.lb.build = some b)
    (current : b.current = some f) {y : Nat}
    (h : ∀ e, lineParity y = f.parity → entryAt s f.slot (y / 2) = some e →
      e.state = .valid ∨ e.state = .repaired) : repairAt s y = s := by
  unfold repairAt
  rw [build]
  dsimp only
  rw [current]
  dsimp only
  split
  · rfl
  · next parity =>
    split
    · rfl
    · next e at_ =>
      have whole : needsRepair e = false := by
        obtain state | state := h e (not_not.mp parity) at_ <;> simp [needsRepair, state]
      rw [whole]
      rfl

theorem ownParity_of {b : BuildRecord} {f : FoundField} (h : b.current = some f) : ownParity b = f.parity := by
  simp [ownParity, h]

theorem linesRead_own {s : State} {b : BuildRecord} {y : Nat} (h : lineParity y = ownParity b) :
    linesRead s b y = [y] :=
  if_pos h

theorem linesRead_woven {s : State} {b : BuildRecord} {y : Nat} (other : lineParity y ≠ ownParity b)
    (h : readsIntra s b y = false) : linesRead s b y = [] := by
  unfold linesRead
  rw [if_neg other, h]
  rfl

/-- R144: the lines that a missing line reads are the one above and the one below it. -/
theorem linesRead_missing {s : State} {b : BuildRecord} {y z : Nat} (h : lineParity y ≠ ownParity b)
    (mem : z ∈ linesRead s b y) : z = y + 1 ∨ (1 ≤ y ∧ z = y - 1) := by
  unfold linesRead at mem
  rw [if_neg h] at mem
  split at mem
  · cases y with
    | zero =>
      rw [List.mem_singleton] at mem
      exact .inl mem
    | succ x =>
      simp only [List.mem_cons, List.not_mem_nil, or_false] at mem
      obtain rfl | rfl := mem
      · exact .inr ⟨by omega, rfl⟩
      · exact .inl rfl
  · cases mem

theorem foldl_fixed {α β : Type} {f : α → β → α} {a : α} (l : List β) (h : ∀ x ∈ l, f a x = a) :
    l.foldl f a = a := by
  induction l with
  | nil => rfl
  | cons x rest ih =>
    rw [List.foldl_cons, h x List.mem_cons_self]
    exact ih fun z mem => h z (List.mem_cons_of_mem x mem)

end Sys2Proof.Machine
end

section
/-! SUPPORT. The course of BUILD_LINE: the repairs, the line and the notices (R138, R144, R170). -/

namespace Sys2Proof.Machine

/-! ## What repairs leave (R144, R145) -/

/-- What the repairs of a build's line change: the slots, the totals and the build's note of them. -/
structure RepairedFrom (s t : State) (b b' : BuildRecord) : Prop where
  lb : t.lb = { s.lb with build := some b' }
  record : b' = { b with repairs := b'.repairs }
  config : t.cp.config = s.cp.config
  ownership : t.cp.ownership = s.cp.ownership
  blocks : t.cu = s.cu ∧ t.pli = s.pli ∧ t.hx = s.hx ∧ t.sc = s.sc ∧ t.pending = s.pending

theorem RepairedFrom.refl {s : State} {b : BuildRecord} (h : s.lb.build = some b) :
    RepairedFrom s s b b := by
  refine ⟨?_, rfl, rfl, rfl, rfl, rfl, rfl, rfl, rfl⟩
  rw [← h]

theorem RepairedFrom.trans {s t u : State} {b c d : BuildRecord} (h : RepairedFrom s t b c)
    (k : RepairedFrom t u c d) : RepairedFrom s u b d := by
  obtain ⟨lb, record, config, ownership, cu, pli, hx, sc, pending⟩ := h
  obtain ⟨lb', record', config', ownership', cu', pli', hx', sc', pending'⟩ := k
  refine ⟨by rw [lb', lb], ?_, config'.trans config, ownership'.trans ownership, cu'.trans cu,
    pli'.trans pli, hx'.trans hx, sc'.trans sc, pending'.trans pending⟩
  rw [record', record]

theorem RepairedFrom.build {s t : State} {b b' : BuildRecord} (h : RepairedFrom s t b b') :
    t.lb.build = some b' := by
  rw [h.lb]

/-- The record of the build with one more entry repaired. -/
def repairNoted (b : BuildRecord) (l : Nat) (y cb : List (Nat × FillStep)) : BuildRecord :=
  { b with repairs := b.repairs ++ [{ line := l, luma := runMarks y, chroma := runMarks cb }] }

theorem writeBack_from (s : State) (b : BuildRecord) (slot l : Nat)
    (y cb cr : List (Nat × FillStep)) :
    RepairedFrom s (writeBack slot b l y cb cr s) b (repairNoted b l y cb) := by
  refine ⟨?_, rfl, by simp [writeBack], by simp [writeBack], by simp [writeBack]⟩
  simp [writeBack, repairNoted]

theorem repairAt_from {s : State} {b : BuildRecord} (h : s.lb.build = some b) (y : Nat) :
    ∃ b', RepairedFrom s (repairAt s y) b b' := by
  unfold repairAt
  rw [h]
  dsimp only
  split
  · exact ⟨b, .refl h⟩
  · split
    · exact ⟨b, .refl h⟩
    · split
      · exact ⟨b, .refl h⟩
      · split
        · exact ⟨_, writeBack_from ..⟩
        · exact ⟨b, .refl h⟩

theorem repairs_from (ys : List Nat) :
    ∀ {s : State} {b : BuildRecord}, s.lb.build = some b → ∃ b', RepairedFrom s (ys.foldl repairAt s) b b' := by
  induction ys with
  | nil => exact fun h => ⟨_, .refl h⟩
  | cons y rest ih =>
    intro s b h
    obtain ⟨c, first⟩ := repairAt_from h y
    obtain ⟨d, later⟩ := ih first.build
    exact ⟨d, first.trans later⟩

/-! ## The line and its notices (R138) -/

/-- R138: the state in which core line y is BUILT and counted. -/
def lineStored (y : Nat) (line : CoreLine) (s : State) : State := countLine (putLine y line s)

theorem lineStored_lb (y : Nat) (line : CoreLine) (s : State) :
    (lineStored y line s).lb =
      { s.lb with
        lines := s.lb.lines.set (y - s.cp.ownership.coreLow) line
        build := s.lb.build.map fun b => { b with built := b.built + 1 } } := rfl

theorem lineStored_blocks (y : Nat) (line : CoreLine) (s : State) :
    (lineStored y line s).fs = s.fs ∧ (lineStored y line s).cp = s.cp ∧ (lineStored y line s).cu = s.cu ∧
      (lineStored y line s).pli = s.pli ∧ (lineStored y line s).hx = s.hx ∧
      (lineStored y line s).sc = s.sc := by
  simp [lineStored]

/-- R138: the notice of the line that completes a seam's set. -/
def setNotice (built : Nat) (s : State) : State :=
  if built = 4 then formSet .upper s else if built = 7 then formSet .lower s else s

theorem lineNotices_eq (built : Nat) (s : State) :
    lineNotices built s =
      if built = s.cp.ownership.coreHigh - s.cp.ownership.coreLow then handToScaler (setNotice built s)
      else setNotice built s := rfl

theorem setNotice_blocks (built : Nat) (s : State) :
    (setNotice built s).lb = s.lb ∧ (setNotice built s).sc = s.sc ∧ (setNotice built s).cp = s.cp ∧
      (setNotice built s).hx.upperSide = s.hx.upperSide ∧
      (setNotice built s).hx.lowerSide = s.hx.lowerSide := by
  unfold setNotice
  split
  · simp
  · split <;> simp

theorem handToScaler_lines (s : State) : (handToScaler s).lb.lines = s.lb.lines := by
  unfold handToScaler
  split
  · rfl
  · unfold followScaler
    split <;> rfl

theorem handToScaler_build (s : State) :
    ∃ p : BuildPhase → BuildPhase, (handToScaler s).lb.build =
      s.lb.build.map fun b => { b with phase := p b.phase } := by
  unfold handToScaler
  split
  · exact ⟨id, by simp⟩
  · unfold followScaler
    split
    · exact ⟨id, by simp⟩
    · next r _ => exact ⟨fun _ => r.phase, rfl⟩

theorem lineNotices_lines (built : Nat) (s : State) : (lineNotices built s).lb.lines = s.lb.lines := by
  obtain ⟨lb, -⟩ := setNotice_blocks built s
  rw [lineNotices_eq]
  split
  · rw [handToScaler_lines, lb]
  · rw [lb]

theorem lineNotices_build (built : Nat) (s : State) :
    ∃ p : BuildPhase → BuildPhase, (lineNotices built s).lb.build =
      s.lb.build.map fun b => { b with phase := p b.phase } := by
  obtain ⟨lb, -⟩ := setNotice_blocks built s
  rw [lineNotices_eq]
  split
  · obtain ⟨p, build⟩ := handToScaler_build (setNotice built s)
    exact ⟨p, by rw [build, lb]⟩
  · exact ⟨id, by rw [lb]; simp⟩

theorem lineNotices_none {built : Nat} {s : State} (upper : built ≠ 4) (lower : built ≠ 7)
    (last : built ≠ s.cp.ownership.coreHigh - s.cp.ownership.coreLow) : lineNotices built s = s := by
  rw [lineNotices_eq, if_neg last, setNotice, if_neg upper, if_neg lower]

/-! ## BUILD_LINE (R138) -/

theorem buildLineStep_idle {s : State}
    (h : ∀ b, s.lb.build = some b →
      b.phase ≠ .lines ∨ s.cp.ownership.coreHigh - s.cp.ownership.coreLow ≤ b.built) :
    buildLineStep s = s := by
  unfold buildLineStep
  split
  · rfl
  · next b build =>
    refine if_neg fun both => ?_
    obtain ⟨lines, left⟩ := both
    obtain other | done := h b build
    · exact other lines
    · exact absurd left (Nat.not_lt.mpr done)

theorem buildLineStep_builds {s : State} {b : BuildRecord} {f : FoundField} {y : Nat}
    (h : NextLine s b f y) {b' : BuildRecord}
    (from_ : RepairedFrom s ((linesRead s b y).foldl repairAt s) b b') :
    buildLineStep s =
      lineNotices (b.built + 1)
        (lineStored y (builtLine ((linesRead s b y).foldl repairAt s) b' y)
          ((linesRead s b y).foldl repairAt s)) := by
  obtain ⟨build, phase, -, left, line⟩ := h
  have step : buildLineStep s = buildNextLine b s := by
    simp only [buildLineStep, build]
    exact if_pos ⟨phase, left⟩
  rw [step]
  unfold buildNextLine
  rw [← line]
  dsimp only
  rw [from_.build]
  rfl

/-- R138: the outcome of building line y, after the repairs that led to u and b'. -/
structure LineCourse (s : State) (b : BuildRecord) (y : Nat) (u : State) (b' : BuildRecord) (t : State) :
    Prop where
  runs : exec .buildLine s = .next t
  after : t = lineNotices (b.built + 1) (lineStored y (builtLine u b' y) u)
  repaired : u = (linesRead s b y).foldl repairAt s
  from_ : RepairedFrom s u b b'

theorem buildLine_course {s : State} {b : BuildRecord} {f : FoundField} {y : Nat} (h : Live s)
    (next_ : NextLine s b f y) : ∃ u b' t, LineCourse s b y u b' t := by
  obtain ⟨build, -⟩ := id next_
  obtain ⟨b', from_⟩ := repairs_from (linesRead s b y) build
  have step := buildLineStep_builds next_ from_
  obtain ⟨-, -, -, -, pending⟩ := from_.blocks
  refine ⟨_, b', _, ?_, rfl, rfl, from_⟩
  rw [← step]
  refine live_next_of_pending h ?_
  rw [step]
  simpa [lineStored] using pending

theorem LineCourse.lines {s u t : State} {b b' : BuildRecord} {y : Nat} (c : LineCourse s b y u b' t) :
    t.lb.lines = s.lb.lines.set (y - s.cp.ownership.coreLow) (builtLine u b' y) := by
  rw [c.after, lineNotices_lines, lineStored_lb, c.from_.lb, c.from_.ownership]

theorem LineCourse.store {s u t : State} {b b' : BuildRecord} {y : Nat} (c : LineCourse s b y u b' t) :
    t.fs = u.fs ∧ t.cp = u.cp := by
  obtain ⟨fs, cp, -⟩ := lineStored_blocks y (builtLine u b' y) u
  rw [c.after, ← fs, ← cp]
  simp

theorem LineCourse.build {s u t : State} {b b' : BuildRecord} {y : Nat} (c : LineCourse s b y u b' t) :
    ∃ d, t.lb.build = some d ∧ d.built = b.built + 1 ∧ d.frame = b.frame := by
  obtain ⟨p, build⟩ := lineNotices_build (b.built + 1) (lineStored y (builtLine u b' y) u)
  rw [← c.after, lineStored_lb, c.from_.build] at build
  exact ⟨_, build, congrArg (·.built + 1) c.from_.record, congrArg (·.frame) c.from_.record⟩

/-- A line that calls for no repair is built from the state as it stands. -/
theorem LineCourse.unrepaired {s u t : State} {b b' : BuildRecord} {y : Nat}
    (c : LineCourse s b y u b' t) (build : s.lb.build = some b)
    (whole : ∀ z ∈ linesRead s b y, repairAt s z = s) : u = s ∧ b' = b := by
  have same : u = s := c.repaired.trans (foldl_fixed _ whole)
  refine ⟨same, ?_⟩
  have both := c.from_.build
  rw [same, build] at both
  exact (Option.some.inj both).symm

/-- What a line built without a repair leaves. -/
theorem LineCourse.whole {s u t : State} {b b' : BuildRecord} {y : Nat}
    (c : LineCourse s b y u b' t) (build : s.lb.build = some b)
    (whole : ∀ z ∈ linesRead s b y, repairAt s z = s) :
    t.lb.lines = s.lb.lines.set (y - s.cp.ownership.coreLow) (builtLine s b y) ∧ t.fs = s.fs ∧
      t.cp = s.cp := by
  have lines := c.lines
  have store := c.store
  obtain ⟨rfl, rfl⟩ := c.unrepaired build whole
  exact ⟨lines, store⟩

end Sys2Proof.Machine
end

section
/-! SUPPORT. The lines of a build that call for no repair (R139 to R142). -/

namespace Sys2Proof.Machine

/-! ## One sample of a missing line (R140 to R142) -/

/-- R140 to R142: a sample of a missing line, from what its fields show there. -/
def missingSample (pairing : Pairing) (t : Nat) (previous following : Option Nat) (intra : Nat) :
    BuiltSample :=
  match pairing with
  | .bob => { value := intra, usedIntra := true }
  | .weavePrev => weaveSample previous intra
  | .weaveNext => weaveSample following intra
  | .ma => { value := adaptiveSample t previous following intra, usedIntra := true }

theorem missingRun_eq (pairing : Pairing) (t : Nat) (view : LineView → List (Option Nat)) (r : LineSources)
    (width : Nat) :
    missingRun pairing t view r width =
      (List.range width).map fun x =>
        missingSample pairing t ((view r.previous).getD x none) ((view r.following).getD x none)
          (intraValue ((view r.above).getD x none) ((view r.below).getD x none)) := by
  cases pairing <;> rfl

/-- R140, R142: the pairing takes the intra value where one of its fields shows nothing. -/
def TakesIntra (pairing : Pairing) (previous following : Option Nat) : Prop :=
  pairing = .bob ∨ (pairing = .weavePrev ∧ previous = none) ∨ (pairing = .weaveNext ∧ following = none) ∨
    (pairing = .ma ∧ (previous = none ∨ following = none))

theorem missingSample_intra {pairing : Pairing} {previous following : Option Nat}
    (h : TakesIntra pairing previous following) (t intra : Nat) :
    missingSample pairing t previous following intra = { value := intra, usedIntra := true } := by
  obtain rfl | ⟨rfl, rfl⟩ | ⟨rfl, rfl⟩ | ⟨rfl, rfl | rfl⟩ := h
  · rfl
  · rfl
  · rfl
  · rfl
  · cases previous <;> rfl

/-- R140: the field that a woven line takes shows v. -/
def Weaves (pairing : Pairing) (previous following : Option Nat) (v : Nat) : Prop :=
  (pairing = .weavePrev ∧ previous = some v) ∨ (pairing = .weaveNext ∧ following = some v)

theorem missingSample_woven {pairing : Pairing} {previous following : Option Nat} {v : Nat}
    (h : Weaves pairing previous following v) (t intra : Nat) :
    missingSample pairing t previous following intra = { value := v, usedIntra := false } := by
  obtain ⟨rfl, rfl⟩ | ⟨rfl, rfl⟩ := h <;> rfl

/-! ## Components -/

/-- The view's component that a line's component is seen through. -/
structure SeenAs (view : LineView → List (Option Nat)) (pick : LineSamples → List Sample) : Prop where
  full : ∀ v, view (fullView v) = (pick v).map fun x => some x.toNat
  blank : ∀ x, (view LineView.blank).getD x none = none

theorem replicate_getD_none (n x : Nat) : (List.replicate n (none : Option Nat)).getD x none = none := by
  rw [List.getD_eq_getElem?_getD, List.getElem?_replicate]
  split <;> rfl

theorem seenAs_y : SeenAs LineView.y LineSamples.y := ⟨fun _ => rfl, replicate_getD_none 720⟩

theorem seenAs_cb : SeenAs LineView.cb LineSamples.cb := ⟨fun _ => rfl, replicate_getD_none 360⟩

theorem seenAs_cr : SeenAs LineView.cr LineSamples.cr := ⟨fun _ => rfl, replicate_getD_none 360⟩

theorem SeenAs.getD {view : LineView → List (Option Nat)} {pick : LineSamples → List Sample}
    (h : SeenAs view pick) {v : LineSamples} {x : Nat} {p : Sample} (at_ : (pick v)[x]? = some p) :
    (view (fullView v)).getD x none = some p.toNat := by
  rw [h.full, List.getD_eq_getElem?_getD, List.getElem?_map, at_]
  rfl

/-! ## A missing line (R140 to R142) -/

/-- R140 to R142: what missing line y is made from. -/
def missingSources (s : State) (b : BuildRecord) (y : Nat) : LineSources :=
  { above := viewAbove s b.current y
    below := viewFrameLine s b.current (y + 1)
    previous := viewFrameLine s b.previous y
    following := viewFrameLine s b.following y }

/-- R140 to R142: one component of missing line y. -/
def missingPart (s : State) (b : BuildRecord) (y : Nat) (view : LineView → List (Option Nat)) (width : Nat) :
    List BuiltSample :=
  missingRun b.effective b.t view (missingSources s b y) width

/-- The samples of missing line y. -/
def missingSamples (s : State) (b : BuildRecord) (y : Nat) : LineSamples :=
  { y := builtSamples (missingPart s b y LineView.y 720)
    cb := builtSamples (missingPart s b y LineView.cb 360)
    cr := builtSamples (missingPart s b y LineView.cr 360) }

/-- R140, R141: some sample of missing line y took the intra value. -/
def missingTookIntra (s : State) (b : BuildRecord) (y : Nat) : Bool :=
  tookIntra (missingPart s b y LineView.y 720) || tookIntra (missingPart s b y LineView.cb 360) ||
    tookIntra (missingPart s b y LineView.cr 360)

theorem builtLine_missing {s : State} {b : BuildRecord} {y : Nat} (h : lineParity y ≠ ownParity b) :
    builtLine s b y =
      { samples := some (missingSamples s b y)
        repaired := missingTookIntra s b y && filledAround b y } :=
  if_neg h

theorem missingSamples_component (s : State) (b : BuildRecord) (y : Nat) {pick : LineSamples → List Sample}
    {width : Nat} (h : Component pick width) :
    ∃ view, SeenAs view pick ∧
      pick (missingSamples s b y) = builtSamples (missingPart s b y view width) := by
  obtain ⟨rfl, rfl⟩ | ⟨rfl, rfl⟩ | ⟨rfl, rfl⟩ := h
  · exact ⟨_, seenAs_y, by simp only [missingSamples]⟩
  · exact ⟨_, seenAs_cb, by simp only [missingSamples]⟩
  · exact ⟨_, seenAs_cr, by simp only [missingSamples]⟩

/-- What a missing line's sample is made from at position x. -/
def sampleMade (s : State) (b : BuildRecord) (y : Nat) (view : LineView → List (Option Nat)) (x : Nat) :
    BuiltSample :=
  missingSample b.effective b.t ((view (viewFrameLine s b.previous y)).getD x none)
    ((view (viewFrameLine s b.following y)).getD x none)
    (intraValue ((view (viewAbove s b.current y)).getD x none)
      ((view (viewFrameLine s b.current (y + 1))).getD x none))

theorem missingPart_eq (s : State) (b : BuildRecord) (y : Nat) (view : LineView → List (Option Nat))
    (width : Nat) : missingPart s b y view width = (List.range width).map (sampleMade s b y view) := by
  rw [missingPart, missingRun_eq]
  rfl

theorem builtSamples_get {s : State} {b : BuildRecord} {y width x : Nat}
    {view : LineView → List (Option Nat)} (h : x < width) :
    ((builtSamples (missingPart s b y view width))[x]?).map (·.toNat) =
      some ((sampleMade s b y view x).value % 1024) := by
  simp [builtSamples, missingPart_eq, List.getElem?_range h]

/-! ## A woven line (R140) -/

theorem missingPart_woven {s : State} {b : BuildRecord} {y : Nat} {view : LineView → List (Option Nat)}
    {run : List Sample} (h : ∀ x (hx : x < run.length), Weaves b.effective
      ((view (viewFrameLine s b.previous y)).getD x none)
      ((view (viewFrameLine s b.following y)).getD x none) run[x].toNat) :
    builtSamples (missingPart s b y view run.length) = run ∧
      tookIntra (missingPart s b y view run.length) = false := by
  have part : missingPart s b y view run.length =
      run.map fun v => { value := v.toNat, usedIntra := false } := by
    rw [missingPart_eq]
    refine List.ext_getElem (by simp) fun x hx hx' => ?_
    rw [List.getElem_map, List.getElem_map, List.getElem_range]
    exact missingSample_woven (h x (by simpa using hx)) _ _
  rw [part]
  simp [builtSamples, tookIntra, Function.comp_def]

/-- R140: the field found that a woven line takes. -/
def Partner (b : BuildRecord) (g : FoundField) : Prop :=
  (b.effective = .weavePrev ∧ b.previous = some g) ∨ (b.effective = .weaveNext ∧ b.following = some g)

theorem partner_weaves {s : State} {b : BuildRecord} {g : FoundField} {y : Nat} {v : LineSamples}
    (partner : Partner b g) (shown : viewFrameLine s (some g) y = fullView v)
    {view : LineView → List (Option Nat)} {pick : LineSamples → List Sample} (seen : SeenAs view pick)
    (x : Nat) (hx : x < (pick v).length) :
    Weaves b.effective ((view (viewFrameLine s b.previous y)).getD x none)
      ((view (viewFrameLine s b.following y)).getD x none) (pick v)[x].toNat := by
  have at_ := seen.getD (List.getElem?_eq_getElem hx)
  obtain ⟨effective, field⟩ | ⟨effective, field⟩ := partner
  · exact .inl ⟨effective, by rw [field, shown, at_]⟩
  · exact .inr ⟨effective, by rw [field, shown, at_]⟩

theorem readsIntra_woven {s : State} {b : BuildRecord} {g : FoundField} {y : Nat} {v : LineSamples}
    (partner : Partner b g) (shown : viewFrameLine s (some g) y = fullView v) :
    readsIntra s b y = false := by
  obtain ⟨effective, field⟩ | ⟨effective, field⟩ := partner <;>
    simp [readsIntra, effective, field, shown, wholeView_fullView]

theorem wovenLineRule : WovenLineRule := by
  intro s b f g y v h next_ other parity partner usable
  obtain ⟨u, b', t, course⟩ := buildLine_course h next_
  obtain ⟨build, -, current, -, -⟩ := next_
  have shown := viewFrameLine_usable parity usable
  obtain ⟨ly, lcb, lcr, -⟩ := usable
  have missing : lineParity y ≠ ownParity b := by rwa [ownParity_of current]
  obtain ⟨lines, fs, cp⟩ := course.whole build (by
    rw [linesRead_woven missing (readsIntra_woven partner shown)]
    nofun)
  obtain ⟨samplesY, intraY⟩ := missingPart_woven (partner_weaves partner shown seenAs_y)
  obtain ⟨samplesCb, intraCb⟩ := missingPart_woven (partner_weaves partner shown seenAs_cb)
  obtain ⟨samplesCr, intraCr⟩ := missingPart_woven (partner_weaves partner shown seenAs_cr)
  rw [ly] at samplesY intraY
  rw [lcb] at samplesCb intraCb
  rw [lcr] at samplesCr intraCr
  refine ⟨t, course.runs, ?_, fs, cp⟩
  rw [LineBuilt, lines, builtLine_missing missing, missingSamples, samplesY, samplesCb, samplesCr,
    missingTookIntra, intraY, intraCb, intraCr]
  rfl

end Sys2Proof.Machine
end

section
/-! SUPPORT. Missing lines between two usable lines, and own lines that are usable (R139, R141,
R142). -/

namespace Sys2Proof.Machine

/-! ## Lines around that call for no repair -/

/-- R29: the entry of a field line is VALID or REPAIRED, with these samples. -/
def WholeEntry (s : State) (slot line : Nat) (v : LineSamples) : Prop :=
  ∃ e, entryAt s slot line = some e ∧ (e.state = .valid ∨ e.state = .repaired) ∧ e.samples = some v

theorem Usable.whole {s : State} {slot line : Nat} {v : LineSamples} (h : Usable s slot line v) :
    WholeEntry s slot line v := by
  obtain ⟨-, -, -, whole⟩ := h
  exact whole

theorem viewFrameLine_whole {s : State} {f : FoundField} {y : Nat} {v : LineSamples}
    (parity : lineParity y = f.parity) (whole : WholeEntry s f.slot (y / 2) v) :
    viewFrameLine s (some f) y = fullView v := by
  obtain ⟨e, at_, state, samples⟩ := whole
  rw [viewFrameLine_entry parity at_, viewEntry_usable state samples]

theorem repairAt_whole {s : State} {b : BuildRecord} {f : FoundField} (build : s.lb.build = some b)
    (current : b.current = some f) {y : Nat} {v : LineSamples} (whole : WholeEntry s f.slot (y / 2) v) :
    repairAt s y = s := by
  obtain ⟨e, at_, state, -⟩ := whole
  refine repairAt_usable build current fun e' _ at' => ?_
  rw [at_] at at'
  cases at'
  exact state

/-- Missing line y of the build, between the usable lines v1 and v2 of its own field f. -/
structure BetweenWhole (s : State) (b : BuildRecord) (f : FoundField) (y : Nat) (v1 v2 : LineSamples) :
    Prop where
  next_ : NextLine s b f y
  missing : lineParity y ≠ f.parity
  inside : 1 ≤ y
  above : WholeEntry s f.slot ((y - 1) / 2) v1
  below : WholeEntry s f.slot ((y + 1) / 2) v2

section between

variable {s : State} {b : BuildRecord} {f : FoundField} {y : Nat} {v1 v2 : LineSamples}

theorem BetweenWhole.views (h : BetweenWhole s b f y v1 v2) :
    viewAbove s b.current y = fullView v1 ∧ viewFrameLine s b.current (y + 1) = fullView v2 := by
  obtain ⟨⟨-, -, current, -, -⟩, missing, inside, above, below⟩ := h
  obtain ⟨after, before⟩ := lineParity_ne missing
  rw [current, viewAbove_pos inside]
  exact ⟨viewFrameLine_whole (before inside) above, viewFrameLine_whole after below⟩

theorem BetweenWhole.unrepaired (h : BetweenWhole s b f y v1 v2) :
    ∀ z ∈ linesRead s b y, repairAt s z = s := by
  obtain ⟨⟨build, -, current, -, -⟩, missing, inside, above, below⟩ := h
  intro z mem
  obtain rfl | ⟨-, rfl⟩ := linesRead_missing (by rwa [ownParity_of current]) mem
  · exact repairAt_whole build current below
  · exact repairAt_whole build current above

/-- The missing line as it is built. -/
theorem BetweenWhole.built (h : BetweenWhole s b f y v1 v2) (live_ : Live s) :
    ∃ t, exec .buildLine s = .next t ∧
      LineBuilt s t y (missingSamples s b y) (missingTookIntra s b y && filledAround b y) ∧
      t.fs = s.fs ∧ t.cp = s.cp := by
  obtain ⟨u, b', t, course⟩ := buildLine_course live_ h.next_
  have whole := h.unrepaired
  obtain ⟨⟨build, -, current, -, -⟩, missing, -, -, -⟩ := h
  obtain ⟨lines, fs, cp⟩ := course.whole build whole
  refine ⟨t, course.runs, ?_, fs, cp⟩
  rw [LineBuilt, lines, builtLine_missing (by rwa [ownParity_of current])]

/-- A sample of the missing line, from the samples above and below it. -/
theorem BetweenWhole.sample (h : BetweenWhole s b f y v1 v2) {pick : LineSamples → List Sample}
    {width x : Nat} {p q : Sample} (component : Component pick width) (inside : x < width)
    (above : (pick v1)[x]? = some p) (below : (pick v2)[x]? = some q) :
    ∃ view, SeenAs view pick ∧
      ((pick (missingSamples s b y))[x]?).map (·.toNat) =
        some ((missingSample b.effective b.t ((view (viewFrameLine s b.previous y)).getD x none)
          ((view (viewFrameLine s b.following y)).getD x none)
          ((p.toNat + q.toNat) / 2)).value % 1024) := by
  obtain ⟨view, seen, run⟩ := missingSamples_component s b y component
  obtain ⟨first, second⟩ := h.views
  refine ⟨view, seen, ?_⟩
  rw [run, builtSamples_get inside, sampleMade, first, second, seen.getD above, seen.getD below]
  rfl

end between

/-! ## The repaired mark (R141) -/

theorem filledLine_iff (b : BuildRecord) (l : Nat) : filledLine b l = true ↔ FilledBy b l := by
  unfold filledLine FilledBy repairedEntry
  cases b.repairs.find? fun r => r.line == l <;> simp

theorem filledAround_iff {b : BuildRecord} {y : Nat} (h : 1 ≤ y) :
    filledAround b y = true ↔ FilledBy b ((y - 1) / 2) ∨ FilledBy b ((y + 1) / 2) := by
  obtain ⟨z, rfl⟩ : ∃ z, y = z + 1 := ⟨y - 1, by omega⟩
  rw [← filledLine_iff, ← filledLine_iff, ← Bool.or_eq_true]
  have above : ((repairedAbove b (z + 1)).map fun r => r.luma.any id || r.chroma.any id).getD false =
      filledLine b ((z + 1 - 1) / 2) := by
    rw [filledLine, repairedAbove, Nat.add_sub_cancel]
    cases repairedEntry b (z / 2) <;> rfl
  rw [filledAround, above]

theorem not_filledBy {b : BuildRecord} (h : b.repairs = []) (l : Nat) : ¬ FilledBy b l := by
  rintro ⟨r, found, -⟩
  rw [h] at found
  cases found

theorem filledAround_none {b : BuildRecord} {y : Nat} (inside : 1 ≤ y) (h : b.repairs = []) :
    filledAround b y = false := by
  rw [← Bool.not_eq_true, filledAround_iff inside]
  rintro (filled | filled) <;> exact not_filledBy h _ filled

/-! ## The intra value at every sample (R140 to R142) -/

/-- The line takes the intra value at every sample. -/
def AllIntra (s : State) (b : BuildRecord) (y : Nat) : Prop :=
  ∀ view pick x, SeenAs view pick →
    TakesIntra b.effective ((view (viewFrameLine s b.previous y)).getD x none)
      ((view (viewFrameLine s b.following y)).getD x none)

theorem allIntra_of {s : State} {b : BuildRecord} {y : Nat}
    (h : b.effective = .bob ∨
      (b.effective = .weavePrev ∧ IsLost s b.previous (y / 2)) ∨
      (b.effective = .weaveNext ∧ IsLost s b.following (y / 2)) ∨
      (b.effective = .ma ∧ (IsLost s b.previous (y / 2) ∨ IsLost s b.following (y / 2)))) :
    AllIntra s b y := by
  intro view pick x seen
  have none_ {found : Option FoundField} (lost : IsLost s found (y / 2)) :
      (view (viewFrameLine s found y)).getD x none = none := by
    rw [viewFrameLine_lost lost]
    exact seen.blank x
  exact h.imp_right (Or.imp (And.imp_right none_)
    (Or.imp (And.imp_right none_) (And.imp_right (Or.imp none_ none_))))

theorem missingTookIntra_all {s : State} {b : BuildRecord} {y : Nat} (h : AllIntra s b y) :
    missingTookIntra s b y = true := by
  have luma : tookIntra (missingPart s b y LineView.y 720) = true := by
    rw [missingPart_eq, tookIntra, List.any_map, List.any_eq_true]
    refine ⟨0, List.mem_range.mpr (by decide), ?_⟩
    rw [Function.comp_apply, sampleMade, missingSample_intra (h _ _ 0 seenAs_y)]
  rw [missingTookIntra, luma]
  rfl

theorem mean_small (p q : Sample) : (p.toNat + q.toNat) / 2 < 1024 := by
  have hp := p.isLt
  have hq := q.isLt
  omega

/-- R141: each sample is the mean of the samples above and below it. -/
theorem intra_sample {s : State} {b : BuildRecord} {f : FoundField} {y : Nat} {v1 v2 : LineSamples}
    (h : BetweenWhole s b f y v1 v2) (intra : AllIntra s b y) {pick : LineSamples → List Sample}
    {width x : Nat} {p q : Sample} (component : Component pick width) (inside : x < width)
    (above : (pick v1)[x]? = some p) (below : (pick v2)[x]? = some q) :
    ((pick (missingSamples s b y))[x]?).map (·.toNat) = some ((p.toNat + q.toNat) / 2) := by
  obtain ⟨view, seen, sample⟩ := h.sample component inside above below
  rw [sample, missingSample_intra (intra view pick x seen), Nat.mod_eq_of_lt (mean_small p q)]

theorem intraLineRule : IntraLineRule := by
  intro s b f y v1 v2 h next_ missing inside above below which
  have between : BetweenWhole s b f y v1 v2 := ⟨next_, missing, inside, above.whole, below.whole⟩
  have intra := allIntra_of which
  obtain ⟨t, runs, built, fs, cp⟩ := between.built h
  refine ⟨t, _, _, runs, built, fs, cp, ?_, fun pick width x p q component hx hp hq =>
    intra_sample between intra component hx hp hq⟩
  rw [missingTookIntra_all intra, Bool.true_and, filledAround_iff inside]

/-! ## The motion-adaptive line (R142) -/

/-- A part of a distance, rounded toward zero, is no more than the distance. -/
theorem tdiv_part {d m t : Int} (low : 0 ≤ m) (high : m < t) :
    (0 ≤ d → 0 ≤ Int.tdiv (d * m) t ∧ Int.tdiv (d * m) t ≤ d) ∧
      (d ≤ 0 → d ≤ Int.tdiv (d * m) t ∧ Int.tdiv (d * m) t ≤ 0) := by
  have forward {e : Int} (h : 0 ≤ e) : 0 ≤ Int.tdiv (e * m) t ∧ Int.tdiv (e * m) t ≤ e := by
    have product : 0 ≤ e * m := Int.mul_nonneg h low
    rw [Int.tdiv_eq_ediv_of_nonneg product]
    refine ⟨Int.ediv_nonneg product (by omega), ?_⟩
    exact Int.ediv_le_of_le_mul (by omega) (Int.mul_le_mul_of_nonneg_left (by omega) h)
  refine ⟨forward, fun h => ?_⟩
  obtain ⟨first, second⟩ := forward (e := -d) (by omega)
  rw [Int.neg_mul, Int.neg_tdiv] at first second
  omega

/-- A blend lies between its two ends. -/
theorem blend_between (t p n i : Nat) (hp : p < 1024) (hn : n < 1024) (hi : i < 1024) :
    0 ≤ blendOf t p n i ∧ blendOf t p n i < 1024 := by
  unfold blendOf
  split
  · omega
  · next h =>
    obtain ⟨forward, backward⟩ := tdiv_part (d := (i : Int) - ((p + n) / 2 : Nat))
      (m := (gapOf p n : Nat)) (t := t) (by omega) (by omega)
    obtain rise | fall := Int.le_total 0 ((i : Int) - ((p + n) / 2 : Nat))
    · have bounds := forward rise
      omega
    · have bounds := backward fall
      omega

theorem adaptiveSample_eq (t p n i : Nat) (hp : p < 1024) (hn : n < 1024) (hi : i < 1024) :
    (adaptiveSample t (some p) (some n) i : Int) = blendOf t p n i := by
  obtain ⟨low, -⟩ := blend_between t p n i hp hn hi
  unfold blendOf at low ⊢
  simp only [adaptiveSample, distance_eq_gap]
  split
  · rfl
  · next h =>
    rw [if_neg h] at low
    exact Int.toNat_of_nonneg low

theorem adaptiveLineRule : AdaptiveLineRule := by
  intro s b f g1 g2 y v1 v2 vp vn h next_ missing inside effective repairs above below previous
    parity1 usable1 following parity2 usable2
  have between : BetweenWhole s b f y v1 v2 := ⟨next_, missing, inside, above.whole, below.whole⟩
  obtain ⟨t, runs, built, fs, cp⟩ := between.built h
  rw [filledAround_none inside repairs, Bool.and_false] at built
  refine ⟨t, _, runs, built, fs, cp, fun pick width x a c p n component hx ha hc hp hn => ?_⟩
  obtain ⟨view, seen, sample⟩ := between.sample component hx ha hc
  rw [previous, following, viewFrameLine_usable parity1 usable1, viewFrameLine_usable parity2 usable2,
    seen.getD hp, seen.getD hn, effective] at sample
  have mean := mean_small a c
  obtain ⟨-, high⟩ := blend_between b.t p.toNat n.toNat ((a.toNat + c.toNat) / 2) p.isLt n.isLt mean
  have blend := adaptiveSample_eq b.t p.toNat n.toNat ((a.toNat + c.toNat) / 2) p.isLt n.isLt mean
  have small : adaptiveSample b.t (some p.toNat) (some n.toNat) ((a.toNat + c.toNat) / 2) < 1024 := by
    omega
  have value := congrArg (Option.map fun r : Nat => (r : Int)) sample
  rw [Option.map_map, missingSample, Nat.mod_eq_of_lt small, Option.map_some, blend] at value
  exact value

end Sys2Proof.Machine
end

section
/-! SUPPORT. What a repair finds at a position and the value it gives (R144, R145). -/

namespace Sys2Proof.Machine

/-! ## Samples that views show -/

/-- The samples of a run are 10-bit values. -/
def SmallRun (run : List (Option Nat)) : Prop := ∀ n, some n ∈ run → n < 1024

/-- The samples of a view are 10-bit values. -/
structure SmallView (v : LineView) : Prop where
  y : SmallRun v.y
  cb : SmallRun v.cb
  cr : SmallRun v.cr

theorem SmallRun.getD {run : List (Option Nat)} (h : SmallRun run) {x n : Nat}
    (at_ : run.getD x none = some n) : n < 1024 := by
  refine h n ?_
  rw [List.getD_eq_getElem?_getD] at at_
  cases got : run[x]? with
  | none => simp [got] at at_
  | some o =>
    rw [got] at at_
    exact List.mem_of_getElem? (got.trans (congrArg some at_))

theorem smallRun_blank (n : Nat) : SmallRun (List.replicate n none) :=
  fun _ mem => by cases List.eq_of_mem_replicate mem

theorem smallRun_full (run : List Sample) : SmallRun (run.map fun x => some x.toNat) := by
  intro n mem
  obtain ⟨x, -, eq⟩ := List.mem_map.mp mem
  cases eq
  exact x.isLt

theorem smallRun_masked (hidden : Nat → Bool) (run : List Sample) :
    ∀ i, SmallRun (maskSamples hidden i run) := by
  induction run with
  | nil => exact fun _ _ mem => by cases mem
  | cons v vs ih =>
    intro i n mem
    obtain here | later := List.mem_cons.mp mem
    · split at here
      · cases here
      · cases here
        exact v.isLt
    · exact ih (i + 1) n later

theorem smallView_blank : SmallView LineView.blank :=
  ⟨smallRun_blank 720, smallRun_blank 360, smallRun_blank 360⟩

theorem smallView_entry (e : LineEntry) : SmallView (viewEntry e) := by
  unfold viewEntry
  split
  · exact smallView_blank
  · split
    · exact ⟨smallRun_full _, smallRun_full _, smallRun_full _⟩
    · exact ⟨smallRun_full _, smallRun_full _, smallRun_full _⟩
    · exact ⟨smallRun_masked _ _ 0, smallRun_masked _ _ 0, smallRun_masked _ _ 0⟩
    · exact smallView_blank
    · exact smallView_blank

theorem smallView_frameLine (s : State) (found : Option FoundField) (y : Nat) :
    SmallView (viewFrameLine s found y) := by
  unfold viewFrameLine
  split
  · exact smallView_blank
  · split
    · unfold viewLine
      split
      · exact smallView_blank
      · exact smallView_entry _
    · exact smallView_blank

theorem smallView_above (s : State) (found : Option FoundField) (y : Nat) :
    SmallView (viewAbove s found y) := by
  cases y with
  | zero => exact smallView_blank
  | succ z => exact smallView_frameLine s found z

theorem smallView_twoAbove (s : State) (found : Option FoundField) (y : Nat) :
    SmallView (viewTwoAbove s found y) := by
  cases y with
  | zero => exact smallView_blank
  | succ z => exact smallView_above s found z

/-! ## Components of a repair -/

/-- A component of a view, with the marks that a repair keeps for it. -/
structure RepairedAs (view : LineView → List (Option Nat)) (marks : RepairedEntry → List Bool) : Prop where
  unfilled : ∀ b y v, repairedEntry b (y / 2) = none → view (sourceView b y v) = view v
  filled : ∀ b y v r, repairedEntry b (y / 2) = some r →
    view (sourceView b y v) = withoutFilled (marks r) (view v)
  blank : ∀ x, (view LineView.blank).getD x none = none
  small : ∀ v, SmallView v → SmallRun (view v)

theorem repairedAs_y : RepairedAs LineView.y RepairedEntry.luma :=
  ⟨fun _ _ _ h => by simp [sourceView, h], fun _ _ _ _ h => by simp [sourceView, h],
    replicate_getD_none 720, fun _ h => h.y⟩

theorem repairedAs_cb : RepairedAs LineView.cb RepairedEntry.chroma :=
  ⟨fun _ _ _ h => by simp [sourceView, h], fun _ _ _ _ h => by simp [sourceView, h],
    replicate_getD_none 360, fun _ h => h.cb⟩

theorem repairedAs_cr : RepairedAs LineView.cr RepairedEntry.chroma :=
  ⟨fun _ _ _ h => by simp [sourceView, h], fun _ _ _ _ h => by simp [sourceView, h],
    replicate_getD_none 360, fun _ h => h.cr⟩

theorem withoutFilled_getD (marks : List Bool) (run : List (Option Nat)) (x : Nat) :
    (withoutFilled marks run).getD x none = if marks.getD x false = true then none else run.getD x none := by
  by_cases inside : x < run.length
  · simp [withoutFilled, List.getD_eq_getElem?_getD, inside]
  · have outside : run.getD x none = none := by
      simp [List.getD_eq_getElem?_getD, List.getElem?_eq_none (Nat.not_lt.mp inside)]
    have outside' : (withoutFilled marks run).getD x none = none := by
      simp [withoutFilled, List.getD_eq_getElem?_getD, inside]
    rw [outside, outside', ite_self]

section reads

variable {view : LineView → List (Option Nat)} {marks : RepairedEntry → List Bool}

theorem RepairedAs.source (h : RepairedAs view marks) (b : BuildRecord) (y x : Nat) (v : LineView) :
    (view (sourceView b y v)).getD x none = sourceAt b (y / 2) x marks (view v) := by
  cases entry : repairedEntry b (y / 2) with
  | none =>
    rw [h.unfilled b y v entry]
    unfold sourceAt
    rw [show (b.repairs.find? fun r => r.line == y / 2) = none from entry]
  | some r =>
    rw [h.filled b y v r entry, withoutFilled_getD]
    unfold sourceAt
    rw [show (b.repairs.find? fun r => r.line == y / 2) = some r from entry]

/-! ## What the repair of an own line reads (R144) -/

theorem viewFrameLine_serving {s : State} {p : Parity} {y : Nat} (h : lineParity y = p)
    (found : Option FoundField) : viewFrameLine s (serving p found) y = viewFrameLine s found y := by
  cases found with
  | none => rfl
  | some f =>
    by_cases same : f.parity = p
    · simp [serving, Option.filter, same]
    · have off : lineParity y ≠ f.parity := fun eq => same (eq.symm.trans h)
      simp [serving, Option.filter, same, viewFrameLine, off]

theorem otherParity_of {y : Nat} {p : Parity} (h : lineParity y = p) :
    lineParity (y + 1) = otherParity p ∧ (1 ≤ y → lineParity (y - 1) = otherParity p) := by
  refine lineParity_ne ?_
  rw [h]
  cases p <;> nofun

theorem viewAbove_serving {s : State} {p : Parity} {y : Nat} (h : lineParity y = p)
    (found : Option FoundField) :
    viewAbove s (serving (otherParity p) found) y = viewAbove s found y := by
  cases y with
  | zero => rfl
  | succ z => exact viewFrameLine_serving ((otherParity_of h).2 (Nat.le_add_left 1 z)) found

theorem temporalOpen_iff (b : BuildRecord) :
    temporalOpen b = true ↔ b.agreed = true ∧ (b.signature = .still ∨ b.signature = .repeated) := by
  simp [temporalOpen]

/-- R144: the value that a repair gives a position, and the step that gave it. -/
def repairFill (black : Nat) (q : RepairRead) : Nat × FillStep :=
  fillSample black q.own q.temporal q.above q.below q.prevAbove q.prevBelow

theorem fillRun_eq (h : RepairedAs view marks) {s : State} {b : BuildRecord} {y : Nat}
    (own : lineParity y = ownParity b) (black : Nat) (e : LineEntry) :
    fillRun black view (viewEntry e) (repairSources s b y) =
      (List.range (view (viewEntry e)).length).map fun x =>
        repairFill black (repairReadAt s b y e view marks x) := by
  unfold fillRun
  refine List.map_congr_left fun x _ => ?_
  have temporal : (view (repairSources s b y).temporal).getD x none =
      (repairReadAt s b y e view marks x).temporal := by
    simp only [repairSources, repairReadAt, ← temporalOpen_iff]
    split
    · rw [viewFrameLine_serving own]
    · exact h.blank x
  have above := h.source b (y - 2) x (viewTwoAbove s b.current y)
  have below := h.source b (y + 2) x (viewFrameLine s b.current (y + 2))
  have prevAbove := viewAbove_serving (s := s) own b.previous
  have prevBelow := viewFrameLine_serving (s := s) (otherParity_of own).1 b.previous
  rw [repairFill, ← temporal]
  simp only [repairSources, repairReadAt, above, below, prevAbove, prevBelow]

/-! ## Values (R144) -/

theorem average_none {a c : Option Nat} : average a c = none ↔ a = none ∧ c = none := by
  cases a <;> cases c <;> simp [average]

theorem average_some {a c : Option Nat} (h : a ≠ none ∨ c ≠ none) : average a c = some (meanOf a c) := by
  refine average_eq_mean ?_
  rw [Bool.or_eq_true, Option.isSome_iff_ne_none, Option.isSome_iff_ne_none]
  exact h

theorem repairFill_own {black : Nat} {q : RepairRead} {a : Nat} (h : q.own = some a) :
    repairFill black q = (a, .received) := by
  simp [repairFill, fillSample, h]

theorem repairFill_temporal {black : Nat} {q : RepairRead} {a : Nat} (own : q.own = none)
    (h : q.temporal = some a) : repairFill black q = (a, .temporal) := by
  simp [repairFill, fillSample, own, h]

theorem repairFill_spatial {black : Nat} {q : RepairRead} (own : q.own = none)
    (temporal : q.temporal = none) (h : q.above ≠ none ∨ q.below ≠ none) :
    repairFill black q = (meanOf q.above q.below, .spatial) := by
  simp [repairFill, fillSample, own, temporal, average_some h]

theorem repairFill_previous {black : Nat} {q : RepairRead} (own : q.own = none)
    (temporal : q.temporal = none) (above : q.above = none) (below : q.below = none)
    (h : q.prevAbove ≠ none ∨ q.prevBelow ≠ none) :
    repairFill black q = (meanOf q.prevAbove q.prevBelow, .unrepaired) := by
  simp [repairFill, fillSample, own, temporal, above, below, average_some h,
    average_none.mpr ⟨rfl, rfl⟩]

theorem repairFill_black {black : Nat} {q : RepairRead} (own : q.own = none)
    (temporal : q.temporal = none) (above : q.above = none) (below : q.below = none)
    (prevAbove : q.prevAbove = none) (prevBelow : q.prevBelow = none) :
    repairFill black q = (black, .unrepaired) := by
  simp [repairFill, fillSample, own, temporal, above, below, prevAbove, prevBelow,
    average_none.mpr ⟨rfl, rfl⟩]

theorem repairFill_value (black : Nat) (q : RepairRead) : RepairValue black q (repairFill black q).1 := by
  refine ⟨fun a own => ?_, fun a own temporal => ?_, fun own temporal some_ => ?_,
    fun own temporal above below => ⟨fun some_ => ?_, fun prevAbove prevBelow => ?_⟩⟩
  · rw [repairFill_own own]
  · rw [repairFill_temporal own temporal]
  · rw [repairFill_spatial own temporal some_]
  · rw [repairFill_previous own temporal above below some_]
  · rw [repairFill_black own temporal above below prevAbove prevBelow]

end reads

end Sys2Proof.Machine
end

section
/-! SUPPORT. The range, the step and the counts of what a repair fills (R144, R145). -/

namespace Sys2Proof.Machine

/-! ## Values in range -/

/-- A sample read is a 10-bit value. -/
def SmallSample (o : Option Nat) : Prop := ∀ n, o = some n → n < 1024

theorem smallSample_none : SmallSample none := fun _ h => by cases h

theorem SmallRun.sample {run : List (Option Nat)} (h : SmallRun run) (x : Nat) :
    SmallSample (run.getD x none) := fun _ at_ => h.getD at_

theorem meanOf_small {a c : Option Nat} (ha : SmallSample a) (hc : SmallSample c) : meanOf a c < 1024 := by
  cases a with
  | none =>
    cases c with
    | none => exact Nat.zero_lt_succ _
    | some n => exact hc n rfl
  | some m =>
    have low := ha m rfl
    cases c with
    | none => exact low
    | some n =>
      have high := hc n rfl
      simp only [meanOf]
      omega

/-- What a repair finds at a position is in range. -/
structure SmallRead (q : RepairRead) : Prop where
  own : SmallSample q.own
  temporal : SmallSample q.temporal
  above : SmallSample q.above
  below : SmallSample q.below
  prevAbove : SmallSample q.prevAbove
  prevBelow : SmallSample q.prevBelow

theorem repairFill_small {black : Nat} {q : RepairRead} (dark : black < 1024) (h : SmallRead q) :
    (repairFill black q).1 < 1024 := by
  cases own : q.own with
  | some a =>
    rw [repairFill_own own]
    exact h.own a own
  | none =>
    cases temporal : q.temporal with
    | some a =>
      rw [repairFill_temporal own temporal]
      exact h.temporal a temporal
    | none =>
      by_cases around : q.above ≠ none ∨ q.below ≠ none
      · rw [repairFill_spatial own temporal around]
        exact meanOf_small h.above h.below
      · obtain ⟨above, below⟩ := not_or.mp around
        by_cases previous : q.prevAbove ≠ none ∨ q.prevBelow ≠ none
        · rw [repairFill_previous own temporal (not_not.mp above) (not_not.mp below) previous]
          exact meanOf_small h.prevAbove h.prevBelow
        · obtain ⟨prevAbove, prevBelow⟩ := not_or.mp previous
          rw [repairFill_black own temporal (not_not.mp above) (not_not.mp below)
            (not_not.mp prevAbove) (not_not.mp prevBelow)]
          exact dark

section reads

variable {view : LineView → List (Option Nat)} {marks : RepairedEntry → List Bool}

theorem sourceAt_small {run : List (Option Nat)} (h : SmallRun run) (b : BuildRecord) (l x : Nat)
    (marks : RepairedEntry → List Bool) : SmallSample (sourceAt b l x marks run) := by
  unfold sourceAt
  split
  · exact h.sample x
  · split
    · exact smallSample_none
    · exact h.sample x

theorem repairReadAt_small (h : RepairedAs view marks) (s : State) (b : BuildRecord) (y : Nat)
    (e : LineEntry) (x : Nat) : SmallRead (repairReadAt s b y e view marks x) where
  own := (h.small _ (smallView_entry e)).sample x
  temporal := by
    unfold repairReadAt
    dsimp only
    split
    · exact (h.small _ (smallView_frameLine s b.beforePrevious y)).sample x
    · exact smallSample_none
  above := sourceAt_small (h.small _ (smallView_twoAbove s b.current y)) b _ x marks
  below := sourceAt_small (h.small _ (smallView_frameLine s b.current (y + 2))) b _ x marks
  prevAbove := (h.small _ (smallView_above s b.previous y)).sample x
  prevBelow := (h.small _ (smallView_frameLine s b.previous (y + 1))).sample x

end reads

/-! ## Steps and counts (R144, R145) -/

theorem repairFill_step (black : Nat) (q : RepairRead) :
    (repairFill black q).2 =
      if q.own.isSome = true then .received
      else if q.temporal.isSome = true then .temporal
      else if (q.above.isSome || q.below.isSome) = true then .spatial
      else .unrepaired := by
  cases own : q.own with
  | some a => rw [repairFill_own own]; rfl
  | none =>
    cases temporal : q.temporal with
    | some a => rw [repairFill_temporal own temporal]; rfl
    | none =>
      by_cases around : q.above ≠ none ∨ q.below ≠ none
      · rw [repairFill_spatial own temporal around]
        simp [Option.isSome_iff_ne_none, around]
      · obtain ⟨above, below⟩ := not_or.mp around
        rw [not_not] at above below
        by_cases previous : q.prevAbove ≠ none ∨ q.prevBelow ≠ none
        · rw [repairFill_previous own temporal above below previous, above, below]
          rfl
        · obtain ⟨prevAbove, prevBelow⟩ := not_or.mp previous
          rw [repairFill_black own temporal above below (not_not.mp prevAbove) (not_not.mp prevBelow),
            above, below]
          rfl

theorem step_temporal (black : Nat) (q : RepairRead) :
    ((repairFill black q).2 == .temporal) = q.byTemporal := by
  rw [repairFill_step, RepairRead.byTemporal]
  cases q.own <;> cases q.temporal <;> cases (q.above.isSome || q.below.isSome) <;> rfl

theorem step_spatial (black : Nat) (q : RepairRead) :
    ((repairFill black q).2 == .spatial) = q.bySpatial := by
  rw [repairFill_step, RepairRead.bySpatial]
  cases q.own <;> cases q.temporal <;> cases (q.above.isSome || q.below.isSome) <;> rfl

theorem step_unrepaired (black : Nat) (q : RepairRead) :
    ((repairFill black q).2 == .unrepaired) = q.unrepaired := by
  have around : (q.above.isNone && q.below.isNone) = !(q.above.isSome || q.below.isSome) := by simp
  rw [repairFill_step, RepairRead.unrepaired, Bool.and_assoc, around]
  cases q.own <;> cases q.temporal <;> cases (q.above.isSome || q.below.isSome) <;> rfl

theorem step_filled (black : Nat) (q : RepairRead) :
    ((repairFill black q).2 != .received) = q.own.isNone := by
  rw [repairFill_step]
  cases q.own <;> cases q.temporal <;> cases (q.above.isSome || q.below.isSome) <;> rfl

/-- R145: a step's count over a run is the number of positions that it filled. -/
theorem countStep_eq {st : FillStep} {p : RepairRead → Bool} {black : Nat}
    (h : ∀ q, ((repairFill black q).2 == st) = p q) (qs : List RepairRead) :
    countStep st (qs.map (repairFill black)) = (qs.filter p).length := by
  rw [countStep, List.filter_map, List.length_map]
  refine congrArg List.length (List.filter_congr fun q _ => ?_)
  exact h q

/-- R145: the counts of the three runs of an entry. -/
theorem repairCounts_eq (luma cb cr : List RepairRead) :
    repairCounts (luma.map (repairFill 64)) (cb.map (repairFill 512)) (cr.map (repairFill 512)) =
      { temporal := ((luma ++ cb ++ cr).filter RepairRead.byTemporal).length
        spatial := ((luma ++ cb ++ cr).filter RepairRead.bySpatial).length
        unrepaired := ((luma ++ cb ++ cr).filter RepairRead.unrepaired).length } := by
  simp only [repairCounts, countStep_eq (step_temporal _), countStep_eq (step_spatial _),
    countStep_eq (step_unrepaired _), List.filter_append, List.length_append]

/-- The marks of a run name the positions that a repair filled. -/
theorem runMarks_eq (black : Nat) (qs : List RepairRead) :
    runMarks (qs.map (repairFill black)) = qs.map fun q => q.own.isNone := by
  rw [runMarks, List.map_map]
  exact List.map_congr_left fun q _ => step_filled black q

theorem runSamples_get {black width x : Nat} {q : Nat → RepairRead} (dark : black < 1024)
    (small : ∀ x, SmallRead (q x)) (h : x < width) :
    ∃ a, (runSamples (((List.range width).map q).map (repairFill black)))[x]? = some a ∧
      a.toNat = (repairFill black (q x)).1 := by
  refine ⟨BitVec.ofNat 10 (repairFill black (q x)).1, ?_, ?_⟩
  · simp [runSamples, List.getElem?_range h]
  · rw [BitVec.toNat_ofNat]
    exact Nat.mod_eq_of_lt (repairFill_small dark (small x))

end Sys2Proof.Machine
end

section
/-! SUPPORT. The repair of an own line and what it is built from (R33, R139, R144, R145). -/

namespace Sys2Proof.Machine

/-! ## The entry written back (R33, R145) -/

theorem find_putEntry {entry e : LineEntry} {table : List LineEntry}
    (h : (table.find? fun x => x.line == entry.line) = some e) :
    (putEntry entry table).find? (fun x => x.line == entry.line) = some entry := by
  induction table with
  | nil => cases h
  | cons x xs ih =>
    by_cases hit : x.line = entry.line
    · simp [putEntry, hit]
    · have later : (xs.find? fun x => x.line == entry.line) = some e := by simpa [hit] using h
      have rest := ih later
      simpa [putEntry, hit] using rest

theorem entryAt_occupied {s : State} {i l : Nat} {e : LineEntry} (h : entryAt s i l = some e) :
    ∃ o, Occupies s i o ∧ (o.table.find? fun x => x.line == l) = some e := by
  unfold entryAt at h
  split at h
  · cases h
  · next o occupied =>
    refine ⟨o, ⟨?_, occupied⟩, h⟩
    by_contra outside
    rw [slotAt, List.getD_eq_getElem?_getD, List.getElem?_eq_none (Nat.not_lt.mp outside)] at occupied
    cases occupied

/-- R145: the entry that a repair writes back. -/
def repairedWith (l : Nat) (v : LineSamples) : LineEntry :=
  { line := l, state := .repaired, spans := [], samples := some v }

/-- The samples of three filled runs. -/
def filledSamples (y cb cr : List (Nat × FillStep)) : LineSamples :=
  { y := runSamples y, cb := runSamples cb, cr := runSamples cr }

section written

variable {s : State} {slot l : Nat} {e : LineEntry}

theorem writeBack_fs (slot : Nat) (b : BuildRecord) (l : Nat) (y cb cr : List (Nat × FillStep)) (s : State) :
    (writeBack slot b l y cb cr s).fs =
      (s.updateOccupant slot fun o =>
        { o with table := putEntry (repairedWith l (filledSamples y cb cr)) o.table }).fs := rfl

theorem writeBack_cp (slot : Nat) (b : BuildRecord) (l : Nat) (y cb cr : List (Nat × FillStep)) (s : State) :
    (writeBack slot b l y cb cr s).cp =
      { s.cp with totals := countRepairs (repairCounts y cb cr) s.cp.totals } := rfl

theorem slotAt_writeBack_other {b : BuildRecord} {y cb cr : List (Nat × FillStep)} {j : Nat}
    (at_ : entryAt s slot l = some e) (other : j ≠ slot) :
    slotAt (writeBack slot b l y cb cr s) j = slotAt s j := by
  obtain ⟨o, ⟨inside, -⟩, -⟩ := entryAt_occupied at_
  rw [slotAt_of_fs (writeBack_fs slot b l y cb cr s), State.updateOccupant, slotAt_set inside, if_neg other]

theorem entryAt_writeBack {b : BuildRecord} {y cb cr : List (Nat × FillStep)}
    (at_ : entryAt s slot l = some e) :
    entryAt (writeBack slot b l y cb cr s) slot l = some (repairedWith l (filledSamples y cb cr)) := by
  obtain ⟨o, ⟨inside, occupied⟩, found⟩ := entryAt_occupied at_
  rw [entryAt, slotAt_of_fs (writeBack_fs slot b l y cb cr s), State.updateOccupant, slotAt_set inside,
    if_pos rfl, occupied]
  exact find_putEntry (entry := repairedWith l (filledSamples y cb cr)) found

end written

/-! ## The repair of an own line (R144) -/

/-- R144: what a repair of entry e, at line y of the build b, finds in one component. -/
def repairReads (s : State) (b : BuildRecord) (y : Nat) (e : LineEntry)
    (view : LineView → List (Option Nat)) (marks : RepairedEntry → List Bool) (width : Nat) :
    List RepairRead :=
  (List.range width).map (repairReadAt s b y e view marks)

/-- R144: own line y of the build b, whose entry e is DROPOUT or LOST. -/
structure RepairsOwn (s : State) (b : BuildRecord) (f : FoundField) (y : Nat) (e : LineEntry) : Prop where
  build : s.lb.build = some b
  current : b.current = some f
  parity : lineParity y = f.parity
  at_ : entryAt s f.slot (y / 2) = some e
  state : e.state = .dropout ∨ e.state = .lost
  luma : (viewEntry e).y.length = 720
  blue : (viewEntry e).cb.length = 360
  red : (viewEntry e).cr.length = 360

section own

variable {s : State} {b : BuildRecord} {f : FoundField} {y : Nat} {e : LineEntry}

theorem RepairsOwn.own (h : RepairsOwn s b f y e) : lineParity y = ownParity b := by
  rw [ownParity_of h.current, h.parity]

/-- The filled run of luma. -/
def filledY (s : State) (b : BuildRecord) (y : Nat) (e : LineEntry) : List (Nat × FillStep) :=
  (repairReads s b y e LineView.y RepairedEntry.luma 720).map (repairFill 64)

/-- The filled run of Cb. -/
def filledCb (s : State) (b : BuildRecord) (y : Nat) (e : LineEntry) : List (Nat × FillStep) :=
  (repairReads s b y e LineView.cb RepairedEntry.chroma 360).map (repairFill 512)

/-- The filled run of Cr. -/
def filledCr (s : State) (b : BuildRecord) (y : Nat) (e : LineEntry) : List (Nat × FillStep) :=
  (repairReads s b y e LineView.cr RepairedEntry.chroma 360).map (repairFill 512)

/-- The samples that the repair gives the line. -/
def repairedLine (s : State) (b : BuildRecord) (y : Nat) (e : LineEntry) : LineSamples :=
  filledSamples (filledY s b y e) (filledCb s b y e) (filledCr s b y e)

theorem fillRun_reads {view : LineView → List (Option Nat)} {marks : RepairedEntry → List Bool}
    (seen : RepairedAs view marks) (h : RepairsOwn s b f y e) (black : Nat) {width : Nat}
    (length : (view (viewEntry e)).length = width) :
    fillRun black view (viewEntry e) (repairSources s b y) =
      (repairReads s b y e view marks width).map (repairFill black) := by
  rw [fillRun_eq seen h.own, length, repairReads, List.map_map]
  rfl

theorem repairAt_own (h : RepairsOwn s b f y e) :
    repairAt s y =
      writeBack f.slot b (y / 2) (filledY s b y e) (filledCb s b y e) (filledCr s b y e) s := by
  have needs : needsRepair e = true := by
    obtain state | state := h.state <;> simp [needsRepair, state]
  have luma : fillRun 64 LineView.y (viewEntry e) (repairSources s b y) = filledY s b y e :=
    fillRun_reads repairedAs_y h 64 h.luma
  have blue : fillRun 512 LineView.cb (viewEntry e) (repairSources s b y) = filledCb s b y e :=
    fillRun_reads repairedAs_cb h 512 h.blue
  have red : fillRun 512 LineView.cr (viewEntry e) (repairSources s b y) = filledCr s b y e :=
    fillRun_reads repairedAs_cr h 512 h.red
  obtain ⟨build, current, parity, at_, -⟩ := h
  have acts : repairAt s y =
      writeBack f.slot b (y / 2) (fillRun 64 LineView.y (viewEntry e) (repairSources s b y))
        (fillRun 512 LineView.cb (viewEntry e) (repairSources s b y))
        (fillRun 512 LineView.cr (viewEntry e) (repairSources s b y)) s := by
    simp [repairAt, build, current, parity, at_, needs]
  rw [acts, luma, blue, red]

/-! ## The mark (R139) -/

theorem any_runMarks (black : Nat) (qs : List RepairRead) :
    true ∈ runMarks (qs.map (repairFill black)) ↔ ∃ q ∈ qs, q.own = none := by
  rw [runMarks_eq, List.mem_map]
  simp [Option.isNone_iff_eq_none]

theorem repairReads_own {view : LineView → List (Option Nat)} {marks : RepairedEntry → List Bool}
    {width : Nat} :
    (∃ q ∈ repairReads s b y e view marks width, q.own = none) ↔
      ∃ x, x < width ∧ (view (viewEntry e)).getD x none = none := by
  simp only [repairReads, List.mem_map, List.mem_range]
  exact ⟨fun ⟨_, ⟨x, hx, eq⟩, none_⟩ => ⟨x, hx, by rw [← eq] at none_; exact none_⟩,
    fun ⟨x, hx, none_⟩ => ⟨_, ⟨x, hx, rfl⟩, none_⟩⟩

theorem filledBy_noted {b : BuildRecord} {l : Nat} {luma cb : List (Nat × FillStep)}
    (new : ∀ r ∈ b.repairs, r.line ≠ l) :
    FilledBy (repairNoted b l luma cb) l ↔ true ∈ runMarks luma ∨ true ∈ runMarks cb := by
  have none_ : (b.repairs.find? fun r => r.line == l) = none := by
    rw [List.find?_eq_none]
    intro r mem
    simpa using new r mem
  simp [FilledBy, repairNoted, List.find?_append, none_]

/-- R139: the repaired mark of an own line just repaired. -/
theorem filledLine_own (new : ∀ r ∈ b.repairs, r.line ≠ y / 2) :
    filledLine (repairNoted b (y / 2) (filledY s b y e) (filledCb s b y e)) (y / 2) = true ↔
      ∃ x, (x < 720 ∧ (viewEntry e).y.getD x none = none) ∨
        (x < 360 ∧ (viewEntry e).cb.getD x none = none) := by
  rw [filledLine_iff, filledBy_noted new, filledY, filledCb, any_runMarks, any_runMarks, repairReads_own,
    repairReads_own, ← exists_or]

end own

/-! ## The rule -/

theorem builtLine_own {s : State} {b : BuildRecord} {f : FoundField} {y : Nat} {v : LineSamples}
    (current : b.current = some f) (parity : lineParity y = f.parity)
    (whole : WholeEntry s f.slot (y / 2) v) :
    builtLine s b y = { samples := some v, repaired := filledLine b (y / 2) } := by
  have own : lineParity y = ownParity b := by rw [ownParity_of current, parity]
  have line : builtLine s b y = ownLine s b y := if_pos own
  rw [line, ownLine, current, viewFrameLine_whole parity whole, viewSamples_fullView]

theorem repairedLine_runs (s : State) (b : BuildRecord) (y : Nat) (e : LineEntry) :
    (repairedLine s b y e).y = runSamples (((List.range 720).map
        (repairReadAt s b y e LineView.y RepairedEntry.luma)).map (repairFill 64)) ∧
      (repairedLine s b y e).cb = runSamples (((List.range 360).map
        (repairReadAt s b y e LineView.cb RepairedEntry.chroma)).map (repairFill 512)) ∧
      (repairedLine s b y e).cr = runSamples (((List.range 360).map
        (repairReadAt s b y e LineView.cr RepairedEntry.chroma)).map (repairFill 512)) := by
  simp only [repairedLine, filledSamples, filledY, filledCb, filledCr, repairReads, and_self]

theorem repairedLine_values (s : State) (b : BuildRecord) (y : Nat) (e : LineEntry) :
    (∀ x, x < 720 → ∃ a, (repairedLine s b y e).y[x]? = some a ∧
      RepairValue 64 (repairReadAt s b y e LineView.y RepairedEntry.luma x) a.toNat) ∧
    (∀ x, x < 360 → ∃ a c, (repairedLine s b y e).cb[x]? = some a ∧ (repairedLine s b y e).cr[x]? = some c ∧
      RepairValue 512 (repairReadAt s b y e LineView.cb RepairedEntry.chroma x) a.toNat ∧
      RepairValue 512 (repairReadAt s b y e LineView.cr RepairedEntry.chroma x) c.toNat) := by
  obtain ⟨runY, runCb, runCr⟩ := repairedLine_runs s b y e
  rw [runY, runCb, runCr]
  refine ⟨fun x hx => ?_, fun x hx => ?_⟩
  · obtain ⟨a, at_, value⟩ := runSamples_get (black := 64) (by decide)
      (repairReadAt_small repairedAs_y s b y e) hx
    refine ⟨a, at_, ?_⟩
    rw [value]
    exact repairFill_value _ _
  · obtain ⟨a, atA, valueA⟩ := runSamples_get (black := 512) (by decide)
      (repairReadAt_small repairedAs_cb s b y e) hx
    obtain ⟨c, atC, valueC⟩ := runSamples_get (black := 512) (by decide)
      (repairReadAt_small repairedAs_cr s b y e) hx
    refine ⟨a, c, atA, atC, ?_, ?_⟩
    · rw [valueA]
      exact repairFill_value _ _
    · rw [valueC]
      exact repairFill_value _ _

theorem repairedLineRule : RepairedLineRule := by
  intro s b f y e reads h next_ parity at_ state luma blue red new reads_
  obtain ⟨u, b', t, course⟩ := buildLine_course h next_
  obtain ⟨build, -, current, -, -⟩ := next_
  have repairs : RepairsOwn s b f y e := ⟨build, current, parity, at_, state, luma, blue, red⟩
  have after : u = writeBack f.slot b (y / 2) (filledY s b y e) (filledCb s b y e) (filledCr s b y e) s := by
    rw [course.repaired, linesRead_own repairs.own, ← repairAt_own repairs]
    rfl
  have record : b' = repairNoted b (y / 2) (filledY s b y e) (filledCb s b y e) := by
    have noted := (writeBack_from s b f.slot (y / 2) (filledY s b y e) (filledCb s b y e)
      (filledCr s b y e)).build
    rw [← after, course.from_.build] at noted
    exact Option.some.inj noted
  have entry : entryAt u f.slot (y / 2) = some (repairedWith (y / 2) (repairedLine s b y e)) := by
    rw [after]
    exact entryAt_writeBack at_
  have line := builtLine_own (b := b') (by rw [record]; exact current) parity
    ⟨_, entry, .inr rfl, rfl⟩
  obtain ⟨fs, cp⟩ := course.store
  obtain ⟨valuesY, valuesC⟩ := repairedLine_values s b y e
  refine ⟨t, repairedLine s b y e, filledLine b' (y / 2), course.runs, ?_, ?_, ?_, fun j other => ?_, valuesY, valuesC, ?_⟩
  · rw [LineBuilt, course.lines, line]
  · rw [record]
    exact filledLine_own new
  · rw [entryAt, slotAt_of_fs fs]
    exact entry
  · rw [slotAt_of_fs fs, after]
    exact slotAt_writeBack_other at_ other
  · have counts : repairCounts (filledY s b y e) (filledCb s b y e) (filledCr s b y e) =
        { temporal := (reads.filter RepairRead.byTemporal).length
          spatial := (reads.filter RepairRead.bySpatial).length
          unrepaired := (reads.filter RepairRead.unrepaired).length } := by
      rw [reads_]
      exact repairCounts_eq _ _ _
    rw [cp, after, writeBack_cp, counts]
    rfl

end Sys2Proof.Machine
end

section
/-! SUPPORT. The notices after a core line: a seam's set, and the Scaler's turn (R138, R151 to R153,
R170, R175). -/

namespace Sys2Proof.Machine

/-! ## The set of a seam (R151 to R153) -/

theorem neighbourCounts_of {s u : State} (cu : u.cu = s.cu) (ownership : u.cp.ownership = s.cp.ownership)
    (side : Side) : neighbourCounts u side = neighbourCounts s side := by
  simp only [neighbourCounts, neighbourOf, cu, ownership]

theorem coreSamples_of {s u : State} (lines : u.lb.lines = s.lb.lines)
    (ownership : u.cp.ownership = s.cp.ownership) (y : Nat) : coreSamples u y = coreSamples s y := by
  simp only [coreSamples, coreLine, lines, ownership]

theorem refusesQueueing_counts {s : State} {side : Side} (h : neighbourCounts s side = true) :
    refusesQueueing s.cu.membership = false := by
  unfold neighbourCounts at h
  split at h
  · cases h
  · rw [Bool.and_eq_true, beq_iff_eq] at h
    rw [h.1]
    rfl

theorem formSet_quiet {s : State} {b : BuildRecord} {side : Side} (build : s.lb.build = some b)
    (h : b.agreed = false ∨ neighbourCounts s side = false) : formSet side s = s := by
  unfold formSet
  rw [build]
  obtain no | no := h <;> simp [no]

/-- R151: the set that the core lines of a side form. -/
def sideSet (s : State) (frame : FieldNo) (side : Side) : HaloSet :=
  { frame := frame, lines := (setCoreLines s.cp.ownership side).map fun y => (y, coreSamples s y) }

theorem formSet_offers {s : State} {b : BuildRecord} {side : Side} (build : s.lb.build = some b)
    (agreed : b.agreed = true) (counts : neighbourCounts s side = true) :
    formSet side s = offerNew side (sideSet s b.frame side) s := by
  unfold formSet
  rw [build]
  simp [agreed, counts, sideSet]

/-- R152: a direction in which a set that was pending has been superseded by the new one. -/
def superseding (d : Direction) : Direction :=
  { d with setsSuperseded := if d.pending = none then d.setsSuperseded else d.setsSuperseded + 1 }

theorem supersede_pending (d : Direction) (set : Option HaloSet) :
    { supersede d with pending := set } = { superseding d with pending := set } := by
  cases pending : d.pending <;> simp [supersede, superseding, pending]

theorem supersede_counts (d : Direction) :
    (supersede d).credit = d.credit ∧ (supersede d).outbound = d.outbound ∧
      (supersede d).setsSent = d.setsSent := by
  unfold supersede
  split <;> exact ⟨rfl, rfl, rfl⟩

theorem setDir_twice_hx {s w : State} (hx : w.hx = s.hx) (side : Side) (d e : Direction) :
    ((w.setDir side d).setDir side e).hx = (s.setDir side e).hx := by
  cases side <;> simp [State.setDir, hx]

section offer

variable {s : State} {side : Side} {n : Station} {set : HaloSet}

theorem offerNew_room (neighbour : neighbourOf s side = some n) (credit : 1 ≤ (dirOf s side).credit)
    (room : s.pli.bulk.length + set.lines.length ≤ 16)
    (queues : refusesQueueing s.cu.membership = false) :
    (offerNew side set s).hx =
        (s.setDir side
          { superseding (dirOf s side) with
            credit := (dirOf s side).credit - 1
            pending := none
            outbound := (dirOf s side).outbound ++
              [{ frame := set.frame, remaining := set.lines.length, taken := 0, lossCounted := false }]
            setsSent := (dirOf s side).setsSent + 1 }).hx ∧
      (offerNew side set s).pli =
        { s.pli with
          bulk := s.pli.bulk ++
            set.lines.map fun l =>
              { addressee := n, frame := set.frame, line := l.1, samples := l.2 } } := by
  obtain ⟨credit_, outbound, sent⟩ := supersede_counts (dirOf s side)
  obtain ⟨w, hw⟩ : ∃ w, w = s.setDir side (supersede (dirOf s side)) := ⟨_, rfl⟩
  have dir : dirOf w side = supersede (dirOf s side) := by rw [hw, dirOf_setDir_same]
  have pli : w.pli = s.pli := by simp [hw]
  have near : neighbourOf w side = some n := by
    rw [← neighbour, neighbourOf, neighbourOf, hw]
    simp
  have queued := offerSet_room (set := set) near (by rw [dir, credit_]; exact credit)
    (by rw [pli]; exact room) (by rw [hw]; simpa using queues)
  have offers : offerNew side set s = offerSet side set w := by rw [hw]; rfl
  rw [offers, queued, dir, credit_, outbound, sent, pli]
  refine ⟨?_, rfl⟩
  have taken := congrArg (fun d : Direction =>
    ({ d with
      credit := (dirOf s side).credit - 1
      outbound := (dirOf s side).outbound ++
        [{ frame := set.frame, remaining := set.lines.length, taken := 0, lossCounted := false }]
      setsSent := (dirOf s side).setsSent + 1 } : Direction)) (supersede_pending (dirOf s side) none)
  rw [State.setPli_hx, hw, setDir_twice_hx rfl]
  exact congrArg (fun d => (s.setDir side d).hx) taken

theorem offerNew_waits (neighbour : neighbourOf s side = some n)
    (h : (dirOf s side).credit = 0 ∨ 16 < s.pli.bulk.length + set.lines.length) :
    (offerNew side set s).hx =
        (s.setDir side { superseding (dirOf s side) with pending := some set }).hx ∧
      (offerNew side set s).pli = s.pli := by
  obtain ⟨credit_, -, -⟩ := supersede_counts (dirOf s side)
  obtain ⟨w, hw⟩ : ∃ w, w = s.setDir side (supersede (dirOf s side)) := ⟨_, rfl⟩
  have dir : dirOf w side = supersede (dirOf s side) := by rw [hw, dirOf_setDir_same]
  have pli : w.pli = s.pli := by simp [hw]
  have near : neighbourOf w side = some n := by
    rw [← neighbour, neighbourOf, neighbourOf, hw]
    simp
  have waits := offerSet_waits (set := set) near (by rw [dir, credit_, pli]; exact h)
  have offers : offerNew side set s = offerSet side set w := by rw [hw]; rfl
  rw [offers, waits, dir, supersede_pending]
  refine ⟨?_, by simp [pli]⟩
  rw [hw, setDir_twice_hx rfl]

end offer

theorem setNotice_other {k : Nat} {s : State} (upper : k ≠ 3) (lower : k ≠ 6) : setNotice (k + 1) s = s := by
  rw [setNotice, if_neg (by omega), if_neg (by omega)]

theorem setNotice_side {k : Nat} {s : State} {side : Side}
    (h : (side = .upper ∧ k = 3) ∨ (side = .lower ∧ k = 6)) : setNotice (k + 1) s = formSet side s := by
  obtain ⟨rfl, rfl⟩ | ⟨rfl, rfl⟩ := h <;> rfl

/-- The state in which line y is BUILT, and what the notices leave of it. -/
theorem LineCourse.noticed {s u t : State} {b b' : BuildRecord} {y : Nat} (c : LineCourse s b y u b' t) :
    ∃ w d, w.lb.build = some d ∧ d.agreed = b.agreed ∧ d.frame = b.frame ∧ w.hx = s.hx ∧ w.pli = s.pli ∧
      w.cu = s.cu ∧ w.sc = s.sc ∧ w.cp.config = s.cp.config ∧ w.cp.ownership = s.cp.ownership ∧
      w.lb.lines = t.lb.lines ∧ t.cp = w.cp ∧ t = lineNotices (b.built + 1) w ∧
      t.hx = (setNotice (b.built + 1) w).hx ∧ t.pli = (setNotice (b.built + 1) w).pli := by
  obtain ⟨w, hw⟩ : ∃ w, w = lineStored y (builtLine u b' y) u := ⟨_, rfl⟩
  obtain ⟨-, cp, cu, pli, hx, sc⟩ := lineStored_blocks y (builtLine u b' y) u
  obtain ⟨cu', pli', hx', sc', -⟩ := c.from_.blocks
  have after : t = lineNotices (b.built + 1) w := by rw [hw]; exact c.after
  have both : t.hx = (setNotice (b.built + 1) w).hx ∧ t.pli = (setNotice (b.built + 1) w).pli := by
    rw [after, lineNotices_eq]
    split <;> simp
  refine ⟨w, { b' with built := b'.built + 1 }, ?_, congrArg (·.agreed) c.from_.record,
    congrArg (·.frame) c.from_.record, by rw [hw, hx, hx'], by rw [hw, pli, pli'], by rw [hw, cu, cu'],
    by rw [hw, sc, sc'], by rw [hw, cp, c.from_.config], by rw [hw, cp, c.from_.ownership], ?_, ?_, after,
    both⟩
  · rw [hw, lineStored_lb, c.from_.build]
    rfl
  · rw [after, lineNotices_lines]
  · rw [after]
    simp

theorem lineFormsSetRule : LineFormsSetRule := by
  intro s b f y h next_
  obtain ⟨u, b', t, course⟩ := buildLine_course h next_
  obtain ⟨w, d, build, agreed, frame, hx, pli, cu, -, -, ownership, lines_, cp, -, t_hx, t_pli⟩ :=
    course.noticed
  have counts_ (side : Side) := neighbourCounts_of cu ownership side
  refine ⟨t, course.runs, fun upper lower => ?_, fun side which => ⟨fun quiet => ?_, ?_⟩⟩
  · rw [t_hx, t_pli, setNotice_other upper lower]
    exact ⟨hx, pli⟩
  · rw [t_hx, t_pli, setNotice_side which, formSet_quiet build (by rw [agreed, counts_]; exact quiet)]
    exact ⟨hx, pli⟩
  · intro n lines set d' yes counts neighbour hlines hset hd
    have core : lines = setCoreLines w.cp.ownership side := by
      rw [hlines, ownership]
      cases side <;> rfl
    have set_ : sideSet w d.frame side = set := by
      rw [hset, sideSet, frame, core]
      refine congrArg (HaloSet.mk b.frame) (List.map_congr_left fun l _ => ?_)
      rw [coreSamples_of lines_.symm (by rw [cp])]
    have length : set.lines.length = lines.length := by rw [hset, List.length_map]
    have near : neighbourOf w side = some n := by
      rw [← neighbour, neighbourOf, neighbourOf, ownership]
    have dir : dirOf w side = dirOf s side := dirOf_of_hx hx side
    have queues := refusesQueueing_counts ((counts_ side).trans counts)
    have superseded : d' = superseding (dirOf s side) := hd
    have hx_of (e : Direction) : (w.setDir side e).hx = (s.setDir side e).hx := by
      cases side <;> simp [State.setDir, hx]
    rw [t_hx, t_pli, setNotice_side which,
      formSet_offers build (agreed.trans yes) ((counts_ side).trans counts), set_]
    refine ⟨fun credit room => ?_, fun waits => ?_⟩
    · obtain ⟨offered_hx, offered_pli⟩ := offerNew_room near (by rw [dir]; exact credit)
        (by rw [pli, length]; exact room) queues
      rw [offered_hx, offered_pli, hx_of, pli, dir, length, superseded, hset]
      exact ⟨rfl, rfl⟩
    · obtain ⟨offered_hx, offered_pli⟩ := offerNew_waits near (by rw [dir, pli, length]; exact waits)
      rw [offered_hx, offered_pli, hx_of, pli, dir, superseded]
      exact ⟨rfl, rfl⟩

/-! ## The Scaler's turn (R170, R175) -/

theorem enterEdges_fresh (s : State) (r : ScalingRecord) (p : BuildPhase) (todo : List Nat) :
    enterEdges s { r with phase := p, todo := todo } = enterEdges s r := by
  have ready : readySides s { r with phase := p, todo := todo } = readySides s r := by
    refine List.filter_congr fun side _ => ?_
    cases side <;> rfl
  rw [enterEdges_eq, enterEdges_eq, ready]
  cases readySides s r <;> rfl

theorem enterInterior_rows {s : State} {r : ScalingRecord} {todo : List Nat}
    (h : todo = if r.bank = none then List.range' s.cp.ownership.firstRow s.cp.ownership.rowCount
      else interiorRows s.cp.config s.cp.ownership) :
    (todo ≠ [] → enterInterior s r = { r with phase := .interior, todo := todo }) ∧
      (todo = [] → enterInterior s r = enterEdges s r) := by
  have rows : (if r.bank.isNone = true then ownedRows s.cp.ownership
      else interiorRows s.cp.config s.cp.ownership) = todo := by
    rw [h, ownedRows]
    cases r.bank <;> rfl
  unfold enterInterior
  rw [rows]
  refine ⟨fun some_ => ?_, fun none_ => ?_⟩
  · simp [some_]
  · rw [none_]
    exact enterEdges_fresh s r .interior []

theorem handToScaler_scaling {s : State} {r : ScalingRecord} (h : s.sc.scaling = some r) :
    (handToScaler s).sc = { s.sc with scaling := some (enterInterior s r) } ∧
      (handToScaler s).lb.build.map (·.phase) = s.lb.build.map fun _ => (enterInterior s r).phase := by
  simp only [handToScaler, h]
  refine ⟨rfl, ?_⟩
  cases build : s.lb.build <;> simp [followScaler, build]

theorem lastLineRule : LastLineRule := by
  intro s b f y r todo h next_ last scaling rows
  obtain ⟨u, b', t, course⟩ := buildLine_course h next_
  obtain ⟨w, d, build, -, -, hx, -, -, sc, config, ownership, -, -, after, -, -⟩ := course.noticed
  obtain ⟨x, hx'⟩ : ∃ x, x = setNotice (b.built + 1) w := ⟨_, rfl⟩
  obtain ⟨lb_, sc_, cp_, upper, lower⟩ := setNotice_blocks (b.built + 1) w
  rw [← hx'] at lb_ sc_ cp_ upper lower
  have final : t = handToScaler x := by
    rw [after, lineNotices_eq, ownership, if_pos last, hx']
  have sides (side : Side) : sideRecord x side = sideRecord s side := by
    cases side with
    | upper => rw [sideRecord, upper, hx]; rfl
    | lower => rw [sideRecord, lower, hx]; rfl
  have edges : enterEdges x r = enterEdges s r :=
    enterEdges_of_sides sides (by rw [cp_, config]) (by rw [cp_, ownership]) r
  obtain ⟨interior, ends⟩ := enterInterior_rows (s := x) (r := r) (todo := todo)
    (by rw [cp_, config, ownership]; exact rows)
  obtain ⟨scaler, phase⟩ := handToScaler_scaling (s := x) (r := r) (by rw [sc_, sc, scaling])
  refine ⟨t, enterInterior x r, course.runs, ?_, ?_, interior, fun none_ => ?_⟩
  · rw [final, scaler, sc_, sc]
  · rw [final, phase, lb_, build]
    rfl
  · rw [ends none_, edges]
    exact entersEdges_of (fun _ => rfl) fun _ => trivial

end Sys2Proof.Machine
end

section
/-! SUPPORT. BUILD_LINE as a whole: own lines that are usable, lines under BOB, and nothing to build
(R138, R139, R141). -/

namespace Sys2Proof.Machine

theorem exec_buildLine_idle {s : State} (h : Live s)
    (idle : ∀ b, s.lb.build = some b →
      b.phase ≠ .lines ∨ s.cp.ownership.coreHigh - s.cp.ownership.coreLow ≤ b.built) :
    exec .buildLine s = .next s := by
  have step := buildLineStep_idle idle
  have runs : exec .buildLine s = .next (buildLineStep s) :=
    live_next_of_pending h (by rw [step])
  rw [runs, step]

/-- R139: an own line that is usable. -/
structure OwnWhole (s : State) (b : BuildRecord) (f : FoundField) (y : Nat) (v : LineSamples) : Prop where
  next_ : NextLine s b f y
  parity : lineParity y = f.parity
  whole : WholeEntry s f.slot (y / 2) v

theorem OwnWhole.unrepaired {s : State} {b : BuildRecord} {f : FoundField} {y : Nat} {v : LineSamples}
    (h : OwnWhole s b f y v) : ∀ z ∈ linesRead s b y, repairAt s z = s := by
  obtain ⟨⟨build, -, current, -, -⟩, parity, whole⟩ := h
  rw [linesRead_own (by rw [ownParity_of current, parity])]
  intro z mem
  rw [List.mem_singleton] at mem
  rw [mem]
  exact repairAt_whole build current whole

/-- A line with no notice after it changes the lines and the build's count alone. -/
theorem LineCourse.plain {s u t : State} {b b' : BuildRecord} {y : Nat} (c : LineCourse s b y u b' t)
    (build : s.lb.build = some b) (whole : ∀ z ∈ linesRead s b y, repairAt s z = s)
    (upper : b.built + 1 ≠ 4) (lower : b.built + 1 ≠ 7)
    (more : b.built + 1 ≠ s.cp.ownership.coreHigh - s.cp.ownership.coreLow) :
    t = s.setLb { s.lb with lines := t.lb.lines, build := some { b with built := b.built + 1 } } := by
  have lines := c.lines
  have after := c.after
  obtain ⟨rfl, rfl⟩ := c.unrepaired build whole
  have stored := lineStored_lb y (builtLine u b' y) u
  obtain ⟨-, cp, -⟩ := lineStored_blocks y (builtLine u b' y) u
  rw [lineNotices_none upper lower (by rw [cp]; exact more)] at after
  have lb : t.lb = { u.lb with lines := t.lb.lines, build := some { b' with built := b'.built + 1 } } := by
    rw [lines, after, stored, build]
    rfl
  rw [← lb, after]
  rfl

/-- Settles O50. -/
theorem buildLineBuildsTheNextLine : Obligations.BuildLineBuildsTheNextLine := by
  refine ⟨wovenLineRule, intraLineRule, adaptiveLineRule, repairedLineRule, lineFormsSetRule,
    lastLineRule, fun s h idle => exec_buildLine_idle h idle,
    fun s b f y h build phase left line current repairs => ⟨fun e v parity at_ state samples => ?_,
      fun e1 e2 v1 v2 missing bob inside at1 at2 state1 state2 samples1 samples2 => ?_⟩⟩
  · have next_ : NextLine s b f y := ⟨build, phase, current, left, line⟩
    have whole : WholeEntry s f.slot (y / 2) v := ⟨e, at_, state, samples⟩
    have unrepaired := (OwnWhole.mk next_ parity whole).unrepaired
    obtain ⟨u, b', t, course⟩ := buildLine_course h next_
    obtain ⟨d, build_, built, frame⟩ := course.build
    obtain ⟨lines, fs, cp⟩ := course.whole build unrepaired
    have unfilled : filledLine b (y / 2) = false := by
      rw [← Bool.not_eq_true, filledLine_iff]
      exact not_filledBy repairs _
    refine ⟨t, d, course.runs, fs, cp, ?_, build_, built, frame, course.plain build unrepaired⟩
    rw [lines, builtLine_own current parity whole, unfilled]
  · have between : BetweenWhole s b f y v1 v2 :=
      ⟨⟨build, phase, current, left, line⟩, missing, inside, ⟨e1, at1, state1, samples1⟩,
        ⟨e2, at2, state2, samples2⟩⟩
    have intra : AllIntra s b y := fun _ _ _ _ => .inl bob
    obtain ⟨t, runs, built, fs, cp⟩ := between.built h
    rw [filledAround_none inside repairs, Bool.and_false] at built
    refine ⟨t, _, runs, fs, cp, built, fun x p q hx hp hq => ?_, fun x p q hx => ⟨fun hp hq => ?_,
      fun hp hq => ?_⟩⟩
    · exact intra_sample between intra (.inl ⟨rfl, rfl⟩) hx hp hq
    · exact intra_sample between intra (.inr (.inl ⟨rfl, rfl⟩)) hx hp hq
    · exact intra_sample between intra (.inr (.inr ⟨rfl, rfl⟩)) hx hp hq

end Sys2Proof.Machine
end
